-- ==== Sys2Proof/Word.lean ====
section
/-! DEFINITION. The 128-bit word of R4, and the small closed sets of names that commands and state share. -/

namespace Sys2Proof

/-- A word is 128 bits, bit 127 the most significant (R4). -/
abbrev Word := BitVec 128

/-- One byte of a datagram, a transfer, an FSK frame or an image. -/
abbrev Byte := BitVec 8

/-- The two controllers, and the side of a pod link, a port or a claim that belongs to each (R22, R259). -/
inductive Side
  | a | b
  deriving DecidableEq, Repr

/-- The other controller. -/
def Side.other : Side → Side
  | .a => .b
  | .b => .a

/-- The module modes (R34); the code of a mode is its place in this list. -/
inductive Mode
  | boot | calibrate | commission | service | recovery | safeHold | maintain | dormant
  deriving DecidableEq, Repr

/-- The controller roles (R52); the code of a role is its place in this list. -/
inductive Role
  | syncing | standby | active | isolated
  deriving DecidableEq, Repr

/-- The ports a journalled request can come from, with the codes of `PORT` in R297. -/
inductive Port
  | frame | eth1 | eth2 | usb | spi | internal
  deriving DecidableEq, Repr

/-- The dies a debug access addresses (R477). -/
inductive Die
  | arbiter | ctrl (x : Side)
  deriving DecidableEq, Repr

/-- The header fields of a request that has passed steps 1 and 3 of R291, and the sender it came from
(R283, R287): the receiving port, the sender's IPv4 address and UDP port on Ethernet, `SESSION`, `SEQ`,
`TAG`, and `CRC`, which becomes the `DIGEST` of its logline entry (R298). -/
structure Req where
  port    : Port
  ip      : Nat
  udp     : Nat
  session : Nat
  seq     : Nat
  tag     : Nat
  crc     : Nat
  deriving DecidableEq, Repr

/-- A downlink frame as a pod receives it, apart from its payload (R260, R266): the link side, the full
sequence, the mode code, the frame time (24 bits) and the tether field (48 bits). -/
structure DownHdr where
  side   : Side
  seq    : Nat
  mode   : Nat
  ftime  : Nat
  tether : BitVec 48
  deriving DecidableEq, Repr

/-- An uplink frame as a controller receives it (R260, R272): link, header (48 bits), `PSTAT` (48 bits),
payload, and the full sequence the receiver reconstructed under R263. -/
structure UpFrame where
  link    : Nat
  seq     : Nat
  hdr     : BitVec 48
  pstat   : BitVec 48
  payload : Word
  deriving DecidableEq, Repr

/-- An Announce as a port receives it (R98): the master's identity, the rank of its dataset (a lower number is better) and the log
announce interval. -/
structure Announce where
  ident   : Nat
  quality : Nat
  logInt  : Int
  deriving DecidableEq, Repr

/-- A Sync as a port receives it, with its Follow_Up (R96, R98): the master's identity, the log Sync interval, and MTIME at the receipt
less the time the master sent, in ns. -/
structure Sync where
  ident  : Nat
  logInt : Int
  offset : Int
  deriving DecidableEq, Repr

/-- The header word of a rope slot and the slot's check (R402, R404). -/
structure SlotHead where
  header : Word
  check  : BitVec 32
  deriving DecidableEq, Repr

/-- A CSF as a knot receives it (R402, R403): its header and time words, its delay field, its 8 command words and its check. What
its commands do are commands of their own (R405). -/
structure Csf where
  header : Word
  time   : Word
  delay  : BitVec 32
  body   : List Word
  check  : BitVec 32
  deriving DecidableEq, Repr

/-- The mirrored items of R373. -/
inductive MirrorItem
  | image | dutyTable (duty : Nat) | stageState (duty : Nat) | sessions | tags | logline | keepQueue
  | tracker | episode
  deriving DecidableEq, Repr

/-- The watchdogs: the supervisor watchdog of a controller, or the host watchdog of a session (R429, R442). -/
inductive Dog
  | supervisor (x : Side) | host (session : Nat)
  deriving DecidableEq, Repr

end Sys2Proof
end

