-- ==== Sys2Proof/Syntax.lean ====
section
/-! DEFINITION. The commands of the block: one constructor per row of spec/opcode_table.json, in the table's order.
A request message carries its header fields `q` and its payload words as R283 lays them out; an event of the module,
the field, a link or a timer carries what the module receives or measures in it. -/

namespace Sys2Proof

/-- The steps of the module (spec/opcode_table.json). -/
inductive Instr
  -- Requests of the host (R294). `p` is the payload, in the message's own layout.
  | sessionOpen (q : Req) (p : List Word)
  | sessionResume (q : Req) (p : List Word)
  | sessionClose (q : Req) (p : List Word)
  | cfgRead (q : Req) (p : List Word)
  | cfgWriteDigitalChannel (q : Req) (p : List Word)
  | cfgWriteLoopChannel (q : Req) (p : List Word)
  | cfgWriteConversion (q : Req) (p : List Word)
  | cfgWriteAngleCfg (q : Req) (p : List Word)
  | cfgWriteStartMode (q : Req) (p : List Word)
  | cfgWriteWdogCfg (q : Req) (p : List Word)
  | cfgWriteHostWdogCfg (q : Req) (p : List Word)
  | cfgWriteFaultCfg (q : Req) (p : List Word)
  | injectionStart (q : Req) (p : List Word)
  | cfgWriteRopeCfg (q : Req) (p : List Word)
  | ropeResetRequest (q : Req) (p : List Word)
  | cfgWritePortCfg (q : Req) (p : List Word)
  | cfgWriteSpiWindow (q : Req) (p : List Word)
  | modeRequest (q : Req) (p : List Word)
  | dutyDefine (q : Req) (p : List Word)
  | dutyStart (q : Req) (p : List Word)
  | dutyStop (q : Req) (p : List Word)
  | dutyQuery (q : Req) (p : List Word)
  | placementQuery (q : Req) (p : List Word)
  | sampleReadLatest (q : Req) (p : List Word)
  | sampleReadConvert (q : Req) (p : List Word)
  | sampleReadUrgent (q : Req) (p : List Word)
  | outputSet (q : Req) (p : List Word)
  | testDrive (q : Req) (p : List Word)
  | testDriveEnd (q : Req) (p : List Word)
  -- The duration of a test on a channel runs out.
  | testDriveExpiry (ch : Nat)
  | calStart (q : Req) (p : List Word)
  | trimArmIn (q : Req) (p : List Word)
  | trimArmOut (q : Req) (p : List Word)
  | trimCaptureZero (q : Req) (p : List Word)
  | trimCaptureSpan (q : Req) (p : List Word)
  | trimMeasZero (q : Req) (p : List Word)
  | trimMeasSpan (q : Req) (p : List Word)
  | trimCommit (q : Req) (p : List Word)
  | trimCancel (q : Req) (p : List Word)
  | trimReset (q : Req) (p : List Word)
  -- The means of the raw results over the whole capture and over its two halves (R218).
  | trimCaptureEnd (mean half1 half2 : Int)
  | trimWindowExpiry
  | zeroPress
  | spanPress
  | trimButtonsHeld
  | fskSend (q : Req) (p : List Word)
  | fskTransmitStart (ch : Nat)
  | fskReplyTimeout (ch : Nat)
  -- The bytes from the delimiter to the checksum, whether every character had good parity, and whether no gap
  -- exceeded 2 character times (R225).
  | fskFrameReceived (ch : Nat) (bytes : List Byte) (parityOk gapsOk : Bool)
  -- 1 to 3 received characters of a frame, as the pod packs them (R227).
  | fskCharacter (ch : Nat) (bytes : List Byte) (first last parityErr : Bool)
  | abort (q : Req) (p : List Word)
  | journalRead (q : Req) (p : List Word)
  | faultRead (q : Req) (p : List Word)
  | faultAck (q : Req) (p : List Word)
  | faultPinRelease (q : Req) (p : List Word)
  | wdogAnswer (q : Req) (p : List Word)
  -- `host`: the poll is of the session's host watchdog (HOST_WDOG_ANSWER), else of the supervisor watchdog.
  | wdogPoll (host : Bool) (q : Req) (p : List Word)
  | hostWdogAnswer (q : Req) (p : List Word)
  | wdogKey (q : Req) (p : List Word)
  | wdogKeyArmExpiry
  | keepRead (q : Req) (p : List Word)
  | keepWrite (q : Req) (p : List Word)
  | keepGroupEnd (x : Side)
  | crcOpen (q : Req) (p : List Word)
  | crcFeed (q : Req) (p : List Word)
  | crcGet (q : Req) (p : List Word)
  | crcPut (q : Req) (p : List Word)
  | fwStageBegin (q : Req) (p : List Word)
  | fwStageData (q : Req) (p : List Word)
  | fwStageEnd (q : Req) (p : List Word)
  | fwStageDiscard (q : Req) (p : List Word)
  | sectorEraseDone (x : Side)
  | fwSwap (q : Req) (p : List Word)
  | fwRollback (q : Req) (p : List Word)
  -- The converted settings words by offset in the area, as the tadpole's own image forms them (R391).
  | settingsMigrationEnd (x : Side) (converted : List (Nat × Word))
  | handover
  -- Reason code of R393.
  | tailDrop (x : Side) (reason : Nat)
  | tadpoleTimeout (x : Side)
  | claimTimeout
  | soakEnd
  | ropeStatus (q : Req) (p : List Word)
  | snapshot (q : Req) (p : List Word)
  | snapshotTimeout
  | sleepPropose (q : Req) (p : List Word)
  -- Ports.
  | frameHeaderWord (w : Word)
  | framePayloadWord (w : Word)
  -- The word, and the MTIME of its arrival less the fixed receive latency (R345).
  | angleWord (w : Word) (atMtime : Nat)
  | frameBadWord
  -- The gap, in ns.
  | frameMessageGap (gap : Nat)
  | frameLaneAlignment (lane : Nat) (aligned : Bool)
  -- The port's side, the sender's IPv4 address and UDP port, and the UDP payload.
  | udpDatagram (x : Side) (ip udp : Nat) (bytes : List Byte)
  -- A fragment: identification, byte offset in the UDP payload, its bytes, and whether more follow.
  | ipv4Fragment (x : Side) (ip udp ident offset : Nat) (bytes : List Byte) (more : Bool)
  | reassemblyTimeout (x : Side) (ident : Nat)
  | arpRequest (x : Side) (ip sender : Nat)
  | icmpEchoRequest (x : Side) (ip sender : Nat) (data : List Byte)
  -- A whole message that arrived on the Ethernet port of controller `x`: header and payload words.
  | relayedMessage (x : Side) (ip udp : Nat) (header : Word) (p : List Word)
  | ep1OutTransfer (bytes : List Byte)
  | usbPacketGap
  | identity
  | message (bytes : List Byte)
  | counters
  | locate (seconds : Nat)
  | locateExpiry
  | usbBusReset
  | usbSuspend
  | usbReattach
  -- The SCLK cycles of the transfer and the bits shifted in, the first at bit 31 (R328, R331).
  | spiBadFrame
  | spiWriteDout (value : BitVec 16)
  | spiWriteConfig (addr : Nat) (value : BitVec 16)
  | spiWriteStatus (value : BitVec 16)
  -- Which claim register (0x20 A, 0x21 B).
  | spiWriteClaim (reg : Side) (value : BitVec 16)
  | spiWriteOther (cycles : Nat) (frame : BitVec 32)
  | spiWriteCommit
  | compatSpliceTakeover (x : Side)
  | loglineCommit
  -- `readAt`: `none` after a failed write, else the word an uncorrectable read found (R301).
  | loglineFailure (x : Side) (readAt : Option Word)
  | replySend (session : Nat)
  | eventSend (session : Nat)
  -- Angle and time.
  | angleUpdate
  -- The period estimate after the crossing, in units of 0.25 ns.
  | as0ZeroCrossing (period : Nat)
  -- The pulse width in ns and whether the edge is a rising one (R76).
  | carrierSyncEdge (width : Nat) (rising : Bool)
  | sourceLoss (src : Nat)
  -- The measured angle.
  | acquireLock (src : Nat) (angle : BitVec 16)
  | relockComplete (src : Nat)
  | flywheelLimit (src : Nat)
  | inputValidAgain (src : Nat) (angle : BitVec 16)
  -- Domain, the master's identity, the dataset of the best master clock comparison as one number (lower is better),
  -- currentUtcOffset, and the log of the announce interval.
  | ptpAnnounce (x : Side) (domain : Nat) (a : Announce) (utcOffset : Nat)
  | ptpAnnounceTimeout (x : Side)
  -- Domain, the master's identity, the log of the Sync interval, and how far MTIME at the receipt stands ahead of the time that
  -- the Sync or its Follow_Up carries, in ns: the offset from the master (R96) plus the path delay (R98).
  | ptpSync (x : Side) (domain : Nat) (y : Sync)
  | ptpDelayReqSend (x : Side)
  -- The path delay in ns and the log of the Delay_Req interval it names.
  | ptpDelayResp (x : Side) (delay : Nat) (logInterval : Int)
  -- Engines, named by their number 0 to 191, and the supervisor's placement work.
  | executionDispatch (engine : Nat)
  | leapfrogExamine (engine : Nat)
  | acquire (engine : Nat)
  | filter (engine : Nat)
  | compare (engine : Nat)
  | count (engine : Nat)
  | logic (engine : Nat)
  | sequence (engine : Nat)
  | drive (engine : Nat)
  | forceSafe (engine : Nat)
  | publish (engine : Nat)
  | checkValue (engine : Nat)
  | relay (engine : Nat)
  | rebalance
  | migrationSwitch (duty : Nat)
  | shadowPlacement (x : Side)
  -- The engine cycles its completed stages took.
  | slowWindow (engine taken cost : Nat) (completed busy : Bool)
  | calibrateEnd
  -- Pod links.
  | downlinkFrame (x : Side) (link : Nat)
  | podOutputFrame (link : Nat) (h : DownHdr) (payload : Word)
  | podConfigFrame (link : Nat) (h : DownHdr) (sub : Nat) (payload : Word)
  | podRequestUrgent (link : Nat) (h : DownHdr) (payload : Word)
  | podRequestTrigger (link : Nat) (h : DownHdr) (payload : Word)
  | podRequestSelfCal (link : Nat) (h : DownHdr) (payload : Word)
  | podTimeFrame (link : Nat) (h : DownHdr) (payload : Word)
  | podFskFrame (link : Nat) (h : DownHdr) (payload : Word)
  | podIdleFrame (link : Nat) (h : DownHdr)
  | podBadFrame (link : Nat) (x : Side)
  | uplinkFrame (x : Side) (f : UpFrame)
  | uplinkBadFrame (x : Side) (link : Nat)
  | podUplinkSend (link : Nat)
  | autonomousHoldStart (link : Nat)
  | leaseLapse (link : Nat)
  | holdExpiry (ch : Nat)
  | podTetherAcceptAny (link : Nat)
  | referenceFallback (link : Nat)
  | podPowerUp (bay : Nat)
  | podPowerDown (bay : Nat)
  -- Digital channels.
  -- How long the raw samples have differed from the debounced state without a break, in ns.
  | debounceChange (ch : Nat)
  -- The new level and the 25 ns tick.
  | edgeCapture (ch : Nat) (level : Bool) (tick : Nat)
  | openVerdict (ch : Nat) (isOpen : Bool)
  | overloadTrip (ch : Nat)
  | shortTrip (ch : Nat)
  -- The junction temperature in °C.
  | overtempTrip (ch : Nat) (temp : Int)
  -- The pod, and the pins whose high side shares the largest current within the measuring resolution.
  | podIlimTrip (pod : Nat) (largest : List Nat)
  | protectionRetry (ch : Nat)
  | protectionClear (ch : Nat)
  | mismatchVerdict (ch : Nat) (differs : Bool)
  | offStateShortVerdict (ch : Nat) (high : Bool)
  | levelChangeDeferred (ch : Nat)
  -- Loop channels. `raw` is the result of a window before the factors of self-calibration and trim, LSB 2 nA (R253).
  | conversionResult (ch : Nat) (raw : Int)
  | readbackResult (ch : Nat) (raw : Int)
  | triggeredConversionEnd (ch : Nat) (raw : Int)
  | urgentConversionEnd (ch : Nat) (raw : Int)
  | modulatorPowerDown (ch : Nat)
  | modulatorStartUpEnd (ch : Nat)
  | loopBreakTrip (ch : Nat) (raw : Int)
  | loopBreakConfirm (ch : Nat)
  | loopBreakRelease (ch : Nat) (raw : Int)
  | selfCalPhaseEnd (pod : Nat)
  -- For each of the four channels: front-end temperature, primary and readback offset (LSB 4 nA) and gain (2^-20),
  -- the difference of the two paths in phase 7, the field current then, and the reference deviation in ppm.
  | selfCalEnd (pod : Nat) (temp priOff rbOff priGain rbGain diff current refDev : List Int)
  | diagInputMeasurement (pod : Nat) (value : Int)
  | loopOvertemp (ch : Nat) (hot : Bool)
  | verifyOpenLoop (ch : Nat)
  | verifyCompliance (ch : Nat)
  -- The DIAG bit number of the verdict that clears.
  | verifyClear (ch : Nat) (bit : Nat)
  | supplyVerdict (ch : Nat) (bad : Bool)
  | almChange (pod : Nat) (level : Nat)
  -- Redundancy.
  | heartbeatSend (x : Side)
  | heartbeatReceive (x : Side) (w : BitVec 64)
  | controllerFailed (x : Side)
  | tetherGrant
  | tetherRenewal
  | arbiterLeaseEnd
  | arbiterResetPulse (x : Side)
  | arbiterStart
  | arbiterRenewWatch (x : Side)
  | takeover (x : Side)
  | mirrorUpdate (item : MirrorItem)
  | spliceWordBad (x : Side)
  | spliceLost (x : Side)
  | spliceRestored (x : Side)
  | bulkCopyComplete (x : Side)
  -- Whether image slots 0 and 1 verify, and whether the logline area passes its start-up test (R384, R385, R301).
  | controllerBoot (x : Side) (ok0 ok1 logOk : Bool)
  -- Watchdogs and faults.
  | wdogWindowClose (d : Dog)
  | wdogCoreAnswer (x : Side) (token : BitVec 32)
  | wdogClockTrip (x : Side)
  | suspensionTimeout (x : Side)
  | watchdogReset (x : Side)
  | faultRaise (x : Side) (source : Nat) (injected : Bool)
  | reactionTimerExpiry
  | faultPinMinHold
  | partnerFaultReset (x : Side)
  | conditionReraise (x : Side) (source : Nat)
  | vbatRise
  | powerFailWarning
  | powerFailClear
  | holdUpSpent
  | dutyStoreWriteDone (x : Side) (duty : Nat)
  -- Rope.
  | csfLaunch
  | csfReceive (f : Csf)
  | ropeCmdSnapshot (w mask : Word)
  | ropeCmdSleepPropose (w : Word)
  | ropeCmdSleepCommit (w : Word)
  | ropeCmdSleepAbort (w : Word)
  | ropeCmdRopeReset (w : Word)
  | ropeCmdSnapshotRefused (w : Word)
  -- The measured slot start error in ns.
  | slotSend (error : Nat)
  | slotDataReceive (h : SlotHead) (p : List Word)
  | joinReceive (h : SlotHead)
  | ropeAngleLoss
  | masterTimeout
  | noCsfTimeout
  | bypassChange
  | dormantEntry
  | wakePin
  | wakeFrameSend
  | wakeFrameReceive (knot : Nat)
  | wake
  | sleepOrphanWake
  -- Debug.
  | fyvailTransactionAbandon
  | holdOut (d : Die)
  | yieldHalt (d : Die)
  | yieldHaltTimeout (x : Side)
  | haltInPlace (d : Die)
  | resume (d : Die)
  | releaseDebug (d : Die)
  | resetDie (d : Die)
  | fyvailMemoryWrite (d : Die) (addr : Nat) (data : BitVec 32)
  | fyvailWrite (d : Die) (aport addr : Nat) (data : BitVec 32)
  | coreStep (x : Side)
  | coreBreakpointHit (x : Side)
  | engineBreakpointHit (engine : Nat)
  | engineStep (engine : Nat)
  -- The boundary data shifted in.
  | extest (d : Die) (scan : Nat)
  | intest (d : Die) (scan : Nat)
  | idcode (d : Die)
  | samplePreload (d : Die) (scan : Nat)
  | bypass (d : Die) (bit : Bool)
  -- Added rows, in the table's order.
  | acquireInputInvalid (src : Nat)
  | fskTransmitEnd (ch : Nat)
  | loopOvertempFlagClear (ch : Nat)
  | loopOverloadVerdict (ch : Nat) (exceeds : Bool)
  | calTempDeparture (ch : Nat) (temp : Int)
  -- 0 down, 1 up at 100 Mbit/s, 2 up at 1000 Mbit/s.
  | ethernetLinkChange (x : Side) (link : Nat)
  | usbVbusChange (present : Bool)
  | usbResume
  deriving DecidableEq, Repr

end Sys2Proof
end

