-- ==== Sys2Proof/Config.lean ====
section
/-! DEFINITION. What one module fixes and the spec leaves open: factory data and free values. Every constant here is
opaque, so nothing can be proved of its value; notes/assumptions name each. -/

namespace Sys2Proof.Config

/-- A fresh free value: the machine applies it to a counter of the state that it advances at each use
(`RESUME_KEY` of R305, challenges of R435, the core's state after R486). -/
opaque freeValue : Nat → Nat

/-- The module's 32-bit binary serial number, set in the factory and unique (R403, R426). -/
opaque serialNumber : BitVec 32

/-- The 16 ASCII bytes of the serial number that IDENTITY returns (R353). -/
opaque serialAscii : Nat → Byte

/-- The version of the factory image (R2). -/
opaque factoryVersion : BitVec 32

/-- The settings schema version of the factory image (R2, R384). -/
opaque factorySchema : BitVec 16

/-- IDCODE of a die (R475). -/
opaque idcode : Die → BitVec 32

/-- What a die's boundary register samples at its pins (R475): the pins' levels are not part of the module's state. -/
opaque boundaryPins : Die → Nat → Nat

/-- The fixed delay of a pod's link in ns, measured in the factory (R273). -/
opaque linkDelay : Nat → Nat

/-- The knot's forwarding delay in ns, measured in the factory (R406). -/
opaque forwardDelay : Nat

/-- The mean of a rounding or a reading for which the spec states no result, by the operands it depends on
(a trim gain whose divisor is 0 under R218, the IIR difference beyond its width). -/
opaque openResult : Int → Int → Int

/-- The instant and the value of an image record that is asked for, by channel and instant, before the controller has any
image of the pod (R180 forms it from the newest image; log entry 53). -/
opaque noImageTime : Nat → Nat → Nat
opaque noImageValue : Nat → Nat → Nat

/-- Bytes 20 to 47 of IDENTITY, by the versions of image slots 0 and 1 and of the running image (R353 names them and gives no
layout). -/
opaque identityVersions : BitVec 32 → BitVec 32 → BitVec 32 → Nat → Byte

/-- The byte address of SRAM's first byte at the Fyvail port's MEMORY (R478 gives no map; log entry 52). -/
opaque sramBase : BitVec 32

/-- The SRAM byte that a MEMORY address of the Fyvail port names: addresses count bytes up from SRAM's first one (R478). -/
def sramAddress (addr : Nat) : Option Nat := if sramBase.toNat ≤ addr then some (addr - sramBase.toNat) else none

/-- The stage breakpoint, a duty and a stage, that an ENGINE register at an address arms when it holds a value (R487). -/
opaque stageBreakpoint : Nat → BitVec 32 → Option (Nat × Nat)

/-- Whether a CORE write of a value at an address halts the core, lets it run, or neither (R482, R486). -/
opaque coreControl : Nat → BitVec 32 → Option Bool

/-- Which of the free duty slots of its memory bank an opened slot takes, by the duty's number (R143 gives the bank no rule;
log entry 12). -/
opaque slotBank : Nat → Nat

end Sys2Proof.Config
end

