-- ==== Sys2Proof/Machine/State.lean ====
section
/-! DEFINITION. The state of the module: what each controller holds, the arbiter, the pods and their channels, the
straps and supplies, the queue of waiting commands, and what has left the module. Plain data throughout. -/

namespace Sys2Proof.Machine

/-- Sparse data by key: keys strictly rising, and no entry equal to what an unlisted key reads as. -/
abbrev Tab (α : Type) := List (Nat × α)

/-- Byte memory by address (SRAM and NOR of a controller), in the same canonical form. -/
abbrev Memory := List Host.Cell

/-! ## Field side -/

/-- Receive states of a link end (R264). -/
inductive RxState
  | hunt | good | degraded
  deriving DecidableEq, Repr

/-- One receiving end of a link (R263, R264): its state, consecutive good and bad frames, and the sequence of the
newest frame that checked, and that of the last good frame, which the other end acknowledges (R272). -/
structure Rx where
  st   : RxState := .hunt
  good : Nat := 0
  bad  : Nat := 0
  seq  : Nat := 0
  last : Nat := 0
  deriving DecidableEq, Repr

/-- Why a hold runs (R193): a lease lapse, the pod's autonomous hold, or `SAFE_HOLD_LAST` applied by command. -/
inductive HoldKind
  | lease | auto | safeCmd
  deriving DecidableEq, Repr

/-- A running hold: the instant it ends, why it runs (R193, R212), and whether the pod's LEASE_HOLD or LINK_HOLD counts it: every
hold of a lapse or a silence, and one of a command that ran when either began (R275, R279). -/
structure Hold where
  ends   : Nat
  kind   : HoldKind
  counts : Bool := true
  deriving DecidableEq, Repr

/-- A captured edge (R184): level, path (raw in EDGE use), stamp as `REF_SEQ` and `TICK`, the order of latching, and the edges
lost since the capture before. -/
structure Capture where
  level  : Bool
  raw    : Bool
  refSeq : Nat
  tick   : Nat
  order  : Nat
  lost   : Nat
  deriving DecidableEq, Repr

/-- A channel switched off by protection (R187, R188): when, the level it was commanded, and whether for temperature. -/
structure Protection where
  since   : Nat
  level   : Nat
  thermal : Bool
  deriving DecidableEq, Repr

/-- One digital channel as its pod holds it (R169 to R195). `drive` is the drive state now: 0 off, 1 low, 2 high; `target`
the level it is commanded, held or made safe to; `held` a level that R172
defers; `lastChange` the instant of its last level change; `safeApplied` that it is at its safe value; `offShort` the `SHORT` of
the off state, which has a verdict of its own (R189); `since` when the debounced state last changed or the window was discarded
(R177, R179); `openFrom` since when a wire-break verdict counts its 4 ms (R185). -/
structure DigCh where
  configured  : Bool := false
  cfg         : Word := 0
  state       : Bool := false
  drive       : Nat := 0
  target      : Nat := 0
  held        : Option Nat := none
  lastChange  : Option Nat := none
  safeApplied : Bool := false
  hold        : Option Hold := none
  capture     : Option Capture := none
  lost        : Nat := 0
  diag        : BitVec 8 := 0
  prot        : Option Protection := none
  drivingAt   : Nat := 0
  offShort    : Bool := false
  since       : Nat := 0
  openFrom    : Nat := 0
  deriving DecidableEq, Repr

/-- The command in force on a loop output: none since it became an output, a current in LSB of 2 nA, or its safe value. -/
inductive LoopCmd
  | none | current (lsb : Nat) | safe
  deriving DecidableEq, Repr

/-- One loop channel as its pod holds it (chapters 07 and 08). `gridNo` is the number of the newest instant of the conversion
grid whose window is over (R238), `mark` the number of the newest boundary of AS0 that made a result (R242), `relock`
that AS0 has locked and the decimator restarts at the next boundary (R241), `urgentIndex` the index of the window an urgent
conversion stands for (R247), `trigStart` the instant at which a triggered window starts (R245), `clampAt` the last clamp of a surge (R213). -/
structure LoopCh where
  configured  : Bool := false
  cfg         : Word := 0
  conv        : Word := 0
  trim        : Word := 0
  cmd         : LoopCmd := .none
  source      : Nat := 0
  safeApplied : Bool := false
  hold        : Option Hold := none
  diag        : BitVec 8 := 1
  pending     : Bool := false
  tripAt      : Nat := 0
  tripped     : Bool := false
  settle      : Nat := 0
  index       : Nat := 0
  rbIndex     : Nat := 0
  segs        : List Int := []
  skipFirst   : Bool := false
  trigRun     : Bool := false
  trigSkip    : Bool := false
  urgent      : Bool := false
  powered     : Bool := false
  starting    : Bool := false
  lastResult  : Nat := 0
  trigLost    : Nat := 0
  aborts      : Nat := 0
  fskErrors   : Nat := 0
  hot         : Bool := false
  coolAt      : Nat := 0
  rbBad       : Nat := 0
  setAt       : Nat := 0
  calState    : Nat := 0
  calResult   : Nat := 0
  calTemp     : BitVec 8 := 0
  priOff      : BitVec 16 := 0
  rbOff       : BitVec 16 := 0
  priGain     : BitVec 16 := 0
  rbGain      : BitVec 16 := 0
  calCount    : Nat := 0
  calAt       : Nat := 0
  departed    : Bool := false
  txBytes     : List Byte := []
  sending     : Bool := false
  gridNo      : Nat := 0
  mark        : Option Nat := none
  relock      : Bool := false
  urgentIndex : Nat := 0
  trigStart   : Nat := 0
  clampAt     : Option Nat := none
  deriving DecidableEq, Repr

/-- What waits in a pod for an uplink slot (R274, R276): a captured edge of a pin, or a value, diagnostic or FSK slot of
a position with its L1 fields, flags (bits [27:22] of a value slot) and stamp. -/
inductive UpItem
  | value (pos path index : Nat) (value : Int) (flags refSeq tick : Nat)
  | diag (pos l1 refSeq tick : Nat)
  | fsk (pos l1 refSeq tick : Nat)
  deriving DecidableEq, Repr

/-- One pod: tether acceptance (R367 to R369), both downlink receivers, the mode and reference it holds (R280, R184),
its AS0 angle (R269), its uplink (R272), its holds (R275, R279; `quiet` that the silence now has begun its hold), the claims
its links carry under COMPAT (R381), and, for a loop pod, ALM and calibration. -/
structure Pod where
  powered     : Bool := false
  epoch       : BitVec 32 := 0
  lease       : Bool := false
  leaseEnd    : Nat := 0
  renew       : Nat := 0
  acceptAny   : Bool := false
  lastPass    : Nat := 0
  rxA         : Rx := {}
  rxB         : Rx := {}
  mode        : Mode := .boot
  refSide     : Side := .a
  refFallback : Bool := false
  refSeq      : Nat := 0
  refStart    : Nat := 0
  mtime       : Nat := 0
  timeAt      : Nat := 0
  angle0      : BitVec 16 := 0
  state0      : Nat := 0
  cycle0      : Nat := 0
  period0     : Nat := 0
  lastGoodA   : Nat := 0
  lastGoodB   : Nat := 0
  leaseHold   : Bool := false
  linkHold    : Bool := false
  holdFirst   : HoldKind := .lease
  quiet       : Bool := false
  claimA      : Option Nat := none
  claimB      : Option Nat := none
  safe        : Bool := false
  reqNo       : Option Nat := none
  upSeq       : Nat := 0
  detailPin   : Nat := 0
  captures    : Nat := 0
  items       : List UpItem := []
  alm         : Nat := 0
  almRead     : Bool := false
  calPhase    : Nat := 0
  calStart    : Nat := 0
  urgentAfter : List Nat := []
  diagNext    : Nat := 1
  refBad      : Nat := 0
  supplyBad   : Bool := false
  deriving DecidableEq, Repr

/-! ## A controller's parts -/

/-- Tracker states (R80); the code of a state is its place in this list. -/
inductive TrackSt
  | noSignal | acquire | locked | relock | flywheel | fallback | lost
  deriving DecidableEq, Repr

/-- A stretch of a tracker's history (R102): from `mt` of MTIME on its angle runs on from `angle` at `period`, in a state and with
its `FLYWHEEL`; `cut` is the MTIME at which a step of MTIME ended it. -/
structure Stretch where
  mt     : Nat
  angle  : Nat
  period : Nat
  st     : TrackSt
  fly    : Bool
  cut    : Option Nat := none
  deriving DecidableEq, Repr

/-- Where a duty or an angle trigger counts its cycles from (R71): the cycle `c0`, whether it has begun, and whether it is
over. -/
structure CycleRef where
  c0      : BitVec 32 := 0
  begun   : Bool := false
  crossed : Bool := false
  deriving DecidableEq, Repr

/-- One angle source (R68 to R93). `rem` is the remainder of the last advance, `slew` the error being removed by rate,
`from` the state ACQUIRE came from, `since` when the flywheel or the re-lock began, `freq` the frequency in nHz and `slope`
its estimated change in nHz per µs (R75, R80), `edges`, `lastEdge` and `outOf` the accepted edges, words or crossings since the
last loss, the instant of the newest (MTIME for AS2) and how many of the newest lie outside the tracked range (R73), `seenAt` and
`gap` the instant of AS2's newest word and the interval before it, `given` and `lastPos` the cycle number and the position
(cycle and angle) of the newest sample that carries one, `fly` that the rope master's source is not in a live lock (R78),
`ropeSrc` the source the rope master's newest sample names, `hist` the history, newest first (R102). -/
structure Tracker where
  st       : TrackSt := .noSignal
  angle    : BitVec 16 := 0
  rem      : Nat := 0
  cycle    : BitVec 32 := 0
  period   : Nat := 0
  t0       : BitVec 32 := 0
  glitches : Nat := 0
  from_    : TrackSt := .noSignal
  since    : Nat := 0
  bigErr   : Nat := 0
  slew     : Int := 0
  edges    : Nat := 0
  lastEdge : Nat := 0
  freq     : Nat := 0
  slope    : Int := 0
  outOf    : Nat := 0
  seenAt   : Nat := 0
  gap      : Nat := 0
  given    : Option (BitVec 32) := none
  lastPos  : Nat := 0
  fly      : Bool := false
  ropeSrc  : Option Nat := none
  hist     : List Stretch := []
  deriving DecidableEq, Repr

/-- A PTP master heard on a port (R98): its identity, its announced dataset (a lower number is better), when its newest Announce
came, the log announce interval and `currentUtcOffset`. -/
structure Master where
  ident     : Nat
  quality   : Nat
  heardAt   : Nat
  logInt    : Int
  utcOffset : Nat
  deriving DecidableEq, Repr

/-- Module time of a controller (R94 to R101): when its timebase counter started, the correction offset in ps, the part
of it still to be removed by rate, the rate correction held in ps per µs (R97), what rate corrections have added so far in ps (R94),
when an offset was last measured, the status fields of R93, and the PTP slave: the masters heard, the selected one's identity, its
own measured offset, and the path delay, the log interval and the last instant of Delay_Req. -/
structure TimeKeep where
  tb0       : Nat := 0
  offPs     : Int := 0
  slewPs    : Int := 0
  rate      : Int := 0
  ratePs    : Int := 0
  measAt    : Option Nat := none
  state     : Nat := 0
  inUse     : Nat := 3
  everDisc  : Bool := false
  offset    : Int := 0
  masters   : List Master := []
  master    : Option Nat := none
  utcOffset : Nat := 0
  ownOffset : Option Int := none
  delay     : Nat := 0
  delayInt  : Int := 0
  delayAt   : Option Nat := none
  grid      : Nat := 0
  deriving DecidableEq, Repr

/-- A command of the output command image for one channel: digital level 0 off, 1 low, 2 high, a loop current, or the
safe value with the instant that applied it and the level driven before (R116, R315). -/
inductive OutCmd
  | level (l : Nat) | current (lsb : Nat) | safe (at_ : Nat) (before : Nat)
  deriving DecidableEq, Repr

/-- A firing of a point (R70, R112): the point, its MTIME, its instant on the corrected clock (R94), its angle, `SKIPPED_ANGLE`,
`FLYWHEEL`, the order of firing, its instant as the pods count holds from, and the output command image at the firing, which
`COMPARE` takes as its reference (R116). -/
structure Firing where
  point    : Nat
  mtime    : BitVec 64
  at_      : Nat
  angle    : BitVec 16
  skipped  : Bool
  flywheel : Bool
  order    : Nat
  inst     : Nat := 0
  image    : Tab (Option OutCmd) := []
  deriving DecidableEq, Repr

/-- A record in a ring or a record set, with the record sequence and the full MTIME of its sampling instant kept beside it
(R10, R11). -/
structure Rec where
  word : Word
  seq  : Nat
  at_  : Nat
  deriving DecidableEq, Repr

/-- A publication an execution has made (R124): the session, whether it has the summary, and the records. -/
structure Publication where
  session : Nat
  summary : Bool
  recs    : List Rec
  deriving DecidableEq, Repr

/-- FILTER state of one channel (R115): IIR value, or HOLD_N value and run. -/
structure FilterSt where
  seeded : Bool := false
  y      : Int := 0
  run    : Nat := 0
  deriving DecidableEq, Repr

/-- Progress of a SEQUENCE stage (R120): step 0x0 to 0xD, 0xE FAILED, 0xF DONE; entry time, since when the feedback has
been met, and the failing step. -/
structure SeqSt where
  started : Bool := false
  step    : Nat := 0
  entered : Nat := 0
  metAt   : Option Nat := none
  failed  : Nat := 0
  deriving DecidableEq, Repr

/-- Stage state that outlives an execution (R112, R113): filters and counters by stage and channel index, latches by
stage, the sequence, and what the previous execution left for ON_CHANGE. -/
structure StageSt where
  filters : Tab FilterSt := []
  counts  : Tab Nat := []
  latches : Tab Bool := []
  seq     : SeqSt := {}
  any     : Bool := false
  lastT   : Bool := false
  lastV   : BitVec 64 := 0
  lastSeq : Nat := 15
  deriving DecidableEq, Repr

/-- One duty (R104 to R141): state code of R105, stop reason, its record, c0, point markers, FORCED latch, stage state,
counters of R136, whether an execution is queued or in progress and the waiting firing (R131), whether it restarts at the
release of that execution (R133), the MTIME of its start and of its last execution's firing (R114), whether cycle c0 has begun and
whether it is over (R71), whether its next release is its first after a takeover (R376), whether it is suspended as soon as the execution in
progress is released (R139), and the point markers and `OVERRUN_COUNT` as its last released execution left them (R138). -/
structure Duty where
  st        : Nat := 0
  stop      : Nat := 0
  header    : Word := 0
  chans     : Word := 0
  points    : Word := 0
  stages    : List Word := []
  steps     : List Word := []
  c0        : BitVec 32 := 0
  marks     : Tab (Option (BitVec 32)) := []
  forced    : Bool := false
  stage     : StageSt := {}
  t         : Bool := false
  execs     : BitVec 32 := 0
  lates     : Nat := 0
  overruns  : Nat := 0
  discards  : Nat := 0
  busy      : Bool := false
  waiting   : Option Firing := none
  restart   : Bool := false
  startedAt : Nat := 0
  lastAt    : Nat := 0
  begun     : Bool := false
  crossed   : Bool := false
  afterTake : Bool := false
  drain     : Bool := false
  relMarks  : Tab (Option (BitVec 32)) := []
  relOverruns : Nat := 0
  deriving DecidableEq, Repr

/-- One execution (R112, R113): its duty and firing, the index of its next stage, S, V and T, the output commands held to the
release (newest first) and the bays to force, the FORCED latch and stage state it would leave, its publications and relays
(target 16 is every knot), commands and records discarded, its cost, the cluster whose queue it stands in (`home`) and the
cluster that runs it, whether it has started, whether a neighbour stole it (R149), and the duty's record and state as the
execution was created, which a redefinition meanwhile does not change. -/
structure Exec where
  duty    : Nat
  firing  : Firing
  stage   : Nat := 0
  S       : List Rec := []
  V       : BitVec 64 := 0
  T       : Bool := false
  cmds    : List (Nat × OutCmd) := []
  forced  : Bool := false
  stages  : StageSt := {}
  pubs    : List Publication := []
  relays  : List (Nat × Bool × List Rec) := []
  discard : Nat := 0
  cost    : Nat := 0
  cluster : Nat := 0
  begun   : Bool := false
  home    : Nat := 0
  stolen  : Bool := false
  bays    : List Nat := []
  card    : Duty := {}
  deriving DecidableEq, Repr

/-- Placement of a running duty and its measures over the period (R154, R167). -/
structure Place where
  cluster    : Nat := 15
  affEff     : Nat := 0
  overcommit : Bool := false
  moved      : Bool := false
  moves      : Nat := 0
  lastMove   : Nat := 0
  execs      : Nat := 0
  stolen     : Nat := 0
  cycles     : Nat := 0
  maxCost    : Nat := 0
  maxLat     : Nat := 0
  pExecs     : Nat := 0
  pStolen    : Nat := 0
  pCycles    : Nat := 0
  pMaxCost   : Nat := 0
  pMaxLat    : Nat := 0
  mean       : Option Nat := none
  deriving DecidableEq, Repr

/-- One engine (R145 to R162, R487): the execution it runs, SLOW and its window count, a halt at a breakpoint, that the
breakpoint before its next stage has been passed, and, over the window of R161 now open, the costs of the stages it has completed,
whether it has completed one, and whether it has been busy. -/
structure Engine where
  run    : Option Exec := none
  slow   : Bool := false
  fine   : Nat := 0
  halted : Bool := false
  pass   : Bool := false
  winCost : Nat := 0
  winDone : Bool := false
  winBusy : Bool := false
  deriving DecidableEq, Repr

/-- Measures of one cluster over the current and the last period (R168). -/
structure ClusterMeas where
  busy      : Nat := 0
  peak      : Nat := 0
  out       : Nat := 0
  in_       : Nat := 0
  pBusy     : Nat := 0
  pPeak     : Nat := 0
  pOut      : Nat := 0
  pIn       : Nat := 0
  deriving DecidableEq, Repr

/-- Engines, run queues and placement of a controller (chapter 05). `slots` is 1 + the bank whose slot a defined duty occupies
(R143), `shadow` the placement a STANDBY controller works out (R159). -/
structure Sched where
  queues     : Tab (List Exec) := []
  engines    : Tab Engine := []
  places     : Tab Place := []
  meas       : Tab ClusterMeas := []
  rebalances : Nat := 0
  lastRebal  : BitVec 32 := 0
  movedLast  : Nat := 0
  slots      : Tab Nat := []
  shadow     : Tab Place := []
  migrating  : Tab Nat := []
  deferred   : List (Nat × Req × List Word) := []
  firings    : Nat := 0
  breaks     : List (Nat × Nat) := []
  deriving DecidableEq, Repr

/-- An event queued for a session (R318): opcode (0x80 `EVENT`, 0x81 `FSK_FRAME`) and payload words. -/
structure Event where
  op    : Nat
  words : List Word
  order : Nat
  deriving DecidableEq, Repr

/-- A formed reply waiting for its port (R283, R358): the request it answers, with the port, address and UDP port it leaves
to; `counted` when it returns a credit and frees a tag; `order` of formation in its session (R322). -/
structure Reply where
  req     : Req
  op      : Nat
  status  : Nat
  words   : List Word
  dup     : Bool
  vol     : Bool
  counted : Bool
  order   : Nat
  deriving DecidableEq, Repr

/-- One session (R286 to R290, R305, R321). `admitted` lists the admitted SEQ values of the window of 1,024. -/
structure Session where
  isOpen   : Bool := false
  hostId   : BitVec 32 := 0
  key      : BitVec 32 := 0
  port     : Port := .frame
  ip       : Nat := 0
  udp      : Nat := 0
  credits  : Nat := 0
  free     : Nat := 0
  depth    : Nat := 0
  highSeq  : Nat := 0
  admitted : List Nat := []
  evSeq    : Nat := 0
  events   : List Event := []
  dropped  : Nat := 0
  gap      : Bool := false
  replies  : List Reply := []
  evPort   : Port := .frame
  evIp     : Nat := 0
  evUdp    : Nat := 0
  lastEntry : Nat := 0
  formed   : Nat := 0
  deriving DecidableEq, Repr

/-- A request in flight (R289, R304): the request, its opcode and payload, its logline state, whether its commit point
has passed, whether it has been ended, whether its reply is discarded because its session closed (R307), whether its
session was resumed since (R306), and, once formed, its reply (status and words). `noCredit`: an ABORT admitted without a
credit (R290). `taken`: the request is a duplicate, or a takeover has taken the tag over, so that its reply carries `DUPLICATE`
(R284, R288, R304). -/
structure Flight where
  req       : Req
  op        : Nat
  payload   : List Word
  committed : Bool
  passed    : Bool
  ended     : Bool
  discard   : Bool
  rebound   : Bool
  formed    : Option (Nat × List Word)
  noCredit  : Bool
  taken     : Bool := false
  deriving DecidableEq, Repr

/-- A keep-bank write group (R461): its words, its logline entry number, the tag that waits for it, the reply, and whether its
writing has begun, which a power-fail warning holds up (R492). -/
structure KeepGroup where
  words : List (Nat × Word)
  entry : Nat
  tag   : Option Nat
  reply : List Word
  begun : Bool := false
  deriving DecidableEq, Repr

/-- The logline of a controller (R297, R299, R301). -/
structure Logline where
  entries  : Tab Word := []
  next     : Nat := 0
  count    : Nat := 0
  sram     : Tab Word := []
  isVolatile : Bool := false
  sound    : Bool := true
  gaspDone : Bool := false
  deriving DecidableEq, Repr

/-- An image slot (R384): state code, version, length, CRC and schema of its header; bytes written while staging. -/
structure Slot where
  state   : Nat
  version : BitVec 32
  length  : Nat
  crc     : BitVec 32
  schema  : BitVec 16
  written : Nat
  deriving DecidableEq, Repr

/-- A check-value unit (R323, R324). -/
structure CrcUnit where
  session : Nat
  poly    : Nat
  run     : BitVec 32
  fold    : BitVec 32
  deriving DecidableEq, Repr

/-- A watchdog, supervisor or host (R429 to R444). `st` 0 RUNNING, 1 DISABLED, 2 SUSPENDED, 3 STOPPED; for a host
watchdog 3 stands for OFF and LOST, which `Dogs.host` tells apart. -/
structure Watchdog where
  st         : Nat := 3
  challenge  : BitVec 32 := 0
  next       : BitVec 32 := 0
  seq        : Nat := 0
  isPending    : Bool := false
  issued     : Nat := 0
  openT      : Nat := 0
  closeT     : Nat := 0
  spoiled    : Bool := false
  good       : Bool := false
  lates      : Nat := 0
  badWindows : Nat := 0
  suspends   : Nat := 0
  suspendAt  : Nat := 0
  needGood   : Bool := false
  seed       : Nat := 0
  deriving DecidableEq, Repr

/-- A session's host watchdog and its settings (R443). `state` 0 OFF, 1 RUNNING, 2 LOST. -/
structure HostDog where
  dog   : Watchdog := {}
  state : Nat := 0
  openE : Nat := 0
  close : Nat := 0
  limit : Nat := 0
  bad   : Nat := 0
  deriving DecidableEq, Repr

/-- The fault episode (R447, R451); `inside`: its first source lies inside a controller (R445). -/
structure Episode where
  isOpen    : Bool := false
  escalated : Bool := false
  overflow  : Bool := false
  injected  : Bool := false
  inside    : Bool := false
  first     : Nat := 0
  side      : Side := .a
  failover  : Bool := false
  react     : Nat := 0
  number    : BitVec 32 := 0
  openTime  : BitVec 64 := 0
  started   : Nat := 0
  closedAt  : Nat := 0
  deriving DecidableEq, Repr

/-- The fault collector of a controller (R446 to R456): the episode, latched sources with the injection bit, the pin
hold, the last source, and a running injection (its settings word and checks inverted). -/
structure Collector where
  episode : Episode := {}
  latched : List (Nat × Bool × BitVec 64) := []
  last    : Nat := 0
  pinHeld : Bool := false
  pinAt   : Nat := 0
  pinMin  : Bool := false
  inject  : Word := 0
  injDone : Nat := 0
  injOn   : Bool := false
  conds   : List Nat := []
  deriving DecidableEq, Repr

/-- A running TEST_DRIVE (R317). -/
structure Test where
  act     : Nat
  value   : Nat
  ends    : Nat
  session : Nat
  deriving DecidableEq, Repr

/-- The armed trim (R216 to R220). `state` is `TRIM_STATE`; `capture` is the running capture: whether of span, and the
tag that waits (none for a button); `aside` that a later zero step set a span step aside; `step` whether the newest step was done
and when it ended. -/
structure Arm where
  ch      : Nat
  out     : Bool
  session : Nat
  ends    : Nat
  state   : Nat
  zero    : Bool
  span    : Bool
  aside   : Bool
  zoff    : Int
  gain    : Nat
  capture : Option (Bool × Option Nat)
  startAt : Nat
  step    : Option (Bool × Nat) := none
  deriving DecidableEq, Repr

/-- A queued or running FSK_SEND (R223 to R226). `phase` 0 queued, 1 transmitting, 2 awaiting the reply. -/
structure FskJob where
  req   : Req
  frame : List Byte
  long  : Bool
  ref   : BitVec 32
  tries : Nat
  phase : Nat
  endAt : Nat
  last  : List Byte
  entry : Nat
  deriving DecidableEq, Repr

/-- A requested conversion (R247, R248, R314): the tag that waits, the channels whose record is awaited, those whose result
has been written at the decimator, the records so far, and whether an ABORT has won, so that the result leaves no record; `at_` the
MTIME of its trigger, `reqs` the links and numbers of its requests, and `joined` the channels whose result another trigger had
started (R243, R248). -/
structure ConvJob where
  tag     : Nat
  session : Nat
  urgent  : Bool
  chans   : List Nat
  written : List Nat
  recs    : List (Nat × Word)
  dropped : Bool
  at_     : Nat := 0
  reqs    : List (Nat × Nat) := []
  joined  : List Nat := []
  deriving DecidableEq, Repr

/-- An item a controller sends until acknowledged (R271): its `SUB` code, payload, and the frames that carried it. -/
structure DownItem where
  request : Bool
  sub     : Nat
  payload : Word
  sent    : List Nat
  deriving DecidableEq, Repr

/-- A controller's transmitting end of one downlink (R266 to R271): its sequence, the items to send, whether the output
image is unacknowledged and which frames carried it, whether an AS0 step or a change of mode is pending, the pins a
test or a trim has left without an image entry, queued FSK payloads, the newest request number, injections to make, the
MTIME of the last frame's first bit time, whether the pod's channels are being configured at a start of the link (R178, R197, R278),
and the sequence and MTIME of the frames sent, newest first, which stamps refer to (R273). -/
structure DownLink where
  seq     : Nat := 0
  items   : List DownItem := []
  outNew  : Bool := false
  outSent : List Nat := []
  stepNew : Bool := false
  offs    : List Nat := []
  fsk     : List Word := []
  reqNo   : Nat := 0
  inject  : Nat := 0
  lastAt  : Nat := 0
  starting : Bool := false
  times   : List (Nat × Nat) := []
  deriving DecidableEq, Repr

/-- The newest good pod image of a link (R180): states, readback levels, drive states, sampling instant. -/
structure PodImage where
  state : Nat
  level : Nat
  drive : Nat
  at_   : Nat
  deriving DecidableEq, Repr

/-- A controller's receiving end of one uplink (R264, R277, R281), with the pod as last reported, its ring, newest first
(R142), the images before the newest, newest first (R180), and the channel, kind and sampling MTIME of each record the ring has
overwritten (R144). -/
structure UpLink where
  rx       : Rx := {}
  downA    : Nat := 0
  downB    : Nat := 0
  podState : Nat := 0
  refFb    : Bool := false
  bad      : Nat := 0
  degraded : Nat := 0
  hunts    : Nat := 0
  lastGood : BitVec 32 := 0
  lastAt   : Nat := 0
  eventAt  : Option Nat := none
  image    : Option PodImage := none
  diags    : Tab (BitVec 8) := []
  temps    : Tab (BitVec 8) := []
  alm      : Nat := 0
  ring     : List Rec := []
  gone     : List (Nat × Nat × Nat) := []
  past     : List PodImage := []
  deriving DecidableEq, Repr

/-- A reassembly of IPv4 fragments (R350). -/
structure Reassembly where
  ident   : Nat
  ip      : Nat
  udp     : Nat
  parts   : List (Nat × List Byte)
  total   : Option Nat
  started : Nat
  deriving DecidableEq, Repr

/-- A queued SPI write (R332, R337): register, value, and the pod it named when framed. -/
structure SpiWrite where
  addr  : Nat
  value : BitVec 16
  pod   : Nat
  deriving DecidableEq, Repr

/-- The SPI legacy port of a controller (R328 to R336). `flags` are `STATUS` bits [15:12]; `bad` and
`last` what the next response reports of the frame before; `regs` the register image, refreshed at each downlink frame
boundary (R329). -/
structure Spi where
  flags   : BitVec 4 := 0
  refuse  : BitVec 16 := 0
  queue   : List SpiWrite := []
  claimA  : BitVec 16 := 0
  claimB  : BitVec 16 := 0
  bad     : Bool := false
  last    : BitVec 16 := 0
  regs    : Tab (BitVec 16) := []
  crcErr  : Nat := 0
  refused : Nat := 0
  drops   : Nat := 0
  deriving DecidableEq, Repr

/-- Message ports of a controller (R339 to R357): the open Frame port message, lane alignment, the last `ASEQ`, the
counters of R356 per port, Ethernet link, reassemblies, for each change of port settings whose
reply has not left, its tag, the port and the settings still in force (R357), and the partner's counters as last reported when the splice
went down (R356). -/
structure Ports where
  frame    : Option (Word × List Word) := none
  lane0    : Bool := false
  lane1    : Bool := false
  aseq     : Option Nat := none
  cnt      : Tab Nat := []
  ethLink  : Nat := 0
  reasm    : List Reassembly := []
  waitCfg  : List (Nat × Nat × Word) := []
  peer     : Tab Nat := []
  deriving DecidableEq, Repr

/-- What a knot knows of another (R427). -/
structure Knot where
  mode     : Nat := 0
  serial   : BitVec 32 := 0
  joins    : Nat := 0
  absences : Nat := 0
  lastSeen : BitVec 32 := 0
  silent   : Nat := 0
  heard    : Bool := false
  sleep    : Nat := 0
  deriving DecidableEq, Repr

/-- A snapshot this knot takes part in or asked for (R419). `skipped` that a forward step passed its point (R85). -/
structure Snap where
  origin  : Nat
  angle   : BitVec 16
  cycle   : BitVec 32
  knots   : Nat
  groups  : Nat
  base    : Nat
  mask    : Nat
  tag     : Option Nat
  session : Nat
  latched : Bool
  latchAt : Nat
  latchMt : BitVec 32
  done    : Nat
  noAngle : Nat
  recs    : List Word
  awaits  : List Nat
  sent    : Bool
  skipped : Bool := false
  deriving DecidableEq, Repr

/-- The rope of a controller (chapter 13). `role` 0 MASTER, 1 MEMBER, 2 JOINING, 3 no rope. `mine`: tag and session of each
snapshot asked for and not yet commanded; `gather`: snapshot records received from a knot before its last; `asks`: requests that the
master has not yet put into a CSF; `woke`: wake frames are still to be sent; `wakeAt`: when the newest one left (R424). -/
structure Rope where
  bypass    : Bool := true
  role      : Nat := 3
  isOpen    : Bool := false
  drift     : Bool := false
  muted     : Bool := false
  relock    : Nat := 0
  conflict  : Bool := false
  sleepSt   : Nat := 0
  sleepS    : BitVec 32 := 0
  proposer  : Nat := 0
  ackOk     : Bool := false
  vetoed    : Option (Nat × Nat) := none
  atPropose : BitVec 16 := 0
  gotCommit : Bool := false
  sleepTag  : Option Nat := none
  master    : Nat := 0
  present   : BitVec 16 := 0
  cycle     : BitVec 32 := 0
  loopNs    : Nat := 0
  loopResid : Int := 0
  mutes     : Nat := 0
  bad       : Nat := 0
  knots     : Tab Knot := []
  listenAt  : Nat := 0
  lastCsf   : Option Nat := none
  joinDue   : List (Nat × Nat) := []
  noReturn  : Nat := 0
  launchAt  : Nat := 0
  cmds      : List Word := []
  requests  : List Word := []
  relays    : List (Nat × Nat × List Word) := []
  summaries : Tab (Word × Nat) := []
  snaps     : List Snap := []
  mine      : List (Nat × Nat) := []
  gather    : List (Nat × Word) := []
  asks      : List (Word × Word) := []
  woke      : Bool := false
  reform    : Bool := false
  reformSet : BitVec 16 := 0
  wasMaster : Bool := false
  yielded   : Bool := false
  wakeSeen  : Bool := false
  wakeBy    : Nat := 0
  wakeSent  : Nat := 0
  sleptAt   : Nat := 0
  wakeAt    : Nat := 0
  deriving DecidableEq, Repr

/-- A firmware update in progress (R386 to R395). `op` 0 none, 1 staging, 2 swap, 3 rollback; `phase` of R396;
`leftA` and `leftB` are the sectors still to erase on each side, `soakEnd` the end of the soak, `since` the instant of the last
restart and `claimAt` that of the wait for the claim. -/
structure Update where
  op      : Nat := 0
  phase   : Nat := 0
  tag     : Option Nat := none
  soak    : Nat := 0
  leftA   : Nat := 0
  leftB   : Nat := 0
  length  : Nat := 0
  erasing : Bool := false
  soakEnd : Nat := 0
  since   : Nat := 0
  claimAt : Nat := 0
  version : BitVec 32 := 0
  deriving DecidableEq, Repr

/-- Debug state of a controller (R479, R485 to R487). `st` 0 FREE, 1 HELD_OUT, 2 YIELDING, 3 HALTED_IN_PLACE; `coreRegs` and
`engineRegs` hold what CORE and ENGINE writes have set, by address; `held` the messages its ports hold while it is halted. -/
structure Debug where
  st       : Nat := 0
  refuse   : Nat := 0
  latched  : Bool := false
  halted   : Bool := false
  corePc   : Nat := 0
  since    : Nat := 0
  coreRegs : Tab (BitVec 32) := []
  engineRegs : Tab (BitVec 32) := []
  held     : List (Nat × Req × List Word) := []
  deriving DecidableEq, Repr

/-- A committed mode change that waits for the next downlink frame boundary (R50). -/
structure ModeChange where
  target : Mode
  tag    : Nat
  session : Nat
  deriving DecidableEq, Repr

/-- Everything one controller holds (chapter 01 and the chapters it names). -/
structure Ctrl where
  -- Role, heartbeat and tether (R359, R370, R371).
  inReset    : Bool := true
  role       : Role := .syncing
  running    : Bool := false
  imageOk    : Bool := false
  mirrorOk   : Bool := false
  yieldSet   : Bool := false
  failReq    : Bool := false
  trial      : Bool := false
  hbCount    : Nat := 0
  hbSilent   : Bool := false
  noImage    : Bool := false
  lastEpoch  : BitVec 32 := 0
  epoch      : BitVec 32 := 0
  granted    : Bool := false
  grantKind  : Nat := 0
  resetCause : Nat := 0
  spliceUp   : Bool := true
  spliceAt   : Nat := 0
  pausing    : Bool := false
  -- Module mode (R34, R50) and what it interrupts.
  mode       : Mode := .boot
  modeBefore : Mode := .commission
  modeNext   : Option ModeChange := none
  calEnter   : Nat := 0
  escPending : Bool := false
  -- Output side, with the channels on which two duties, or a duty and a host, contend (R140).
  image      : Tab (Option OutCmd) := []
  contest    : List Nat := []
  tests      : Tab (Option Test) := []
  -- Duties and engines.
  duties     : Tab Duty := []
  sched      : Sched := {}
  -- Messages.
  sessions   : Tab Session := []
  flights    : List Flight := []
  waiting    : List (Nat × Req × List Word) := []
  convs      : List ConvJob := []
  logl       : Logline := {}
  crcs       : Tab (Option CrcUnit) := []
  -- Persistent storage.
  keep       : Tab Word := []
  wear       : Tab Nat := []
  groups     : List KeepGroup := []
  -- Per pod, 1 + the rebalance count at its last Trela-1 write and at its last Trela-3 configuration (R338).
  podSpi     : Tab Nat := []
  podCfg     : Tab Nat := []
  store      : Tab (List Word) := []
  storing    : List (Nat × List Word) := []
  slot0      : Slot
  slot1      : Slot
  running1   : Bool := false
  sram       : Memory := []
  nor        : Memory := []
  -- Angle and time.
  as0        : Tracker := {}
  as1        : Tracker := {}
  as2        : Tracker := {}
  as3        : Tracker := { st := .locked }
  time       : TimeKeep := {}
  trigMarks  : Tab (Option (BitVec 32)) := []
  trigC0     : Tab CycleRef := []
  -- `ANGLE_CFG` as it was before a write that takes effect at the next update (R92).
  angleOld   : Option Word := none
  -- Links and numbers of trigger requests that a forward step fired (R243).
  skipReqs   : List (Nat × Nat) := []
  -- Per loop channel, the MTIME of its configuration or its pod's power-up (R114).
  valueSince : Tab Nat := []
  -- Watchdogs, faults, trim, FSK.
  dog        : Watchdog := {}
  lock       : Bool := false
  dogsOff    : Bool := false
  keyArm     : Option (Nat × Nat) := none
  clkInUse   : Bool := false
  hostDogs   : Tab HostDog := []
  faults     : Collector := {}
  arm        : Option Arm := none
  fsk        : Tab (List FskJob) := []
  calJobs    : Tab Nat := []
  -- Links, ports, rope, firmware, debugging.
  down       : Tab DownLink := []
  up         : Tab UpLink := []
  recSeq     : Tab Nat := []
  ports      : Ports := {}
  spi        : Spi := {}
  rope       : Rope := {}
  update     : Update := {}
  dbg        : Debug := {}
  deriving DecidableEq, Repr

/-! ## The arbiter and the module -/

/-- Arbiter states (R361). -/
inductive ArbSt
  | start | held (x : Side) | vacant
  deriving DecidableEq, Repr

/-- What the arbiter knows of one heartbeat line (R360). -/
structure Beat where
  last     : Option Nat := none
  count    : Nat := 0
  failed   : Bool := true
  imageOk  : Bool := false
  mirrorOk : Bool := false
  yieldSet : Bool := false
  failReq  : Bool := false
  epoch    : BitVec 32 := 0
  okAt     : Option Nat := none
  pulseAt  : Option Nat := none
  silentAt : Nat := 0
  deriving DecidableEq, Repr

/-- The arbiter (R359 to R366). `kind` is `T_KIND`. -/
structure Arbiter where
  st      : ArbSt := .start
  since   : Nat := 0
  epoch   : BitVec 32 := 0
  first   : Bool := true
  kind    : Nat := 0
  side    : Side := .a
  renew   : Nat := 0
  renewAt : Nat := 0
  beatA   : Beat := {}
  beatB   : Beat := {}
  steer   : Option Side := none
  restarted : Bool := false
  deriving DecidableEq, Repr

/-- What has left the module, newest first: replies and events on a port, downlink and uplink frames, heartbeats,
rope frames, and the answers of the ports. -/
inductive Out
  | message (port : Port) (ip udp : Nat) (header : Word) (words : List Word)
  | down (x : Side) (link seq : Nat) (hdr tether : BitVec 48) (payload : Word) (fcs : Nat)
  | up (link seq : Nat) (hdr pstat : BitVec 48) (payload : Word) (fcsA fcsB : Nat)
  | heartbeat (x : Side) (w : BitVec 64)
  | csf (header time : Word) (delay : BitVec 32) (cmds : List Word) (check : BitVec 32)
  | forwarded (header time : Word) (delay : BitVec 32) (cmds : List Word) (check : BitVec 32)
  | slot (header : Word) (words : List Word) (check : BitVec 32)
  | wakeFrame (knot : Nat)
  | arp (x : Side) (ip target : Nat)
  | icmp (x : Side) (ip target : Nat) (data : List Byte)
  | usb (bytes : List Nat)
  | delayReq (x : Side)
  | miso (frame : BitVec 32)
  | jtag (d : Die) (bits : Nat)
  | fyvail (d : Die) (dstat : Nat)
  deriving DecidableEq, Repr

/-- The module. -/
structure State where
  -- Commands waiting, first in, first out.
  pending   : List Instr
  -- Elapsed time in ns; ANGLE_UPDATE advances it.
  now       : Nat
  -- The model's own counter of free values drawn.
  free      : Nat
  -- Straps as read at reset (R397, R383, R385).
  knotId    : Nat
  compat    : Bool
  safeBoot  : Bool
  -- Logic supply (R492) and the start-up hold path of FAULT_N (R449).
  supply    : Bool
  powerFail : Bool
  startHold : Bool
  -- Whether a grant has been made since the module started (R447).
  firstGrant : Bool
  ctrlA     : Ctrl
  ctrlB     : Ctrl
  arb       : Arbiter
  -- Pods by link index, digital channels by ID, loop channels by ID.
  pods      : Tab Pod
  digs      : Tab DigCh
  loops     : Tab LoopCh
  -- USB at the shared port: VBUS, attached, configured or suspended, since when detached (R351, R24).
  vbus      : Bool
  attached  : Bool
  usbLink   : Nat
  detachAt  : Option Nat
  locate    : Option Nat
  -- Boundary registers and executed EXTEST or INTEST of each die (R475).
  scans     : Tab Nat
  wire      : List Out
  deriving DecidableEq, Repr

/-- Named stops: the cases of R13 in which the module gives no guarantee. -/
inductive Fault
  /-- A message or a configuration word has a reserved field written non-zero: undefined under R293 and R12. Raised by the
  message path. Safe: the machine stops where the hardware's effect is not stated. -/
  | reservedFieldWritten
  /-- Trela-1 writes and Trela-3 configuration of one pod in one period between two rebalances: undefined under R338.
  Raised by CFG_WRITE of channels and by SPI_WRITE_COMMIT. Safe. -/
  | mixedConfiguration
  deriving DecidableEq, Repr

/-- Rejected commands. -/
inductive Refusal
  /-- The command has no meaning in the model yet. Safe. -/
  | notModelled (mnemonic : String)
  deriving DecidableEq, Repr

/-- The image slot a module leaves the factory with (R2): the factory image, 4 FROG in slot 0 and 5 PREVIOUS in slot 1. The spec
gives neither the image's length, nor its CRC, nor its bytes: length and CRC stand at 0 and its NOR bytes as erased. DESIGN CHOICE
(log entry 89). -/
def Slot.factory (state : Nat) : Slot :=
  { state, version := Config.factoryVersion, length := 0, crc := 0, schema := Config.factorySchema, written := 0 }

/-- A controller right after reset, with the factory contents of its memories (R2, R8). -/
def Ctrl.reset : Ctrl := { slot0 := Slot.factory 4, slot1 := Slot.factory 5 }

/-- The module right after module reset: supply up, BOOT, both controllers leaving reset, the arbiter in START. -/
def State.reset : State :=
  { pending := [], now := 0, free := 0, knotId := 0, compat := false, safeBoot := false,
    supply := true, powerFail := false, startHold := true, firstGrant := false,
    ctrlA := Ctrl.reset, ctrlB := Ctrl.reset, arb := {},
    pods := [], digs := [], loops := [],
    vbus := false, attached := false, usbLink := 0, detachAt := none, locate := none,
    scans := [], wire := [] }

end Sys2Proof.Machine
end

