-- ==== Sys2Proof/Machine/Ops.lean ====
section
/-! DEFINITION. Shared operations: bit fields, check values, sparse tables and memories, access to a controller's parts,
module time, the keep bank's addresses and factory words, sample records, events, the logline, and FAULT_N. -/

namespace Sys2Proof.Machine

/-! ## Bit fields (R4, R5) -/

/-- The field [hi:lo] of a word, as a number. -/
def fld (w : Word) (hi lo : Nat) : Nat := w.toNat / 2 ^ lo % 2 ^ (hi + 1 - lo)

/-- One bit of a word. -/
def bitOf (w : Word) (i : Nat) : Bool := fld w i i == 1

/-- The bit of a number. -/
def nbit (n i : Nat) : Bool := n / 2 ^ i % 2 == 1

/-- A flag as a field value. -/
def b2n (b : Bool) : Nat := if b then 1 else 0

/-- A word from its fields, each (hi, lo, value); bits not named are 0 (R7). -/
def mkw (fs : List (Nat × Nat × Nat)) : Word :=
  BitVec.ofNat 128 (fs.foldl (fun acc f => acc + f.2.2 % 2 ^ (f.1 + 1 - f.2.1) * 2 ^ f.2.1) 0)

/-- A word with the field [hi:lo] replaced. -/
def setFld (w : Word) (hi lo v : Nat) : Word :=
  BitVec.ofNat 128 (w.toNat - fld w hi lo * 2 ^ lo + v % 2 ^ (hi + 1 - lo) * 2 ^ lo)

/-- Only the fields [hi:lo] named are kept. -/
def keepFields (w : Word) (fs : List (Nat × Nat)) : Word :=
  mkw (fs.map fun f => (f.1, f.2, fld w f.1 f.2))

/-- Two's complement reading of a field of `n` bits. -/
def sext (n v : Nat) : Int := if v < 2 ^ (n - 1) then (v : Int) else (v : Int) - 2 ^ n

/-- Two's complement field of `n` bits. -/
def twos (n : Nat) (i : Int) : Nat := (i % (2 : Int) ^ n).toNat

/-- Saturation at an upper bound. -/
def satAt (m n : Nat) : Nat := if m ≤ n then m else n

/-- Saturation of a signed value. -/
def clampI (lo hi i : Int) : Int := if i < lo then lo else if hi < i then hi else i

/-- A whole number of degrees Celsius saturates in two's complement (R511). -/
def tempField (t : Int) : BitVec 8 := BitVec.ofInt 8 (clampI (-128) 127 t)

/-- A bit of an 8-bit register set or cleared. -/
def putBit (d : BitVec 8) (i : Nat) (v : Bool) : BitVec 8 :=
  if v then d ||| BitVec.ofNat 8 (2 ^ i) else d &&& ~~~ BitVec.ofNat 8 (2 ^ i)

/-- The 16 bytes of a word, most significant first (R326). -/
def wordBytes (w : Word) : List Nat := (List.range 16).map fun i => fld w (127 - 8 * i) (120 - 8 * i)

/-- The number a list of bytes spells, most significant first. -/
def bytesNum : List Nat → Nat → Nat
  | [], acc => acc
  | b :: bs, acc => bytesNum bs (acc * 256 + b)

/-- Whole words of a byte string; a rest shorter than 16 bytes is padded with zeros. -/
def bytesWords : Nat → List Nat → List Word
  | 0, _ => []
  | _ + 1, [] => []
  | n + 1, b :: bs =>
    BitVec.ofNat 128 (bytesNum ((b :: bs).take 16 ++ List.replicate (16 - (b :: bs).length) 0) 0) ::
      bytesWords n ((b :: bs).drop 16)

/-- Words of a byte string. -/
def packBytes (bs : List Nat) : List Word := bytesWords (bs.length / 16 + 1) bs

/-! ## Check values (R323) -/

/-- One bit of a register shifted most significant bit first. -/
def crcShiftUp (width poly : Nat) : Nat → Nat → Nat
  | 0, r => r
  | n + 1, r =>
    crcShiftUp width poly n
      (if nbit r (width - 1) then Nat.xor (r * 2 % 2 ^ width) poly else r * 2 % 2 ^ width)

/-- One bit of a register shifted least significant bit first. -/
def crcShiftDown (poly : Nat) : Nat → Nat → Nat
  | 0, r => r
  | n + 1, r => crcShiftDown poly n (if nbit r 0 then Nat.xor (r / 2) poly else r / 2)

/-- The register after one byte, for `POLY` 0 CRC-8, 1 CRC-16, 2 CRC-32, 3 CRC-32C. -/
def crcByte (poly r b : Nat) : Nat :=
  match poly with
  | 0 => crcShiftUp 8 0x07 8 (Nat.xor r b)
  | 1 => crcShiftUp 16 0x1021 8 (Nat.xor r (b * 256))
  | 2 => crcShiftDown 0xEDB88320 8 (Nat.xor r b)
  | _ => crcShiftDown 0x82F63B78 8 (Nat.xor r b)

/-- The initial value of R323. -/
def crcInit (poly : Nat) : Nat :=
  match poly with
  | 0 => 0
  | 1 => 0xFFFF
  | _ => 0xFFFFFFFF

/-- The running value after a byte string. -/
def crcRun (poly r : Nat) (bs : List Nat) : Nat := bs.foldl (crcByte poly) r

/-- The result after the final exclusive-or. -/
def crcResult (poly r : Nat) : Nat := if poly < 2 then r else Nat.xor r 0xFFFFFFFF

/-- The bytes of a number of `n` bytes, most significant first. -/
def numBytes : Nat → Nat → List Nat
  | 0, _ => []
  | n + 1, v => v / 256 ^ n % 256 :: numBytes n v

/-- The result over a byte string, after a fold word of 4 bytes. -/
def crcFold (poly fold : Nat) (bs : List Nat) : Nat :=
  crcResult poly (crcRun poly (crcInit poly) (numBytes 4 fold ++ bs))

/-- The result over a byte string, without a fold word. -/
def crcOf (poly : Nat) (bs : List Nat) : Nat := crcResult poly (crcRun poly (crcInit poly) bs)

/-! ## Bits on a line (R260, R402) -/

/-- The key of the scrambler x^11 + x^9 + 1 from a register, `n` bits: the bit that its feedback forms, which is also shifted in
(DESIGN CHOICE, log entry 107). -/
def scrambleKey : Nat → Nat → List Bool
  | 0, _ => []
  | n + 1, r =>
    let k := Bool.xor (nbit r 10) (nbit r 8)
    k :: scrambleKey n (r * 2 % 2048 + b2n k)

/-- A number's `n` bits, most significant first. -/
def bitsOf (n v : Nat) : List Bool := (List.range n).map fun i => nbit v (n - 1 - i)

/-- The delay field of a CSF: `DELAY_ACC` in ns, with its CRC-8 (R402). -/
def delayField (ns : Nat) : BitVec 32 := BitVec.ofNat 32 (ns % 16777216 * 256 + crcOf 0 (numBytes 3 (ns % 16777216)))

/-- `DELAY_ACC`. -/
def delayAcc (d : BitVec 32) : Nat := d.toNat / 256

/-- The words of a rope frame's body, `n` of them, as bytes; words not in use are 0. -/
def bodyBytes (n : Nat) (ws : List Word) : List Nat := ((ws ++ List.replicate n 0).take n).flatMap wordBytes

/-- The check of a CSF: its header and time words and its body, with the rope cycle number as fold word (R402). -/
def csfCheck (header time : Word) (cmds : List Word) : BitVec 32 :=
  BitVec.ofNat 32 (crcFold 3 (fld header 103 72) (wordBytes header ++ wordBytes time ++ bodyBytes 8 cmds))

/-- The check of a slot in a rope cycle. -/
def slotCheck (cycle : BitVec 32) (header : Word) (ws : List Word) : BitVec 32 :=
  BitVec.ofNat 32 (crcFold 3 cycle.toNat (wordBytes header ++ bodyBytes 9 ws))

/-- The bits of a rope frame from its sync on: the sync as it stands, then the bytes and the trailing guard scrambled with the
register seeded with 0x7FF at the first header bit. -/
def ropeBits (sync : Nat) (bytes : List Nat) (guard : Nat) : List Bool :=
  let bits := (bytes ++ List.replicate guard 0).flatMap (bitsOf 8)
  bitsOf 16 sync ++ List.zipWith Bool.xor bits (scrambleKey bits.length 0x7FF)

/-- The bits of a frame that has left on ROPE_OUT (R402, R424). A wake frame is not scrambled, and its knot takes one byte (DESIGN
CHOICE, log entry 107). -/
def Out.ropeBits : Out → Option (List Bool)
  | .csf header time delay cmds check | .forwarded header time delay cmds check =>
    some (Machine.ropeBits 0xB6E5
      (wordBytes header ++ wordBytes time ++ numBytes 4 delay.toNat ++ bodyBytes 8 cmds ++ numBytes 4 check.toNat) 24)
  | .slot header ws check => some (Machine.ropeBits 0x3B4D (wordBytes header ++ bodyBytes 9 ws ++ numBytes 4 check.toNat) 8)
  | .wakeFrame knot => some (bitsOf 16 0x6E91 ++ bitsOf 8 knot ++ bitsOf 8 (crcOf 0 [knot]))
  | _ => none

/-! ## Sparse tables and memories -/

/-- What a key reads as. -/
def tget {α : Type} (d : α) : Tab α → Nat → α
  | [], _ => d
  | (k, v) :: t, i => if i = k then v else tget d t i

/-- An entry put at its place. -/
def tput {α : Type} : Tab α → Nat → α → Tab α
  | [], i, x => [(i, x)]
  | (k, v) :: t, i, x =>
    if i < k then (i, x) :: (k, v) :: t else if i = k then (i, x) :: t else (k, v) :: tput t i x

/-- An entry removed. -/
def tdel {α : Type} (t : Tab α) (i : Nat) : Tab α := t.filter fun e => e.1 != i

/-- A write: the value an unlisted key reads as removes the entry. -/
def tset {α : Type} [DecidableEq α] (d : α) (t : Tab α) (i : Nat) (x : α) : Tab α :=
  if x = d then tdel t i else tput t i x

/-- A table's entry changed. -/
def tmod {α : Type} [DecidableEq α] (d : α) (t : Tab α) (i : Nat) (f : α → α) : Tab α :=
  tset d t i (f (tget d t i))

/-- The canonical form: keys strictly rising from a bound, no entry equal to the default. -/
def tabWf {α : Type} [DecidableEq α] (d : α) : Option Nat → Tab α → Bool
  | _, [] => true
  | lo, (k, v) :: t =>
    (match lo with | none => true | some b => decide (b < k)) && decide (v ≠ d) && tabWf d (some k) t

/-- The canonical form of a byte memory whose unlisted bytes read as `d`. -/
def Memory.wf (d : Byte) (m : Memory) : Bool := tabWf d none m

/-- One byte of a memory. -/
def memByte (d : Byte) (m : Memory) (a : Nat) : Byte := tget d m a

/-- Bytes stored from an address on. -/
def memStore (d : Byte) : Memory → Nat → List Byte → Memory
  | m, _, [] => m
  | m, a, b :: bs => memStore d (tset d m a b) (a + 1) bs

/-- What an unwritten SRAM byte reads as. DESIGN CHOICE (log entry 3). -/
def sramEmpty : Byte := 0

/-- What an erased NOR byte reads as. PRESUMED (log entry 4). -/
def norEmpty : Byte := 0xFF

/-! ## Codes -/

/-- The code of a mode (R34). -/
def modeCode : Mode → Nat
  | .boot => 0 | .calibrate => 1 | .commission => 2 | .service => 3
  | .recovery => 4 | .safeHold => 5 | .maintain => 6 | .dormant => 7

/-- The mode of a code; codes 0x8 to 0xF are not modes (R34). -/
def modeOf : Nat → Option Mode
  | 0 => some .boot | 1 => some .calibrate | 2 => some .commission | 3 => some .service
  | 4 => some .recovery | 5 => some .safeHold | 6 => some .maintain | 7 => some .dormant
  | _ => none

/-- The code of a role (R52). -/
def roleCode : Role → Nat
  | .syncing => 0 | .standby => 1 | .active => 2 | .isolated => 3

/-- The code of a side. -/
def sideCode : Side → Nat
  | .a => 0 | .b => 1

/-- The side of a code. -/
def sideOf (n : Nat) : Side := if n = 0 then .a else .b

/-- The code of a port (R297). -/
def portCode : Port → Nat
  | .frame => 0 | .eth1 => 1 | .eth2 => 2 | .usb => 3 | .spi => 4 | .internal => 5

/-- Port classes: both Ethernet ports are one (R287). -/
def portClass : Port → Nat
  | .frame => 0 | .eth1 => 1 | .eth2 => 1 | .usb => 2 | .spi => 3 | .internal => 4

/-- The Ethernet port of a controller (R22). -/
def ethPort : Side → Port
  | .a => .eth1 | .b => .eth2

/-- The code of a tracker state (R80). -/
def trackCode : TrackSt → Nat
  | .noSignal => 0 | .acquire => 1 | .locked => 2 | .relock => 3 | .flywheel => 4 | .fallback => 5 | .lost => 6

/-- The code of a receive state (R272). -/
def rxCode : RxState → Nat
  | .hunt => 0 | .good => 1 | .degraded => 2

/-- Records are flagged `FLYWHEEL` in these states (R80, R82). -/
def TrackSt.flagged : TrackSt → Bool
  | .locked | .relock => false
  | _ => true

/-- Points fire in these states (R80). -/
def TrackSt.fires : TrackSt → Bool
  | .locked | .relock | .flywheel | .fallback => true
  | _ => false

/-! Status codes of R292. -/
def stOk : Nat := 0x00
def stTooLate : Nat := 0x01
def stBusy : Nat := 0x02
def stNoCredit : Nat := 0x03
def stBadCrc : Nat := 0x04
def stModeForbids : Nat := 0x05
def stNotOwner : Nat := 0x06
def stEpochStale : Nat := 0x07
def stFailoverRetry : Nat := 0x08
def stUnknownOp : Nat := 0x09
def stRange : Nat := 0x0A
def stWorn : Nat := 0x0B
def stNoSession : Nat := 0x0C
def stTagInUse : Nat := 0x0D
def stAborted : Nat := 0x0E

/-! ## Controllers -/

/-- A controller's part. -/
def State.ctrl (s : State) : Side → Ctrl
  | .a => s.ctrlA
  | .b => s.ctrlB

/-- A controller's part replaced. -/
def State.setCtrl (s : State) (x : Side) (c : Ctrl) : State :=
  match x with
  | .a => { s with ctrlA := c }
  | .b => { s with ctrlB := c }

/-- A controller's part changed. -/
def State.modCtrl (s : State) (x : Side) (f : Ctrl → Ctrl) : State := s.setCtrl x (f (s.ctrl x))

/-- A controller that runs and is ACTIVE (R52). -/
def Ctrl.isActive (c : Ctrl) : Bool := c.running && !c.inReset && c.role == .active

/-- The claim number a controller has latched for itself, which its serialisers send (R334, R381). -/
def State.claimOf (s : State) : Side → Nat
  | .a => s.ctrlA.spi.claimA.toNat % 256
  | .b => s.ctrlB.spi.claimB.toNat % 256

/-- The controller that the tether, or under COMPAT the claims, gives authority: outside COMPAT the arbiter's holder; under
COMPAT the controller whose own latched claim number prevails, ties to A (R20, R361, R381, R382). -/
def State.holder (s : State) : Option Side :=
  if s.compat then some (if s.claimOf .a < s.claimOf .b then .b else .a)
  else
    match s.arb.st with
    | .held x => some x
    | _ => none

/-- The ACTIVE controller, if there is one: the one with authority, or one that has not yet found its tether stale (R371). -/
def State.active (s : State) : Option Side :=
  if s.holder == some .b && s.ctrlB.isActive then some .b
  else if s.ctrlA.isActive then some .a
  else if s.ctrlB.isActive then some .b
  else none

/-- A STANDBY controller exists on side `x` (R295). -/
def State.isStandby (s : State) (x : Side) : Bool :=
  (s.ctrl x).running && !(s.ctrl x).inReset && (s.ctrl x).role == .standby

/-- An event acts on the ACTIVE controller; without one it has nothing to act on. -/
def State.onActive (s : State) (f : Side → Ctrl → State) : State :=
  match s.active with
  | none => s
  | some x => f x (s.ctrl x)

/-- The module mode: the ACTIVE controller holds it (R34, R53); BOOT lasts until the first grant (R54), and while no controller is
ACTIVE controller `y` goes by the mode it knows. -/
def State.moduleMode (s : State) (y : Side) : Mode :=
  match s.active with
  | some x => (s.ctrl x).mode
  | none => if s.firstGrant then (s.ctrl y).mode else .boot

/-- The transmitters of a port reach its lines: Ethernet belongs to one controller, and the others follow the port-steer output
(R22, R23). -/
def State.drives (s : State) (x : Side) : Port → Bool
  | .eth1 | .eth2 => true
  | _ => s.arb.steer == some x

/-- A pod. -/
def State.pod (s : State) (l : Nat) : Pod := tget {} s.pods l
def State.setPod (s : State) (l : Nat) (p : Pod) : State := { s with pods := tset {} s.pods l p }

/-- A digital channel. -/
def State.dig (s : State) (c : Nat) : DigCh := tget {} s.digs c
def State.setDig (s : State) (c : Nat) (d : DigCh) : State := { s with digs := tset {} s.digs c d }

/-- A loop channel. -/
def State.loop (s : State) (c : Nat) : LoopCh := tget {} s.loops c
def State.setLoop (s : State) (c : Nat) (d : LoopCh) : State := { s with loops := tset {} s.loops c d }

/-- What leaves the module. -/
def State.emit (s : State) (o : Out) : State := { s with wire := o :: s.wire }

/-- What controller `x` sends on a port; a shared port's lines take it from the steered controller only (R22). -/
def State.emitOn (s : State) (x : Side) (port : Port) (o : Out) : State := if s.drives x port then s.emit o else s

/-- A fresh free value, and the state with the counter advanced (log entry 2). -/
def State.draw (s : State) : Nat × State := (Config.freeValue s.free, { s with free := s.free + 1 })

/-! ## Channels (R9, R18, R33) -/

def isDigital (ch : Nat) : Bool := decide (ch < 0x400)
def isLoop (ch : Nat) : Bool := decide (0x400 ≤ ch) && decide (ch < 0x480)
/-- The link index of a channel's pod: m for Dm, 64 + n for Ln. -/
def linkOf (ch : Nat) : Nat := if ch < 0x400 then ch / 16 else 64 + (ch - 0x400) / 4
/-- The pin or position of a channel. -/
def pinOf (ch : Nat) : Nat := if ch < 0x400 then ch % 16 else (ch - 0x400) % 4
/-- The channel at a pin or position of a link's pod. -/
def chanAt (link pin : Nat) : Nat := if link < 64 then 16 * link + pin else 0x400 + 4 * (link - 64) + pin
/-- The home cluster of a link (R18). -/
def homeOf (link : Nat) : Nat := link / 8
/-- The bay of a channel (R33). -/
def bayOf (ch : Nat) : Nat := if ch < 0x400 then ch / 32 else (ch - 0x400) / 4
/-- The pods of a bay: D2n, D2n+1 and Ln. -/
def bayLinks (bay : Nat) : List Nat := [2 * bay, 2 * bay + 1, 64 + bay]
/-- The channels of a link's pod. -/
def linkChans (link : Nat) : List Nat :=
  (List.range (if link < 64 then 16 else 4)).map (chanAt link)

/-! ## Module time (R94) -/

/-- The timebase counter of a controller, ns since it left reset. -/
def timebase (s : State) (c : Ctrl) : Nat := s.now - c.time.tb0

/-- MTIME: the timebase counter plus the correction offset, modulo 2^64. -/
def mtimeOf (s : State) (c : Ctrl) : BitVec 64 :=
  BitVec.ofInt 64 (((timebase s c : Int) * 1000 + c.time.offPs) / 1000)

/-- MTIME[31:0]. -/
def mtime32 (s : State) (c : Ctrl) : BitVec 32 := (mtimeOf s c).setWidth 32

/-- The elapsed time that a controller's deadlines, flywheel limits, trackers and rope slots run on: with the rate correction
applied, and no step of MTIME (R94). -/
def State.clock (s : State) (c : Ctrl) : Nat := (((s.now : Int) * 1000 + c.time.ratePs) / 1000).toNat

/-- Milliseconds and seconds in ns. -/
def ms (n : Nat) : Nat := n * 1000000
def us (n : Nat) : Nat := n * 1000

/-- A watchdog tick is 31.25 µs (R429). -/
def ticksNs (n : Nat) : Nat := n * 31250

/-- An angle source of a controller. -/
def Ctrl.tracker (c : Ctrl) : Nat → Tracker
  | 0 => c.as0 | 1 => c.as1 | 2 => c.as2 | _ => c.as3

def Ctrl.setTracker (c : Ctrl) (i : Nat) (t : Tracker) : Ctrl :=
  match i with
  | 0 => { c with as0 := t }
  | 1 => { c with as1 := t }
  | 2 => { c with as2 := t }
  | _ => { c with as3 := t }

/-- Records made with a source carry `FLYWHEEL`: its state says so, or on a rope member the master's source does (R78, R82). -/
def Tracker.flagged (t : Tracker) : Bool := t.st.flagged || t.fly

/-- The angle a record carries: 0 in NO_SIGNAL and ACQUIRE (R80). -/
def Tracker.field (t : Tracker) : BitVec 16 :=
  match t.st with
  | .noSignal | .acquire => 0
  | _ => t.angle

/-! ## Keep bank and settings (R458, R465) -/

/-- The factory words of a settings area, by offset. -/
def factorySetting (off : Nat) : Word :=
  if off = 0 then mkw [(127, 112, Config.factorySchema.toNat), (111, 108, 1), (95, 64, Config.factoryVersion.toNat)]
  else if off ≤ 0x400 then mkw [(111, 96, 1000), (91, 82, 50), (79, 79, 1)]
  else if off ≤ 0x480 then
    mkw [(107, 99, 50), (97, 97, 1), (96, 96, 1), (95, 95, 1), (94, 90, 5), (89, 88, 2), (87, 80, 20), (79, 56, 2000000)]
  else if off ≤ 0x500 then mkw [(113, 110, 6), (109, 108, 2), (82, 67, 1)]
  else if off = 0x501 then mkw [(127, 96, 50000), (95, 94, 1), (87, 84, 15)]
  else if off = 0x502 then mkw [(127, 124, 2)]
  else if off = 0x503 then mkw [(115, 102, 320), (101, 88, 1600), (63, 32, 1)]
  else if off = 0x504 then mkw [(127, 118, 50)]
  else if off = 0x505 then mkw [(127, 127, 1), (121, 112, 25)]
  else if off = 0x506 then mkw [(127, 127, 1), (119, 119, 1)]
  else if off = 0x507 then mkw [(127, 127, 1), (119, 88, 0xC0A8420A), (87, 82, 24), (79, 64, 4950)]
  else if off = 0x508 then mkw [(127, 127, 1), (119, 88, 0xC0A8420B), (87, 82, 24), (79, 64, 4950)]
  else if off = 0x509 then mkw [(127, 127, 1)]
  else if off = 0x50A then mkw [(121, 121, 1)]
  else 0

/-- The stored fields of a settings word, by offset, as [hi:lo] pairs (R465, R466); the offsets reserved for later schemas hold
none. -/
def settingFields (off : Nat) : List (Nat × Nat) :=
  if off = 0 then [(127, 108), (95, 32)]
  else if off ≤ 0x400 then [(115, 79)]
  else if off ≤ 0x480 then [(115, 56)]
  else if off ≤ 0x500 then [(115, 59)]
  else if off = 0x501 then [(127, 91), (87, 78), (71, 32)]
  else if off = 0x502 then [(127, 124)]
  else if off = 0x503 then [(125, 88), (63, 32)]
  else if off = 0x504 then [(127, 117)]
  else if off = 0x505 then [(127, 127), (121, 112)]
  else if off = 0x506 then [(127, 127), (119, 119)]
  else if off = 0x507 ∨ off = 0x508 then [(127, 127), (119, 64)]
  else if off = 0x509 then [(127, 127)]
  else if off = 0x50A then [(127, 121)]
  else if off ≤ 0x54A then [(127, 0)]
  else []

/-- A settings word as it is stored and read: every field that is not stored is 0 (R7, R465). -/
def storedSetting (off : Nat) (w : Word) : Word := keepFields w (settingFields off)

/-- The factory word at a keep-bank address. -/
def factoryKeep (a : Nat) : Word :=
  if a = 0 then mkw [(127, 112, 1)]
  else if a = 3 then mkw [(127, 96, 0xFFFFFFFF)]
  else if 0x40 ≤ a ∧ a < 0xC0 then mkw [(127, 116, 0x400 + (a - 0x40)), (63, 32, 0x01000000), (31, 0, 0x01000000)]
  else if 0x100 ≤ a ∧ a < 0x900 then factorySetting (a - 0x100)
  else if 0x900 ≤ a ∧ a < 0x1100 then factorySetting (a - 0x900)
  else 0

/-- A keep-bank word as stored. -/
def Ctrl.keepWord (c : Ctrl) (a : Nat) : Word := tget (factoryKeep a) c.keep a

/-- A keep-bank word stored, without wear. -/
def Ctrl.putKeep (c : Ctrl) (a : Nat) (w : Word) : Ctrl := { c with keep := tset (factoryKeep a) c.keep a w }

/-- Wear of a word (R463). -/
def Ctrl.wearOf (c : Ctrl) (a : Nat) : Nat := tget 0 c.wear a

/-- The endurance of R464. -/
def endurance : Nat := 1000000

/-- The firmware counts a word that becomes worn (R464, R459): `FIRST_WORN` names the lowest, `WORN_WORDS` counts. -/
def Ctrl.countWorn (c : Ctrl) (a : Nat) : Ctrl :=
  let w := c.keepWord 6
  let n := fld w 114 102
  let first := if n = 0 then a else min (fld w 127 115) a
  c.putKeep 6 (mkw [(127, 115, first), (114, 102, satAt 8191 (n + 1))])

/-- One word of a group written: a value equal to the stored one is not written and adds no wear (R460, R463). -/
def Ctrl.writeKeep (c : Ctrl) (a : Nat) (w : Word) : Ctrl :=
  if c.keepWord a = w then c
  else
    let n := satAt 4294967295 (c.wearOf a + 1)
    let c1 := { c.putKeep a w with wear := tset 0 c.wear a n }
    if n = endurance then c1.countWorn a else c1

/-- All words of a group written (R461). -/
def Ctrl.writeGroup (c : Ctrl) (ws : List (Nat × Word)) : Ctrl :=
  ws.foldl (fun c p => c.writeKeep p.1 p.2) c

/-- A word of the group would pass its endurance (R464). -/
def Ctrl.wouldWear (c : Ctrl) (ws : List (Nat × Word)) : Bool :=
  ws.any fun p => decide (c.keepWord p.1 ≠ p.2) && decide (endurance ≤ c.wearOf p.1)

/-- The keep-bank address of an offset in the area paired with the slot the controller runs (R465). -/
def Ctrl.areaAt (c : Ctrl) (off : Nat) : Nat := (if c.running1 then 0x900 else 0x100) + off

/-- The latest value of a settings word: the newest group that waits for the eNVM, else the stored word (R462). -/
def pendingWord (gs : List KeepGroup) (a : Nat) (d : Word) : Word :=
  gs.foldl (fun acc g => tget acc (g.words.reverse) a) d

/-- A settings word in force. -/
def Ctrl.setting (c : Ctrl) (off : Nat) : Word :=
  pendingWord c.groups (c.areaAt off) (c.keepWord (c.areaAt off))

/-- Channel, conversion and trim words in force. -/
def Ctrl.digCfg (c : Ctrl) (ch : Nat) : Word := c.setting (0x001 + ch)
def Ctrl.loopCfg (c : Ctrl) (ch : Nat) : Word := c.setting (0x401 + (ch - 0x400))
def Ctrl.convCfg (c : Ctrl) (ch : Nat) : Word := c.setting (0x481 + (ch - 0x400))
def Ctrl.trimWord (c : Ctrl) (ch : Nat) : Word :=
  pendingWord c.groups (0x40 + (ch - 0x400)) (c.keepWord (0x40 + (ch - 0x400)))
/-- `ANGLE_CFG` as it acts: a write acts from the next 1 µs update on (R92). -/
def Ctrl.angleCfg (c : Ctrl) : Word := c.angleOld.getD (c.setting 0x501)
def Ctrl.startMode (c : Ctrl) : Mode := if fld (c.setting 0x502) 127 124 = 3 then .service else .commission
def Ctrl.wdogCfg (c : Ctrl) : Word := c.setting 0x503
def Ctrl.faultCfg (c : Ctrl) : Word := c.setting 0x504
def Ctrl.ropeCfg (c : Ctrl) : Word := c.setting 0x505
/-- A port's settings in force: a change waits until the reply of its CFG_WRITE has left (R357). -/
def Ctrl.portCfg (c : Ctrl) (i : Nat) : Word :=
  match c.ports.waitCfg.find? fun e => e.2.1 == i with
  | some e => e.2.2
  | none => c.setting (0x506 + i)
def Ctrl.spiCfg (c : Ctrl) : Word := c.setting 0x50A
/-- `HW_SEED` of a session (R465): four seeds to a word, session 4j + 3 in [127:96]. -/
def Ctrl.hwSeed (c : Ctrl) (i : Nat) : Nat := fld (c.setting (0x50B + i / 4)) (32 * (i % 4) + 31) (32 * (i % 4))
def Ctrl.ropeEn (c : Ctrl) : Bool := bitOf c.ropeCfg 127
/-- The windowed pod of the SPI port (R336). -/
def Ctrl.window (c : Ctrl) : Nat := fld c.spiCfg 127 122

/-! Fields of channel configuration words (R174, R205, R232). -/
def digMode (w : Word) : Nat := fld w 115 113
def digIsOut (w : Word) : Bool := digMode w == 3 || digMode w == 4
def digIsIn (w : Word) : Bool := digMode w == 1 || digMode w == 2
def loopMode (w : Word) : Nat := fld w 115 114
def loopFsk (w : Word) : Nat := fld w 111 110
def convKind (w : Word) : Nat := fld w 115 114
/-- Results per cycle (R232). -/
def convK (w : Word) : Nat := 8 * 2 ^ fld w 109 108

/-- A channel is configured as an output in the controller's settings. -/
def Ctrl.isOut (c : Ctrl) (ch : Nat) : Bool :=
  if isDigital ch then digIsOut (c.digCfg ch) else isLoop ch && loopMode (c.loopCfg ch) == 2

/-- A LOOP_OUT channel in FSK_MULTIDROP (R66). -/
def Ctrl.multidrop (c : Ctrl) (ch : Nat) : Bool :=
  isLoop ch && loopMode (c.loopCfg ch) == 2 && loopFsk (c.loopCfg ch) == 2

/-! ## Records (R10, R11, R190) -/

/-- The record check value over a 16-bit prefix and bits [127:16]. -/
def recCrc (pre : Nat) (w : Word) : Nat := crcOf 1 (numBytes 2 pre ++ (wordBytes w).take 14)

/-- A record with its CRC formed. -/
def sealRec (pre : Nat) (w : Word) : Word := setFld w 15 0 (recCrc pre w)

/-- A record: channel, kind, angle, full sampling MTIME, value (L1), flags ([31:16], as a 16-bit number), and sequence. -/
def mkRec (ch kind angle at_ value flags seq : Nat) : Rec :=
  { word := sealRec seq (mkw [(127, 116, ch), (115, 112, kind), (111, 96, angle), (95, 64, at_), (63, 32, value),
      (31, 16, flags)]), seq, at_ }

/-! Flags as bits of the 16-bit flag field: record bit 31 is bit 15. -/
def fValid : Nat := 15
def fLate : Nat := 14
def fSettling : Nat := 13
def fInterrupted : Nat := 12
def fOpen : Nat := 11
def fOverload : Nat := 10
def fOvertemp : Nat := 9
def fFlywheel : Nat := 8
def fSkipped : Nat := 7
def fMirrored : Nat := 6
def fAlarm : Nat := 5
def fShort : Nat := 4
def fMismatch : Nat := 3

/-- A flag field from the flags set. -/
def flagsOf (fs : List (Nat × Bool)) : Nat := fs.foldl (fun a f => a + b2n f.2 * 2 ^ f.1) 0

def recChan (r : Rec) : Nat := fld r.word 127 116
def recKind (r : Rec) : Nat := fld r.word 115 112
def recTime (r : Rec) : Nat := fld r.word 95 64
def recFlag (r : Rec) (f : Nat) : Bool := bitOf r.word (16 + f)
def recValue (r : Rec) : Nat := fld r.word 63 32

/-- A record with a flag set, its CRC formed again with its own sequence. -/
def Rec.withFlag (r : Rec) (f : Nat) (v : Bool) : Rec :=
  { r with word := sealRec r.seq (setFld r.word (16 + f) (16 + f) (b2n v)) }

/-- A record as it leaves the module: CRC with the prefix 0x0000 (R11). -/
def leaving (w : Word) : Word := sealRec 0 w

/-- The next record sequence of a channel, and the controller with it counted (R11). -/
def Ctrl.nextSeq (c : Ctrl) (ch : Nat) : Nat × Ctrl :=
  let n := (tget 0 c.recSeq ch + 1) % 65536
  (n, { c with recSeq := tset 0 c.recSeq ch n })

/-- A record written into the ring of a link: the newest 2,048 are held (R142). -/
def Ctrl.toRing (c : Ctrl) (link : Nat) (r : Rec) : Ctrl :=
  let u := tget {} c.up link
  let lost := (u.ring.drop 2047).map fun q => (recChan q, recKind q, q.at_)
  let u1 := { u with ring := (r :: u.ring).take 2048, gone := lost ++ u.gone }
  { c with up := tset {} c.up link u1 }

/-! ## Events (R318 to R321) -/

/-- Event word 0, apart from `FAILOVER_GAP` and `DROPPED`, which are filled when the event is sent. -/
def eventWord (knot : Nat) (mt : BitVec 64) (code subject : Nat) : Word :=
  mkw [(127, 120, code), (119, 108, subject), (107, 104, knot), (63, 0, mt.toNat)]

/-- An event queued for one session; a full queue drops its oldest event (R321). -/
def Session.push (q : Session) (op : Nat) (words : List Word) : Session :=
  let e : Event := { op, words, order := q.formed }
  if q.depth ≤ q.events.length then
    { q with events := q.events.drop 1 ++ [e], dropped := satAt 65535 (q.dropped + 1), formed := q.formed + 1 }
  else { q with events := q.events ++ [e], formed := q.formed + 1 }

/-- An event queued for one session if it is open. -/
def Ctrl.tell (c : Ctrl) (i op : Nat) (words : List Word) : Ctrl :=
  let q := tget {} c.sessions i
  if q.isOpen then { c with sessions := tset {} c.sessions i (q.push op words) } else c

/-- An event queued for every open session. -/
def Ctrl.tellAll (c : Ctrl) (op : Nat) (words : List Word) : Ctrl :=
  { c with sessions := c.sessions.map fun p => (p.1, if p.2.isOpen then p.2.push op words else p.2) }

/-- An `EVENT` of the module for every open session. -/
def State.eventAll (s : State) (c : Ctrl) (code subject : Nat) (body : List Word) : Ctrl :=
  c.tellAll 0x80 (eventWord s.knotId (mtimeOf s c) code subject :: body)

/-- An `EVENT` of the module for one session. -/
def State.eventTo (s : State) (c : Ctrl) (i code subject : Nat) (body : List Word) : Ctrl :=
  c.tell i 0x80 (eventWord s.knotId (mtimeOf s c) code subject :: body)

/-- Published by the ACTIVE controller. -/
def State.publish (s : State) (code subject : Nat) (body : List Word) : State :=
  s.onActive fun x c => s.setCtrl x (s.eventAll c code subject body)

/-- The FAULT event (R453). -/
def faultWord (fev : Nat) (side : Side) (source : Nat) (episode : BitVec 32) : Word :=
  mkw [(127, 124, fev), (123, 123, sideCode side), (122, 117, source), (95, 64, episode.toNat)]

def State.faultEvent (s : State) (c : Ctrl) (fev : Nat) (side : Side) (source subject : Nat) : Ctrl :=
  s.eventAll c 0x0E subject [faultWord fev side source c.faults.episode.number]

/-- The MODE event (R320). -/
def modeWord (before after : Mode) (cause tag session : Nat) : Word :=
  mkw [(127, 124, modeCode before), (123, 120, modeCode after), (119, 116, cause), (111, 100, tag), (99, 92, session)]

/-- The ROLE event (R372). -/
def roleWord (before after : Role) (cause : Nat) (epoch : BitVec 32) : Word :=
  mkw [(127, 124, roleCode before), (123, 120, roleCode after), (119, 116, cause), (111, 80, epoch.toNat)]

/-- A role change of controller `x`, published by the ACTIVE controller (R319, R372). -/
def State.roleEvent (s : State) (x : Side) (before after : Role) (cause : Nat) : State :=
  s.publish 0x02 (sideCode x) [roleWord before after cause (if s.compat then 0 else s.arb.epoch)]

/-! ## The logline (R295 to R301) -/

/-- The word of a logline entry (R297). -/
def logWord (entry op session tag kind seq status port : Nat) (side : Side) (vol : Bool) (digest : Nat) : Word :=
  mkw [(127, 96, entry), (95, 88, op), (87, 80, session), (79, 68, tag), (67, 64, kind), (63, 48, seq),
    (47, 40, status), (39, 37, port), (36, 36, sideCode side), (35, 35, b2n vol), (31, 0, digest)]

/-- An entry stored: in eNVM, or in SRAM while journalling is volatile; the newest 65,536 are held (R299, R301). -/
def Logline.put (l : Logline) (w : Word) : Logline :=
  let at_ := l.next % 65536
  let l1 := { l with next := (l.next + 1) % 4294967296, count := satAt 65536 (l.count + 1) }
  if l.isVolatile then { l1 with sram := tset 0 l.sram at_ w } else { l1 with entries := tset 0 l.entries at_ w }

/-- A mirrored entry in the STANDBY controller's own logline (R301, R373). -/
def Logline.mirror (l : Logline) (n : Nat) (w : Word) : Logline :=
  { l with entries := tset 0 l.entries (n % 65536) w, next := (n + 1) % 4294967296, count := satAt 65536 (l.count + 1) }

/-- An entry held by number. -/
def Logline.at_ (l : Logline) (n : Nat) : Word :=
  if l.isVolatile ∧ tget 0 l.sram (n % 65536) ≠ 0 then tget 0 l.sram (n % 65536) else tget 0 l.entries (n % 65536)

/-- An entry committed by the ACTIVE controller `x`: it stands in its logline and, when a STANDBY controller exists, in
that one's too (R295, R373). -/
def State.journal (s : State) (x : Side) (op session tag kind seq status port digest : Nat) : State :=
  let c := s.ctrl x
  let w := logWord c.logl.next op session tag kind seq status port x c.logl.isVolatile digest
  let s1 := s.modCtrl x fun c => { c with logl := c.logl.put w }
  if s.isStandby x.other then s1.modCtrl x.other fun d => { d with logl := d.logl.mirror c.logl.next w } else s1

/-- A HW_MODE entry (R298): mode before, mode after and cause in its digest; internal port. -/
def State.hwMode (s : State) (x : Side) (before after : Mode) (cause : Nat) : State :=
  s.journal x 0 0 0xFFF 3 0 stOk 5 (modeCode before * 2 ^ 28 + modeCode after * 2 ^ 24 + cause * 2 ^ 20)

/-! ## FAULT_N (R449) -/

/-- FAULT_N is asserted by the start-up hold path, by the arbiter in START or VACANT, by the ACTIVE controller's
collector, or by a controller that finds no image to boot (R385); without supply the normally-on path asserts it. -/
def State.faultN (s : State) : Bool :=
  !s.supply || s.startHold || s.ctrlA.noImage || s.ctrlB.noImage || s.arb.st == .start || s.arb.st == .vacant ||
    (match s.active with | none => false | some x => (s.ctrl x).faults.pinHeld)

end Sys2Proof.Machine
end

