-- ==== Sys2Proof/Machine/Messages.lean ====
section
/-! DEFINITION. Messages (chapter 10): headers and check values, replies, tags in flight, credits, duplicates, logline
entries of requests, and the admission steps of R291. -/

namespace Sys2Proof.Machine

/-! ## Headers (R283 to R285) -/

/-- `GEN` of a port (R283). -/
def genOf : Port → Nat
  | .frame => 2
  | _ => 3

/-- A header word without its check value. -/
def headerBare (op session flags tag len seq status gen : Nat) : Word :=
  mkw [(127, 120, 0xB6), (119, 112, op), (111, 104, session), (103, 96, flags), (95, 84, tag), (83, 76, len),
    (63, 48, seq), (47, 40, status), (39, 36, gen)]

/-- The CRC-32C of a message (R285); `dir` is 0 to the module and 1 from it. -/
def messageCrc (dir : Nat) (h : Word) (p : List Word) : Nat :=
  crcOf 3 ([fld h 111 104, fld h 63 56, fld h 55 48, dir] ++ (wordBytes h).take 12 ++ p.flatMap wordBytes)

/-- A header with its check value. -/
def sealHeader (dir : Nat) (h : Word) (p : List Word) : Word := setFld h 31 0 (messageCrc dir h p)

/-- Flag bits of a reply or event (R284), as a value of [103:96]. -/
def headerFlags (event vol dup : Bool) : Nat := 128 + 64 * b2n event + 32 * b2n vol + 16 * b2n dup

/-- The header word of a reply (R294). -/
def Reply.header (r : Reply) : Word :=
  sealHeader 1 (headerBare r.op r.req.session (headerFlags false r.vol r.dup) r.req.tag r.words.length r.req.seq r.status
    (genOf r.req.port)) r.words

/-! ## Opcodes (R294) -/

/-- The request opcodes. -/
def requestOps : List Nat :=
  [0x01, 0x02, 0x03, 0x10, 0x11, 0x12, 0x20, 0x21, 0x22, 0x23, 0x24, 0x30, 0x31, 0x32, 0x38, 0x39, 0x3A, 0x40, 0x41, 0x50,
    0x51, 0x52, 0x53, 0x54, 0x55, 0x60, 0x61, 0x68, 0x69, 0x6A, 0x6B, 0x70, 0x71, 0x72, 0x78, 0x79, 0x7A]

/-- The opcodes that are never journalled. -/
def unjournalled : List Nat := [0x10, 0x23, 0x24, 0x41, 0x50, 0x53, 0x54, 0x60, 0x68, 0x69, 0x6A, 0x6B, 0x78]

/-- The payload word `i`, 0 beyond the payload. -/
def wordAt (p : List Word) (i : Nat) : Word := p.getD i 0

/-- Whether a message receives a logline entry: SAMPLE_READ only for CONVERT and URGENT (R294). -/
def journalled (op : Nat) (p : List Word) : Bool :=
  if op = 0x30 then fld (wordAt p 0) 127 126 == 1 || fld (wordAt p 0) 127 126 == 2 else !unjournalled.contains op

/-- A journalled message answered at End, with a COMPLETE entry (R294, R298). -/
def endOp (op : Nat) (p : List Word) : Bool :=
  [0x30, 0x61, 0x70, 0x71, 0x72, 0x79, 0x7A].contains op ||
    (op == 0x39 && (fld (wordAt p 0) 115 112 == 2 || fld (wordAt p 0) 115 112 == 3))

/-! ## Sessions, tags, replies -/

/-- A session of a controller. -/
def Ctrl.session (c : Ctrl) (i : Nat) : Session := tget {} c.sessions i
def Ctrl.setSession (c : Ctrl) (i : Nat) (q : Session) : Ctrl := { c with sessions := tset {} c.sessions i q }

/-- A tag in flight: its request (R289). -/
def Ctrl.flight (c : Ctrl) (tag : Nat) : Option Flight := c.flights.find? fun f => f.req.tag == tag
/-- A flight's entry changed. -/
def Ctrl.modFlight (c : Ctrl) (tag : Nat) (f : Flight → Flight) : Ctrl :=
  { c with flights := c.flights.map fun g => if g.req.tag = tag then f g else g }
/-- A tag that leaves flight. -/
def Ctrl.dropFlight (c : Ctrl) (tag : Nat) : Ctrl := { c with flights := c.flights.filter fun g => g.req.tag != tag }

/-- A reply queued for its session, in the order of formation (R322). -/
def Session.addReply (q : Session) (r : Reply) : Session :=
  { q with replies := q.replies ++ [{ r with order := q.formed }], formed := q.formed + 1 }

/-- A reply formed and queued. -/
def Ctrl.queueReply (c : Ctrl) (q : Req) (op status : Nat) (words : List Word) (dup counted : Bool) : Ctrl :=
  c.setSession q.session ((c.session q.session).addReply
    { req := q, op, status, words, dup, vol := c.logl.isVolatile, counted, order := 0 })

/-- A reply that controller `x` sends at once, outside any session's stream: an answer before step 7 of R291. -/
def State.answerNow (s : State) (x : Side) (q : Req) (op status : Nat) : State :=
  s.emitOn x q.port (.message q.port q.ip q.udp
    (Reply.header { req := q, op, status, words := [], dup := false, vol := (s.ctrl x).logl.isVolatile, counted := false, order := 0 })
    [])

/-- The request with the route its reply takes: that of the resume, after a resume (R306). -/
def Ctrl.route (c : Ctrl) (f : Flight) : Req :=
  let q := c.session f.req.session
  if f.rebound then { f.req with port := q.port, ip := q.ip, udp := q.udp } else f.req

/-- The reply of a request in flight is formed: queued, or discarded when its session closed (R307). -/
def Ctrl.finish (c : Ctrl) (tag status : Nat) (words : List Word) : Ctrl :=
  match c.flight tag with
  | none => c
  | some f =>
    if f.discard then c.dropFlight tag
    else
      (c.modFlight tag fun g => { g with formed := some (status, words), passed := true }).queueReply (c.route f) f.op status
        words f.taken true

/-- The CRC of the reply a request in flight would receive: the digest of its COMPLETE entry (R298). -/
def Ctrl.replyDigest (c : Ctrl) (f : Flight) (status : Nat) (words : List Word) : Nat :=
  let r : Reply :=
    { req := c.route f, op := f.op, status, words, dup := f.taken, vol := c.logl.isVolatile, counted := true, order := 0 }
  fld r.header 31 0

/-- The newest entry number of a controller's logline. -/
def Logline.newest (l : Logline) : Nat := (l.next + 4294967295) % 4294967296

/-- An entry of a request: its fields from the request, and the session's newest entry noted (R297, R306). -/
def State.journalReq (s : State) (x : Side) (q : Req) (op kind status digest : Nat) : State :=
  let s1 := s.journal x op q.session q.tag kind q.seq status (portCode q.port) digest
  s1.modCtrl x fun c => c.setSession q.session { c.session q.session with lastEntry := c.logl.newest }

/-- A session as it is mirrored: queued events and formed replies stay behind (R321, R373). -/
def Session.mirror (n : Session) : Session := { n with events := [], replies := [] }

/-- The items a controller still sends to its pods, as its partner holds them: none of its own frames has carried one. -/
def mirrorItems (from_ to_ : Tab DownLink) : Tab DownLink :=
  ((from_ ++ to_).map fun e => e.1).foldl (fun t l =>
    let d := tget {} from_ l
    tmod {} t l fun e => { e with items := d.items.map fun i => { i with sent := [] }, reqNo := d.reqNo }) to_

/-- The session table, with its host watchdogs, and the tags in flight, with what committed commands still send to pods, send
by FSK, calibrate or put off, at the STANDBY controller (R373). -/
def State.syncTags (s : State) (x : Side) : State :=
  if s.isStandby x.other then
    let c := s.ctrl x
    s.modCtrl x.other fun d =>
      { d with
        sessions := c.sessions.foldl (fun t p => tset {} t p.1 p.2.mirror) [], flights := c.flights,
        hostDogs := c.hostDogs, down := mirrorItems c.down d.down, fsk := c.fsk, calJobs := c.calJobs
        sched := { d.sched with deferred := c.sched.deferred } }
  else s

/-- The end of a message answered at End: its COMPLETE entry, then its reply (R294, R298). -/
def State.complete (s : State) (x : Side) (tag status : Nat) (words : List Word) : State :=
  match (s.ctrl x).flight tag with
  | none => s
  | some f =>
    let s1 := s.journalReq x f.req f.op 1 status ((s.ctrl x).replyDigest f status words)
    (s1.modCtrl x fun c => c.finish tag status words).syncTags x

/-! ## Duplicates and the window of SEQ (R288) -/

/-- `SEQ` is among the admitted values of the window. -/
def Session.isDup (q : Session) (seq : Nat) : Bool := q.admitted.contains seq

/-- An admitted `SEQ` noted. -/
def Session.noteSeq (q : Session) (seq : Nat) : Session :=
  let d := (seq + 65536 - q.highSeq) % 65536
  if q.isDup seq then q
  else if 1 ≤ d ∧ d ≤ 32767 then
    { q with highSeq := seq, admitted := seq :: q.admitted.filter fun v => (seq + 65536 - v) % 65536 < 1024 }
  else if (q.highSeq + 65536 - seq) % 65536 < 1024 then { q with admitted := seq :: q.admitted }
  else q

/-- An entry number is held: it lies within the newest `count` (R299). -/
def Logline.holds (l : Logline) (n : Nat) : Bool :=
  decide ((l.next + 4294967296 - n) % 4294967296 ≤ l.count) && decide (n ≠ l.next)

/-- The entries held, from eNVM and SRAM. -/
def Logline.held (l : Logline) : List Word :=
  ((l.entries ++ l.sram).map fun e => e.2).filter fun w => l.holds (fld w 127 96)

/-- The age of an entry: 1 for the newest. -/
def Logline.age (l : Logline) (w : Word) : Nat := (l.next + 4294967296 - fld w 127 96) % 4294967296

/-- The newest entry held that satisfies a condition. -/
def Logline.findNewest (l : Logline) (f : Word → Bool) : Option Word :=
  l.held.foldl (fun best w =>
    if f w then
      match best with
      | none => some w
      | some b => if l.age w < l.age b then some w else best
    else best) none

/-- The status of the REQUEST entry of a duplicate, or `TOO_LATE` when it is no longer held (R288). -/
def Logline.dupStatus (l : Logline) (session seq : Nat) : Nat :=
  match l.findNewest fun w =>
    fld w 67 64 == 0 && fld w 87 80 == session && fld w 63 48 == seq && decide (fld w 39 37 < 4) with
  | none => stTooLate
  | some w => fld w 47 40

/-! ## Admission (R287 to R291) -/

/-- The session is bound to the sender (R287). -/
def Session.bound (q : Session) (r : Req) : Bool :=
  q.isOpen && portClass q.port == portClass r.port &&
    (portClass r.port != 1 || (q.ip == r.ip && q.udp == r.udp))

/-- What admission answers: admitted, answered with a status in the session's stream, answered at once, or nothing. -/
inductive Admit
  | admitted | refused (status : Nat) | now (status : Nat) | duplicate (status : Nat) | silent
  deriving DecidableEq, Repr

/-- SESSION_OPEN and SESSION_RESUME skip steps 6 to 8. -/
def openOp (op : Nat) : Bool := op == 0x01 || op == 0x02

/-- Steps 5 to 9 of R291 at the ACTIVE controller. -/
def Ctrl.admission (c : Ctrl) (op : Nat) (q : Req) (p : List Word) : Admit :=
  let n := c.session q.session
  if !requestOps.contains op then .now stUnknownOp
  else if !openOp op && !n.bound q then .now stNoSession
  else if !openOp op && journalled op p && n.isDup q.seq then
    if c.flights.any fun f => f.req.session == q.session && f.req.seq == q.seq then .silent
    else .duplicate (c.logl.dupStatus q.session q.seq)
  else if !openOp op && n.free == 0 &&
      !(op == 0x40 && !c.flights.any fun f => f.op == 0x40 && f.noCredit && f.req.session == q.session) then
    .refused stNoCredit
  else if 0x800 ≤ q.tag then .refused stRange
  else if (c.flight q.tag).isSome then .refused stTagInUse
  else .admitted

/-- The request is a duplicate, whose reply carries `DUPLICATE` (R284, R288); SESSION_OPEN and SESSION_RESUME are not tested. -/
def Session.repeats (n : Session) (op : Nat) (q : Req) : Bool := !openOp op && n.isDup q.seq

/-- The session's credit, window and event port, and the tag, of an admitted request (R287 to R290). A SESSION_OPEN comes before
the credits its session will hold; a SESSION_RESUME takes one where one is free. -/
def Ctrl.enter (c : Ctrl) (op : Nat) (q : Req) (p : List Word) : Ctrl :=
  let n := c.session q.session
  let f : Flight :=
    { req := q, op, payload := p, committed := false, passed := false, ended := false, discard := false,
      rebound := false, formed := none, noCredit := op == 0x01 || n.free == 0, taken := n.repeats op q }
  let c1 := { c with flights := c.flights ++ [f] }
  if op = 0x01 then c1
  else if op = 0x02 then (if n.free = 0 then c1 else c1.setSession q.session { n with free := n.free - 1 })
  else
    c1.setSession q.session { n.noteSeq q.seq with
      free := n.free - 1, evPort := q.port, evIp := n.ip, evUdp := n.udp }

/-- Queued messages that wait for their logline commit, with an ABORT ahead of its session's (R296, R302). -/
def enqueue (w : List (Nat × Req × List Word)) (op : Nat) (q : Req) (p : List Word) : List (Nat × Req × List Word) :=
  if op = 0x40 then
    w.takeWhile (fun m => m.2.1.session != q.session) ++ [(op, q, p)] ++
      w.dropWhile (fun m => m.2.1.session != q.session)
  else w ++ [(op, q, p)]

/-! ## Authority at the controller (R371) -/

/-- The controller finds its tether stale: it is not the holder, or its epoch is not the arbiter's (R371). Under COMPAT its claim
no longer prevails, unless it took over because its partner's splice is silent (R382). -/
def State.stale (s : State) (x : Side) : Bool :=
  if s.compat then s.holder != some x && !(s.ctrl x).granted else s.arb.st != .held x || (s.ctrl x).epoch != s.arb.epoch

/-- A controller can relay messages to the ACTIVE controller (R25). -/
def State.canRelay (s : State) (x : Side) : Bool :=
  s.isStandby x && (s.ctrl x).spliceUp && (s.ctrl x.other).isActive && (s.ctrl x.other).spliceUp

/-- A counter of `PORT_CFG`: port index and counter, saturating (R356). -/
def Ctrl.countPort (c : Ctrl) (port n : Nat) : Ctrl :=
  { c with ports := { c.ports with
      cnt := tset 0 c.ports.cnt (4 * port + n) (satAt 65535 (tget 0 c.ports.cnt (4 * port + n) + 1)) } }

/-- The controller a message reaches: its own on Ethernet, the steered one on USB, else by fan-out the ACTIVE controller, since the
other one discards it (R22, R25). -/
def State.receiver (s : State) : Port → Option Side
  | .eth1 => some .a
  | .eth2 => some .b
  | .usb => s.arb.steer
  | _ => s.active

/-- The port serves messages (R356). -/
def Ctrl.portServes (c : Ctrl) (p : Port) : Bool := p == .usb || bitOf (c.portCfg (portCode p)) 127

end Sys2Proof.Machine
end

