-- ==== Sys2Proof/Machine/Keep.lean ====
section
/-! DEFINITION. The keep bank (chapter 15): write groups, KEEP_READ, KEEP_WRITE, KEEP_GROUP_END, the last-gasp words and the
roll-back at start-up. -/

namespace Sys2Proof.Machine

/-- The first status whose condition holds, else `OK`: a table of checks, in order. -/
def firstFail : List (Bool × Nat) → Nat
  | [] => stOk
  | (b, st) :: t => if b then st else firstFail t

/-- The controller with every queued group written: what a later group meets. -/
def Ctrl.settled (c : Ctrl) : Ctrl := c.groups.foldl (fun c g => c.writeGroup g.words) c

/-- Every word of a group already holds its value, stored and pending: nothing is written (R460). -/
def Ctrl.unchangedGroup (c : Ctrl) (ws : List (Nat × Word)) : Bool :=
  ws.all fun p => c.keepWord p.1 == p.2 && pendingWord c.groups p.1 (c.keepWord p.1) == p.2

/-- The settings schema of the image a controller runs (R384). -/
def Ctrl.schema (c : Ctrl) : BitVec 16 := if c.running1 then c.slot1.schema else c.slot0.schema

/-- A keep-bank write as the partner makes it: a settings word goes into the area paired with the slot that the partner runs
(R391, R465). A tadpole of another schema converts the value by rules of its own image, so that value is free. -/
def State.mirrorWord (s : State) (c d : Ctrl) (p : Nat × Word) : (Nat × Word) × State :=
  if c.areaAt 0 ≤ p.1 ∧ p.1 < c.areaAt 0x800 then
    let a := d.areaAt (p.1 - c.areaAt 0)
    if c.schema = d.schema then ((a, p.2), s)
    else ((a, storedSetting (p.1 - c.areaAt 0) (BitVec.ofNat 128 s.draw.1)), s.draw.2)
  else (p, s)

/-- A group as the partner receives it. -/
def State.mirrorWords (s : State) (c d : Ctrl) : List (Nat × Word) → List (Nat × Word) × State
  | [] => ([], s)
  | p :: ps =>
    let (q, s1) := s.mirrorWord c d p
    let (qs, s2) := s1.mirrorWords c d ps
    (q :: qs, s2)

/-- A write group of a committed message: queued in the ACTIVE controller and in its mirror, or, when it changes nothing,
ended at once (R461, R462). The reply is due at once exactly in that case. -/
def State.postGroup (s : State) (x : Side) (tag : Nat) (ws : List (Nat × Word)) (reply : List Word) :
    State × Option (List Word) :=
  let c := s.ctrl x
  if c.unchangedGroup ws then (s, some reply)
  else
    let g : KeepGroup := { words := ws, entry := c.logl.newest, tag := some tag, reply, begun := c.groups.isEmpty && !s.powerFail }
    let s1 := s.modCtrl x fun c => { c with groups := c.groups ++ [g] }
    let s2 := if s.isStandby x.other then
        let (ws2, t) := s1.mirrorWords c (s1.ctrl x.other) ws
        t.modCtrl x.other fun d => { d with groups := d.groups ++ [{ g with words := ws2, begun := d.groups.isEmpty && !s.powerFail }] }
      else s1
    (s2, none)

/-- A system word written by the firmware, which stops at worn words (R464). -/
def Ctrl.writeSys (c : Ctrl) (a : Nat) (w : Word) : Ctrl := if endurance ≤ c.wearOf a then c else c.writeKeep a w

/-- The last-gasp words of R301, written once at the first failure since reset. -/
def State.lastGasp (s : State) (x : Side) (entry : Word) (cause : Nat) : State :=
  s.modCtrl x fun c =>
    if c.logl.gaspDone then c
    else
      let c1 := c.writeSys 4 entry
      let c2 := c1.writeSys 5 (mkw [(127, 96, (mtimeOf s c).toNat / 4294967296), (95, 64, c.logl.newest), (63, 60, cause),
          (59, 56, sideCode x)])
      { c2 with logl := { c2.logl with gaspDone := true } }

/-! ## KEEP_READ and KEEP_WRITE (R469, R470) -/

/-- A wear word. -/
def Ctrl.wearWord (c : Ctrl) (a : Nat) : Word :=
  mkw [(127, 115, a), (114, 114, b2n (decide (endurance ≤ c.wearOf a))), (95, 64, c.wearOf a)]

/-- A word as read: past its endurance its contents and reads are undefined (R464), so each read gives a free value. -/
def State.readKeep (s : State) (c : Ctrl) (a : Nat) : Word × State :=
  if endurance < c.wearOf a then (BitVec.ofNat 128 s.draw.1, s.draw.2) else (c.keepWord a, s)

/-- Words read from an address on. -/
def State.readKeepRun : Nat → Nat → Ctrl → State → List Word × State
  | 0, _, _, s => ([], s)
  | n + 1, a, c, s =>
    let (w, s1) := s.readKeep c a
    let (ws, s2) := State.readKeepRun n (a + 1) c s1
    (w :: ws, s2)

/-- KEEP_READ. -/
def answerKeepRead (p : List Word) (c : Ctrl) (s : State) : State × Nat × List Word :=
  let w := wordAt p 0
  let first := fld w 127 115
  let count := fld w 114 107
  if p.length ≠ 1 ∨ count = 0 ∨ 254 < count ∨ 8192 < first + count then (s, stRange, [])
  else if bitOf w 106 then (s, stOk, (List.range count).map fun i => c.wearWord (first + i))
  else
    let (ws, s1) := State.readKeepRun count first c s
    (s1, stOk, ws)

/-- The words a KEEP_WRITE writes. -/
def keepWriteWords (p : List Word) : List (Nat × Word) :=
  (List.range (p.length - 1)).map fun i => (fld (wordAt p 0) 127 115 + i, wordAt p (i + 1))

/-- The checks of KEEP_WRITE. -/
def checkKeepWrite (p : List Word) (c : Ctrl) : Nat :=
  let w := wordAt p 0
  let first := fld w 127 115
  let count := fld w 114 107
  firstFail [
    (count == 0 || decide (64 < count) || decide (first < 0x1100) || decide (0x2000 < first + count) ||
      p.length != count + 1, stRange),
    (c.settled.wouldWear (keepWriteWords p) && !bitOf w 106, stWorn)]

/-- The reply of KEEP_WRITE: the words that differ are written, and the wear after the write. -/
def keepWriteReply (p : List Word) (c : Ctrl) : Word :=
  let ws := keepWriteWords p
  let written := (ws.filter fun q => pendingWord c.groups q.1 (c.keepWord q.1) != q.2).length
  let c1 := c.settled.writeGroup ws
  mkw [(127, 115, fld (wordAt p 0) 127 115), (114, 107, written),
    (95, 64, ws.foldl (fun m q => max m (c1.wearOf q.1)) 0)]

/-- The effect of KEEP_WRITE: its group is queued, and answered when it has ended. -/
def effectKeepWrite (x : Side) (q : Req) (p : List Word) (s : State) : State × Option (List Word) :=
  s.postGroup x q.tag (keepWriteWords p) [keepWriteReply p (s.ctrl x)]

/-- The oldest waiting group begins, unless the power-fail warning stands (R492). -/
def beginGroup (fail : Bool) : List KeepGroup → List KeepGroup
  | [] => []
  | g :: gs => { g with begun := g.begun || !fail } :: gs

/-- The first write group of a controller ends: its words are written, and a tag that waits is answered, with a COMPLETE
entry when the message is answered at End; the STANDBY controller only writes (R461, R462). -/
def execKeepGroupEnd (x : Side) (s : State) : Host.Outcome State Fault Refusal :=
  match (s.ctrl x).groups with
  | [] => .next s
  | g :: rest =>
    if !g.begun then .next s
    else
    let s1 := s.modCtrl x fun c => { c.writeGroup g.words with groups := beginGroup s.powerFail rest }
    match g.tag.bind (s1.ctrl x).flight with
    | none => .next s1
    | some f =>
      if !(s1.ctrl x).isActive then .next s1
      else if endOp f.op f.payload then .next (s1.complete x f.req.tag stOk g.reply)
      else .next ((s1.modCtrl x fun c => c.finish f.req.tag stOk g.reply).syncTags x)

/-- One group not ended at a start: a group of two or more words has no marker and is rolled back; a single word reads
either its old or its new value, which the spec leaves free (R460, R461), and its old one if its write had not begun (log
entries 75 and 115). -/
def rollBack (c : Ctrl) (g : KeepGroup) (free : Nat) : Ctrl :=
  match g.words with
  | [p] => if g.begun = false ∨ free % 2 = 0 then c else c.writeKeep p.1 p.2
  | _ =>
    c.writeSys 3 (mkw [(127, 96, g.entry), (95, 80, satAt 65535 (fld (c.keepWord 3) 95 80 + 1))])

/-- All groups not ended at a start of controller `x`. -/
def rollBackAll : List KeepGroup → Side → State → State
  | [], x, s => s.modCtrl x fun c => { c with groups := [] }
  | g :: gs, x, s =>
    let (v, s1) := s.draw
    rollBackAll gs x (s1.modCtrl x fun c => rollBack c g v)

end Sys2Proof.Machine
end

