-- ==== Sys2Proof/Machine/Duties.lean ====
section
/-! DEFINITION. The duty record (R106 to R127), its checks (R132), the costs of its stages (R128, R129), and the channels a
duty names. -/

namespace Sys2Proof.Machine

/-! ## Fields of the duty header (R107) -/
def hDuty (h : Word) : Nat := fld h 127 116
def hSource (h : Word) : Nat := fld h 115 114
def hDivider (h : Word) : Nat := fld h 111 96
def hDeadline (h : Word) : Nat := fld h 95 80
def hPriority (h : Word) : Nat := fld h 79 77
def hMirror (h : Word) : Bool := bitOf h 76
def hGuarded (h : Word) : Bool := bitOf h 75
def hGuard (h : Word) : Nat := fld h 71 64
def hAffinity (h : Word) : Nat := fld h 63 62
def hAffCluster (h : Word) : Nat := fld h 61 58
def hStages (h : Word) : Nat := fld h 57 54
def hPoints (h : Word) : Nat := fld h 53 50
def hSteps (h : Word) : Nat := fld h 49 46

/-! ## Channel set (R108) -/

/-- The channels of one entry, ascending. -/
def entryChans (base mask : Nat) : List Nat := (List.range 32).filterMap fun i => if nbit mask i then some (base + i) else none

/-- A number put into an ascending list, once. -/
def insertOnce (n : Nat) : List Nat → List Nat
  | [] => [n]
  | m :: t => if n < m then n :: m :: t else if n = m then m :: t else m :: insertOnce n t

/-- The channel set of a word, ascending: its positions are the channel indices. -/
def chanSet (w : Word) : List Nat :=
  (entryChans (fld w 95 84) (fld w 127 96)).foldr insertOnce
    ((entryChans (fld w 83 72) (fld w 63 32)).foldr insertOnce [])

/-- The channel index of a channel. -/
def indexIn (set : List Nat) (ch : Nat) : Option Nat := set.findIdx? fun c => c == ch

/-- The channels whose bit is set in a mask counted from `base`. -/
def masked (set : List Nat) (mask base : Nat) : List Nat :=
  ((List.range set.length).filter fun i => decide (base ≤ i) && nbit mask (i - base)).filterMap fun i => set[i]?

/-- A `CH_MASK`: 0 means the whole set. -/
def chMasked (set : List Nat) (mask : Nat) : List Nat := if mask = 0 then set else masked set mask 0

/-- The point `k` of a point list (R109). -/
def pointAt (w : Word) (k : Nat) : Nat := fld w (127 - 16 * k) (112 - 16 * k)

/-! ## Stage words (R110, R111) -/
def sType (w : Word) : Nat := fld w 127 124
def sSel (w : Word) : Nat := fld w 123 116
def sAcquire : Nat := 1
def sFilter : Nat := 2
def sCompare : Nat := 3
def sCount : Nat := 4
def sLogic : Nat := 5
def sSequence : Nat := 6
def sDrive : Nat := 7
def sForce : Nat := 8
def sPublish : Nat := 9
def sCheck : Nat := 10
def sRelay : Nat := 11

/-- A duty as defined, without its run state. -/
def Duty.ofRecord (p : List Word) : Duty :=
  let h := wordAt p 0
  { st := 1, stop := 0, header := h, chans := wordAt p 1, points := wordAt p 2,
    stages := (p.drop 3).take (hStages h), steps := (p.drop (3 + hStages h)).take (hSteps h) }

def Duty.set (d : Duty) : List Nat := chanSet d.chans
def Duty.holds (d : Duty) (t : Nat) : Bool := d.stages.any fun w => sType w == t
/-- The duty drives outputs: a `DRIVE` or `SEQUENCE` stage (R37). -/
def Duty.isOutput (d : Duty) : Bool := d.holds sDrive || d.holds sSequence
/-- Mirrored, including under R121. -/
def Duty.mirrored (d : Duty) : Bool := hMirror d.header || d.holds sSequence
/-- The record as `DUTY_DEFINE` wrote it (R136). -/
def Duty.record (d : Duty) : List Word := [d.header, d.chans, d.points] ++ d.stages ++ d.steps
/-- A running duty, including one about to restart. -/
def Duty.running (d : Duty) : Bool := d.st == 2

/-! Step words (R119). -/
def stOut (w : Word) : Nat := fld w 127 116
def stAct (w : Word) : Nat := fld w 115 114
def stFb (w : Word) : Nat := fld w 111 100
def stLevel (w : Word) : Bool := bitOf w 99
def stTimeout (w : Word) : Nat := fld w 95 80
def stDwell (w : Word) : Nat := fld w 79 64
def stValue (w : Word) : Nat := fld w 63 40
def stThresh (w : Word) : Int := sext 24 (fld w 39 16)
def stOnTimeout (w : Word) : Nat := fld w 15 12
def stNext (w : Word) : Nat := fld w 11 8

/-! ## Costs (R128, R129) -/

/-- Records `ACQUIRE` takes at most per channel. -/
def acquireLimit (w : Word) : Nat := if fld w 111 110 = 0 then 1 else fld w 109 103

/-- The largest record count of S at a point, from the stages it selects: the channels acquired times their limit, and 0 where the
point does not run ACQUIRE. -/
def maxRecords (set : List Nat) (stages : List Word) : Nat :=
  match stages with
  | [] => 0
  | w :: _ => if sType w = sAcquire then (chMasked set (fld w 63 0)).length * acquireLimit w else 0

/-- The worst-case cost of one stage, with `a` the access cost to a channel's home bank and `n` records in S. -/
def stageCost (a : Nat → Nat) (set : List Nat) (n : Nat) (w : Word) : Nat :=
  match sType w with
  | 1 => 24 + ((chMasked set (fld w 63 0)).map fun ch => (4 + a ch) * acquireLimit w).sum
  | 2 => if fld w 111 108 < 3 then 16 + 3 * n else 16 + 5 * (chMasked set (fld w 63 0)).length
  | 3 => 12 + 3 * n
  | 4 => 10 + 2 * set.length
  | 5 => if fld w 111 108 < 4 then 8 else if bitOf w 91 then 10 else 8 + 20
  | 6 => 52
  | 7 => 14 + 3 * (masked set (fld w 63 32) (fld w 109 104)).length
  | 8 => 20 + 4 * (if fld w 111 110 = 1 then 32 else (masked set (fld w 63 0) 0).length)
  | 9 =>
    let recs := if fld w 109 108 = 1 then 0 else n
    let sess := if bitOf w 107 then 256 else ((List.range 4).filter fun k => bitOf w (96 + k)).length
    30 + (40 + 2 * recs) * sess
  | 10 => 12 + 6 * n
  | _ => 20 + 4 * (if fld w 111 110 = 1 then min n 8 else 0)

/-- The worst-case cost of one execution: the dearest of the duty's points. -/
def worstCost (a : Nat → Nat) (d : Duty) : Nat :=
  let set := d.set
  (List.range (hPoints d.header)).foldl (fun m k =>
    let run := d.stages.filter fun w => nbit (sSel w) k
    max m (40 + (run.map (stageCost a set (maxRecords set run))).sum)) 0

/-- R129: every access at 20 cycles. -/
def defineCost (d : Duty) : Nat := worstCost (fun _ => 20) d

/-- The bank access cost of R17: 2 cycles, and 3 for each hop along the shorter direction of the ring. -/
def bankCost (c home : Nat) : Nat :=
  let d := (c + 12 - home) % 12
  2 + 3 * min d (12 - d)

/-- The access cost from a cluster to a channel's home bank. -/
def chanCost (c ch : Nat) : Nat := bankCost c (homeOf (linkOf ch))

/-! ## The checks of DUTY_DEFINE (R132) -/

/-- A mask names no channel index at or beyond the number of channels. -/
def maskOk (n mask : Nat) : Bool := decide (mask < 2 ^ n)

/-- The parameters of one stage are within their ranges and its reserved fields are 0. -/
def stageOk (n points : Nat) (w : Word) : Bool :=
  fld w 115 112 == 0 && sSel w != 0 && decide (sSel w < 2 ^ points) &&
  (match sType w with
  | 1 =>
    let m := fld w 111 110
    let l := fld w 109 103
    m != 3 && fld w 102 64 == 0 && maskOk n (fld w 63 0) &&
      (if m = 0 then l == 0 else decide (1 ≤ l) && decide (l ≤ 64))
  | 2 =>
    let m := fld w 111 108
    let k := fld w 107 104
    decide (m ≤ 4) && fld w 103 64 == 0 && maskOk n (fld w 63 0) &&
      (if m = 3 then k != 0 else if m = 4 then decide (2 ≤ k) else k == 0)
  | 3 => fld w 111 110 != 3 && fld w 97 96 == 0 && (fld w 111 110 != 2 || fld w 63 0 == 0)
  | 4 => fld w 111 110 != 3 && fld w 109 96 != 0 && fld w 95 0 == 0
  | 5 => decide (fld w 111 108 ≤ 5) && fld w 90 64 == 0 && maskOk n (fld w 63 0)
  | 6 => fld w 111 0 == 0
  | 7 =>
    decide (fld w 109 104 ≤ 32) && fld w 103 96 == 0 && fld w 7 0 == 0 && decide (fld w 31 8 ≤ 12000000) &&
      maskOk n (fld w 63 32 * 2 ^ fld w 109 104)
  | 8 => decide (fld w 111 110 ≤ 1) && fld w 104 64 == 0 && maskOk n (fld w 63 0)
  | 9 => fld w 111 110 != 3 && fld w 109 108 != 3 && fld w 106 100 == 0 && fld w 63 0 == 0
  | 10 => fld w 111 110 != 3 && fld w 107 96 == 0 && fld w 31 0 == 0
  | 11 => fld w 111 110 != 3 && fld w 104 0 == 0
  | _ => false)

/-- The step checks of R119 and R120. -/
def stepOk (set : List Nat) (steps : Nat) (w : Word) : Bool :=
  let fb := stFb w != 0xFFF
  let known := fun ch => ch == 0xFFF || set.contains ch
  fld w 113 112 == 0 && fld w 98 96 == 0 && fld w 7 0 == 0 && decide (stValue w ≤ 12000000) &&
  known (stOut w) && known (stFb w) && (decide (14 ≤ stNext w) || decide (stNext w < steps)) &&
  (!fb || (decide (stDwell w < stTimeout w) && (decide (14 ≤ stOnTimeout w) || decide (stOnTimeout w < steps))))

/-- No number stands twice in a list. -/
def distinct : List Nat → Bool
  | [] => true
  | n :: t => !t.contains n && distinct t

/-- The placement rules of R111. -/
def placementOk (stages : List Word) : Bool :=
  !((stages.drop 1).any fun w => sType w == sAcquire) &&
    decide ((stages.filter fun w => sType w == sSequence).length ≤ 1)

/-- The header's fields are within their ranges. -/
def headerOk (h : Word) : Bool :=
  fld h 113 112 == 0 && fld h 74 72 == 0 && fld h 45 32 == 0 && hDivider h != 0 && decide (2 ≤ hDeadline h) &&
    hAffinity h != 3 && decide (hAffCluster h ≤ 11) && decide (1 ≤ hStages h) && decide (hStages h ≤ 8) &&
    decide (1 ≤ hPoints h) && decide (hPoints h ≤ 8)

/-- A deletion: word 0 alone, with stage count 0 (R106). -/
def isDeletion (p : List Word) : Bool := p.length == 1 && hStages (wordAt p 0) == 0

/-- The second check of R132 over a whole record. -/
def recordOk (p : List Word) : Bool :=
  let h := wordAt p 0
  let d := Duty.ofRecord p
  let set := d.set
  let pts := (List.range (hPoints h)).map (pointAt d.points)
  headerOk h && p.length == 3 + hStages h + hSteps h &&
    (if d.holds sSequence then decide (1 ≤ hSteps h) && decide (hSteps h ≤ 14) else hSteps h == 0) &&
    fld d.chans 71 64 == 0 && fld d.chans 31 0 == 0 && set.all (fun ch => decide (ch < 0x480)) &&
    distinct pts && ((List.range 8).all fun k => decide (k < hPoints h) || pointAt d.points k == 0) &&
    placementOk d.stages && d.stages.all (stageOk set.length (hPoints h)) && d.steps.all (stepOk set (hSteps h))

/-- A duty as one command put off during its copy leaves it (R157): opcode, request and payload. -/
def Duty.after (d : Duty) (m : Nat × Req × List Word) : Duty :=
  if m.1 = 0x20 then (if isDeletion m.2.2 then {} else Duty.ofRecord m.2.2)
  else if m.1 = 0x21 then { d with st := 2 }
  else if d.st = 2 ∨ d.st = 3 then { d with st := 1 }
  else d

/-- A duty as every command committed before leaves it, those put off during its copy included (R157). -/
def Ctrl.dutyLeft (c : Ctrl) (n : Nat) : Duty :=
  (c.sched.deferred.filter fun m => fld (wordAt m.2.2 0) 127 116 == n).foldl Duty.after (tget {} c.duties n)

/-- A deletion's header has its reserved fields 0 and no reserved code. -/
def deletionOk (h : Word) : Bool :=
  fld h 113 112 == 0 && fld h 74 72 == 0 && fld h 45 32 == 0 && hAffinity h != 3 && decide (hAffCluster h ≤ 11)

/-- The checks of DUTY_DEFINE, in order. An empty payload has no record at all. -/
def checkDutyDefine (p : List Word) (c : Ctrl) : Nat :=
  let h := wordAt p 0
  let d := c.dutyLeft (hDuty h)
  firstFail [
    (p.length == 0, stRange),
    (d.st == 2 || d.st == 3, stBusy),
    (isDeletion p && !deletionOk h, stRange),
    (!isDeletion p && !recordOk p, stRange),
    (!isDeletion p && decide (hDeadline h * 400 < defineCost (Duty.ofRecord p)), stRange)]

/-! ## Channels a duty names -/

/-- Channels named by `DRIVE` stages. -/
def Duty.driveChans (d : Duty) : List Nat :=
  d.stages.flatMap fun w => if sType w = sDrive then masked d.set (fld w 63 32) (fld w 109 104) else []

/-- Channels named by `FORCE SAFE` in MASK scope. -/
def Duty.forceChans (d : Duty) : List Nat :=
  d.stages.flatMap fun w => if sType w = sForce ∧ fld w 111 110 = 0 then masked d.set (fld w 63 0) 0 else []

/-- Channels acted on by steps. -/
def Duty.stepChans (d : Duty) : List Nat :=
  if d.holds sSequence then (d.steps.map stOut).filter fun ch => ch != 0xFFF else []

/-- Every channel of a bay. -/
def bayChans (bay : Nat) : List Nat := (bayLinks bay).flatMap linkChans

/-- Channels of `FORCE SAFE` in BAY scope: the bay's channels configured as outputs. -/
def Ctrl.bayForce (c : Ctrl) (d : Duty) : List Nat :=
  d.stages.flatMap fun w =>
    if sType w = sForce ∧ fld w 111 110 = 1 then (bayChans (fld w 109 105)).filter c.isOut else []

/-- The channels a duty's `DRIVE` or `FORCE SAFE` stages name, BAY scope included (R140). -/
def Ctrl.outputsOf (c : Ctrl) (d : Duty) : List Nat := d.driveChans ++ d.forceChans ++ c.bayForce d

/-- The channels a duty has forced while its latch is set (R123). -/
def Ctrl.forcedOf (c : Ctrl) (d : Duty) : List Nat := if d.forced then d.forceChans ++ c.bayForce d else []

/-- A duty names a channel: in its channel set. -/
def Duty.names (d : Duty) (ch : Nat) : Bool := d.set.contains ch

/-- The running duties of a controller, by number. -/
def Ctrl.runningDuties (c : Ctrl) : List (Nat × Duty) := c.duties.filter fun p => p.2.running

/-- A running duty names the channel. -/
def Ctrl.namedByRunning (c : Ctrl) (ch : Nat) : Bool := c.runningDuties.any fun p => p.2.names ch

/-- The channel is forced by some duty. -/
def Ctrl.isForced (c : Ctrl) (ch : Nat) : Bool := c.duties.any fun p => (c.forcedOf p.2).contains ch

/-- The channel is a step `OUT_CH` of a running duty (R141). -/
def Ctrl.isStepOut (c : Ctrl) (ch : Nat) : Bool := c.runningDuties.any fun p => p.2.stepChans.contains ch

/-- A running duty's `DRIVE` stage names the channel (R140). -/
def Ctrl.isDriven (c : Ctrl) (ch : Nat) : Bool := c.runningDuties.any fun p => p.2.driveChans.contains ch

/-- R140 leaves the channel undefined: two running duties' `DRIVE` or `FORCE SAFE` stages name it, or a host has aimed a command at
it while a running duty's `DRIVE` names it. -/
def Ctrl.contested (c : Ctrl) (ch : Nat) : Bool :=
  decide (1 < (c.runningDuties.filter fun p => (c.outputsOf p.2).contains ch).length) || (c.contest.contains ch && c.isDriven ch)

/-- The channels that hosts have aimed at, as far as a running duty still drives them. -/
def Ctrl.pruneContest (c : Ctrl) : Ctrl := { c with contest := c.contest.filter c.isDriven }

/-- A duty of a controller. -/
def Ctrl.duty (c : Ctrl) (n : Nat) : Duty := tget {} c.duties n
def Ctrl.setDuty (c : Ctrl) (n : Nat) (d : Duty) : Ctrl := { c with duties := tset {} c.duties n d }
def Ctrl.modDuty (c : Ctrl) (n : Nat) (f : Duty → Duty) : Ctrl := c.setDuty n (f (c.duty n))

end Sys2Proof.Machine
end

