-- ==== Sys2Proof/Machine/Placement.lean ====
section
/-! DEFINITION. Placement of duties on clusters, rebalance, shadow placement and PLACEMENT_QUERY (R151 to R168). Loads are
exact fractions, formed for each decision and never stored. -/

namespace Sys2Proof.Machine

/-- The source frequency of R152, in mHz: from the period estimate in the tracked states, else the top of the range. -/
def Ctrl.sourceFreq (c : Ctrl) (src : Nat) : Rat :=
  if src = 3 then (fld c.angleCfg 127 96 : Rat)
  else
    let t := c.tracker src
    if t.st.fires ∧ t.period ≠ 0 then (4000000000000 : Rat) / (t.period : Rat)
    else if src = 0 then 62000 else 5000000

/-- Points with at least one stage selected. -/
def Duty.activePoints (d : Duty) : Nat :=
  ((List.range (hPoints d.header)).filter fun k => d.stages.any fun w => nbit (sSel w) k).length

/-- The firing rate f_i, in mHz. -/
def Ctrl.firingRate (c : Ctrl) (d : Duty) : Rat :=
  (d.activePoints : Rat) * c.sourceFreq (hSource d.header) / (hDivider d.header : Rat)

/-- The cost w_i(c): the estimate from cluster `k`, or the measured mean. -/
def Ctrl.workOf (c : Ctrl) (n k : Nat) (d : Duty) : Nat :=
  match (tget {} c.sched.places n).mean with
  | some m => m
  | none => worstCost (chanCost k) d

/-- The load u_i(c), as a fraction of one cluster. -/
def Ctrl.loadOf (c : Ctrl) (n k : Nat) (d : Duty) : Rat :=
  (c.workOf n k d : Rat) * c.firingRate d / (6400000000000 : Rat)

/-- The access cost A_i(c). -/
def accessCost (k : Nat) (d : Duty) : Nat :=
  match d.stages with
  | w :: _ => if sType w = sAcquire then ((chMasked d.set (fld w 63 0)).map (chanCost k)).sum else 0
  | [] => 0

/-- Where running duties stand, the bank of each duty slot in use, by duty, with that of a copy under 4,096 and the duty's number
(R143, R156), and the load of each cluster. -/
structure View where
  at_   : Tab Nat
  slots : Tab Nat
  loads : List Rat

/-- Load of a cluster in a view. -/
def View.load (v : View) (k : Nat) : Rat := v.loads.getD k 0
/-- Cluster of a duty in a view. -/
def View.cluster (v : View) (n : Nat) : Nat := tget 15 v.at_ n
/-- Duties placed on a cluster. -/
def View.count (v : View) (k : Nat) : Nat := (v.at_.filter fun p => p.2 == k).length
/-- Duty slots of a bank in use. -/
def View.used (v : View) (k : Nat) : Nat := (v.slots.filter fun p => p.2 == k).length

/-- A bank of 640 duty slots has one for a duty: its own, or a free one (R143). -/
def View.hasSlot (v : View) (n k : Nat) : Bool := tget 15 v.slots n == k || decide (v.used k < 640)

/-- The view with a duty put on a cluster, its load added, and a slot there taken under a key. -/
def View.put (v : View) (n k key : Nat) (u : Rat) : View :=
  { at_ := tset 15 v.at_ n k, slots := tset 15 v.slots key k
    loads := (List.range 12).map fun j => if j = k then v.load j + u else v.load j }

/-- The view without a duty's placement; its slot stays taken. -/
def View.drop (v : View) (n : Nat) (u : Rat) : View :=
  let k := v.cluster n
  { v with
    at_ := tset 15 v.at_ n 15, loads := (List.range 12).map fun j => if j = k then v.load j - u else v.load j }

/-- Two points of one source coincide when they differ by at most 64 units (R153). -/
def coincide (p q : Nat) : Bool := decide ((p + 65536 - q) % 65536 ≤ 64) || decide ((q + 65536 - p) % 65536 ≤ 64)

/-- The points of a duty. -/
def Duty.pointList (d : Duty) : List Nat := (List.range (hPoints d.header)).map (pointAt d.points)

/-- A duty has a point that coincides with a point of the source. -/
def Duty.hits (d : Duty) (src p : Nat) : Bool := hSource d.header == src && d.pointList.any (coincide p)

/-- The burst check of R153 for every point of a duty on cluster `k`. -/
def Ctrl.burstOk (c : Ctrl) (v : View) (n k : Nat) (d : Duty) : Bool :=
  let others := (c.runningDuties.filter fun p => p.1 != n && v.cluster p.1 == k).map fun p => p.2
  d.pointList.all fun p =>
    let g := d :: others.filter fun e => e.hits (hSource d.header) p
    let wmax := g.foldl (fun m e => max m (defineCost e)) 0
    let dmin := g.foldl (fun m e => min m (hDeadline e.header * 400)) (hDeadline d.header * 400)
    decide ((g.length + 15) / 16 * wmax ≤ dmin)

/-- Candidate clusters (R153). -/
def Ctrl.candidate (c : Ctrl) (v : View) (n k : Nat) (d : Duty) : Bool :=
  v.hasSlot n k && decide (v.load k + c.loadOf n k d ≤ 7 / 10) && c.burstOk v n k d

/-- The better of two clusters by a key of two parts, ties to the lower number, which stands first. -/
def better (f : Nat → Rat × Rat) (a b : Nat) : Nat :=
  if (f b).1 < (f a).1 ∨ ((f b).1 = (f a).1 ∧ (f b).2 < (f a).2) then b else a

/-- The best of a list of clusters. -/
def bestOf (f : Nat → Rat × Rat) : List Nat → Option Nat
  | [] => none
  | a :: t =>
    match bestOf f t with
    | none => some a
    | some b => some (better f a b)

/-- R154: the cluster, `AFF_EFF` and `OVERCOMMIT`. -/
def Ctrl.choose (c : Ctrl) (v : View) (n : Nat) (d : Duty) : Nat × Nat × Bool :=
  let aff := hAffinity d.header
  let k := hAffCluster d.header
  let eff := if aff = 0 then 0 else 2
  if aff = 2 ∧ v.hasSlot n k = true then (k, 1, !c.candidate v n k d)
  else if aff = 1 ∧ c.candidate v n k d = true then (k, 1, false)
  else
    match bestOf (fun j => ((accessCost j d : Rat), v.load j)) ((List.range 12).filter fun j => c.candidate v n j d) with
    | some j => (j, eff, false)
    | none =>
      match bestOf (fun j => (v.load j + c.loadOf n j d, 0)) ((List.range 12).filter fun j => v.hasSlot n j) with
      | some j => (j, eff, true)
      | none => (15, eff, true)

/-- The load of each cluster: measured after the first rebalance, else the sum of the estimates (R152). -/
def Ctrl.clusterLoad (c : Ctrl) (at_ : Tab Nat) (k : Nat) : Rat :=
  if c.sched.rebalances = 0 then
    ((c.runningDuties.filter fun p => tget 15 at_ p.1 == k).map fun p => c.loadOf p.1 k p.2).sum
  else ((tget {} c.sched.meas k).pBusy : Rat) / (640000000 : Rat)

/-- The duty slots in use, with those that copies in progress have taken. -/
def Ctrl.slotsUsed (c : Ctrl) : Tab Nat :=
  c.sched.migrating.foldl (fun t m => tset 15 t (4096 + m.1) (m.2 - 1)) (c.sched.slots.map fun p => (p.1, p.2 - 1))

/-- The view of the placement table. -/
def Ctrl.view (c : Ctrl) : View :=
  let at_ : Tab Nat := (c.sched.places.filter fun p =>
    p.2.cluster != 15 && (tget {} c.duties p.1 : Duty).running).map fun p => (p.1, p.2.cluster)
  { at_, slots := c.slotsUsed, loads := (List.range 12).map (c.clusterLoad at_) }

/-- A duty's slot lies in a bank. -/
def Ctrl.setSlotOf (c : Ctrl) (n k : Nat) : Ctrl := { c with sched := { c.sched with slots := tset 0 c.sched.slots n (k + 1) } }

/-- A duty that is defined occupies a slot: its own, or one of a bank with a free slot (R143). -/
def Ctrl.giveSlot (c : Ctrl) (n : Nat) : Ctrl :=
  if tget 0 c.sched.slots n ≠ 0 then c
  else
    let free := (List.range 12).filter fun k => decide (c.view.used k < 640)
    c.setSlotOf n (free.getD (Config.slotBank n % free.length) 0)

/-- A deleted duty's slot is free. -/
def Ctrl.dropSlot (c : Ctrl) (n : Nat) : Ctrl := { c with sched := { c.sched with slots := tset 0 c.sched.slots n 0 } }

/-- Every defined duty has a slot. -/
def Ctrl.giveSlots (c : Ctrl) : Ctrl :=
  c.duties.foldl (fun c p => if p.2.st = 0 then c.dropSlot p.1 else c.giveSlot p.1) c

/-- A place of a duty. -/
def Ctrl.place (c : Ctrl) (n : Nat) : Place := tget {} c.sched.places n
def Ctrl.setPlace (c : Ctrl) (n : Nat) (p : Place) : Ctrl :=
  { c with sched := { c.sched with places := tset {} c.sched.places n p } }

/-- A duty placed at its start (R151), with its slot in the bank beside the cluster (R143): the loads are those without it, and its
measures start anew. -/
def Ctrl.placeDuty (c : Ctrl) (n : Nat) : Ctrl :=
  let v := c.view
  let (k, eff, o) := c.choose (v.drop n (c.loadOf n (v.cluster n) (c.duty n))) n (c.duty n)
  (c.setSlotOf n k).setPlace n { cluster := k, affEff := eff, overcommit := o }

/-- A duty that no longer runs has no placement, and keeps its slot (R143, R167). -/
def Ctrl.unplace (c : Ctrl) (n : Nat) : Ctrl := c.setPlace n {}

/-! ## Rebalance (R155 to R158) -/

/-- A duty is quiescent: no execution queued or in progress, no firing waiting (R156). -/
def Duty.quiescent (d : Duty) : Bool := !d.busy && d.waiting.isNone

/-- A plan of moves: the view they lead to, and duty and target of each, newest first. -/
structure Plan where
  view  : View
  moves : List (Nat × Nat)

/-- A move planned. -/
def Plan.move (p : Plan) (c : Ctrl) (n k : Nat) : Plan :=
  let d := c.duty n
  let v := p.view.drop n (c.loadOf n (p.view.cluster n) d)
  { view := v.put n k (4096 + n) (c.loadOf n k d), moves := (n, k) :: p.moves }

/-- A duty may still be moved in this rebalance. -/
def Plan.may (p : Plan) (d : Duty) (n : Nat) : Bool :=
  decide (p.moves.length < 64) && hAffinity d.header != 2 && d.quiescent && !(p.moves.any fun m => m.1 == n)

/-- Step 1: affinity 1 to its cluster. -/
def Plan.stepOne (c : Ctrl) (p : Plan) (e : Nat × Duty) : Plan :=
  let (n, d) := e
  let k := hAffCluster d.header
  if p.may d n && hAffinity d.header == 1 && p.view.cluster n != k &&
      c.candidate (p.view.drop n (c.loadOf n (p.view.cluster n) d)) n k d then p.move c n k
  else p

/-- The cluster R154 would choose among the candidates other than the one a duty stands on. -/
def Ctrl.chooseOther (c : Ctrl) (v : View) (n k : Nat) (d : Duty) : Option Nat :=
  let others := (List.range 12).filter fun j => j != k && c.candidate v n j d
  if hAffinity d.header = 1 ∧ others.contains (hAffCluster d.header) = true then some (hAffCluster d.header)
  else bestOf (fun j => ((accessCost j d : Rat), v.load j)) others

/-- Step 2: a duty of an overloaded cluster, while its load is above 0.60, to the cluster R154 would choose. -/
def Plan.stepTwo (c : Ctrl) (k : Nat) (p : Plan) (e : Nat × Duty) : Plan :=
  let (n, d) := e
  if p.may d n && p.view.cluster n == k && decide (6 / 10 < p.view.load k) then
    match c.chooseOther (p.view.drop n (c.loadOf n k d)) n k d with
    | some j => p.move c n j
    | none => p
  else p

/-- Duties in descending load on their cluster; equal loads keep the order of numbers. -/
def sortByLoad (f : Nat × Duty → Rat) : List (Nat × Duty) → List (Nat × Duty)
  | [] => []
  | e :: t =>
    let r := sortByLoad f t
    r.takeWhile (fun x => decide (f e < f x)) ++ [e] ++ r.dropWhile (fun x => decide (f e < f x))

/-- Step 3: a duty whose access cost another candidate would lower by at least a quarter, and that has not moved in the
last 10 rebalances. -/
def Plan.stepThree (c : Ctrl) (p : Plan) (e : Nat × Duty) : Plan :=
  let (n, d) := e
  let k := p.view.cluster n
  let place := c.place n
  let v := p.view.drop n (c.loadOf n k d)
  if p.may d n && (place.lastMove == 0 || decide (place.lastMove + 10 < c.sched.rebalances)) then
    match bestOf (fun j => ((accessCost j d : Rat), v.load j)) ((List.range 12).filter fun j => j != k && c.candidate v n j d) with
    | some j => if 4 * accessCost j d ≤ 3 * accessCost k d ∧ accessCost j d < accessCost k d then p.move c n j else p
    | none => p
  else p

/-- The moves of one rebalance, oldest first. -/
def Ctrl.plan (c : Ctrl) : List (Nat × Nat) :=
  let run := c.runningDuties
  let p0 : Plan := { view := c.view, moves := [] }
  let p1 := run.foldl (Plan.stepOne c) p0
  let p2 := (List.range 12).foldl (fun p k =>
    if 7 / 10 < c.view.load k then (sortByLoad (fun e => c.loadOf e.1 k e.2) run).foldl (Plan.stepTwo c k) p else p) p1
  (run.foldl (Plan.stepThree c) p2).moves.reverse

/-- The modes in which rebalance runs (R158). -/
def rebalances (m : Mode) : Bool :=
  match m with
  | .commission | .service | .recovery | .safeHold | .maintain => true
  | _ => false

/-- A place with its measures closed for the period. -/
def Place.close (p : Place) : Place :=
  { p with
    moved := false, pExecs := p.execs, pStolen := p.stolen, pCycles := p.cycles, pMaxCost := p.maxCost, pMaxLat := p.maxLat,
    execs := 0, stolen := 0, cycles := 0, maxCost := 0, maxLat := 0,
    mean := if p.execs = 0 then p.mean else some (p.cycles / p.execs) }

/-- A cluster's measures closed for the period; the next one begins with the queue as it stands. -/
def ClusterMeas.close (m : ClusterMeas) (queued : Nat) : ClusterMeas :=
  { peak := queued, pBusy := m.busy, pPeak := m.peak, pOut := m.out, pIn := m.in_ }

/-- REBALANCE: the period's measures close, and the moves begin to be copied. -/
def execRebalance (s : State) : Host.Outcome State Fault Refusal :=
  .next (s.onActive fun x c =>
    if rebalances c.mode then
      let sc := c.sched
      let places := (List.range 4096).foldl (fun t n =>
        if (c.duty n).running then tset {} t n (tget {} t n).close else t) sc.places
      let meas := (List.range 12).foldl (fun t k =>
        tset {} t k ((tget {} t k).close (tget [] sc.queues k).length)) sc.meas
      let c1 := { c with sched := { sc with
          places := places, meas := meas, rebalances := (sc.rebalances + 1) % 4294967296, lastRebal := mtime32 s c,
          movedLast := 0 } }
      s.setCtrl x { c1 with sched := { c1.sched with
          migrating := c1.plan.foldl (fun t m => tset 0 t m.1 (m.2 + 1)) c1.sched.migrating } }
    else s)

/-- The shadow placement of a STANDBY controller: every duty it holds as running, in ascending number, by the estimates
(R159). -/
def Ctrl.shadowOf (c : Ctrl) : Tab Place :=
  let e : Ctrl := { c with sched := { c.sched with places := [] } }
  let v0 : View := { at_ := [], slots := c.slotsUsed, loads := [] }
  (c.runningDuties.foldl (fun (a : View × Tab Place) p =>
    let (k, eff, o) := e.choose a.1 p.1 p.2
    (a.1.put p.1 k p.1 (e.loadOf p.1 k p.2), tset {} a.2 p.1 { cluster := k, affEff := eff, overcommit := o })) (v0, [])).2

def execShadowPlacement (x : Side) (s : State) : Host.Outcome State Fault Refusal :=
  if s.isStandby x then .next (s.modCtrl x fun c => { c with sched := { c.sched with shadow := c.shadowOf } }) else .next s

/-! ## PLACEMENT_QUERY (R164 to R168) -/

/-- A fraction of one cluster in units of 2^-16. -/
def unitsOf (r : Rat) (max : Nat) : Nat := satAt max (r * 65536).floor.toNat

/-- The placement summary word (R166). -/
def Ctrl.placementSummary (c : Ctrl) : Word :=
  let busy := ((List.range 12).map fun k => (tget {} c.sched.meas k).pBusy).sum
  mkw [(127, 96, c.sched.rebalances), (95, 64, c.sched.lastRebal.toNat), (63, 48, c.sched.movedLast),
    (47, 32, unitsOf ((busy : Rat) / (7680000000 : Rat)) 65535), (31, 16, c.runningDuties.length)]

/-- A duty word (R167). -/
def Ctrl.placeWord (c : Ctrl) (n : Nat) : Word :=
  let d := c.duty n
  if d.running then
    let p := c.place n
    let pct := if p.pExecs = 0 then 0 else p.pStolen * 100 / p.pExecs
    let mean := if p.pExecs = 0 then 0 else p.pCycles / p.pExecs
    mkw [(127, 116, n), (115, 112, p.cluster), (111, 110, p.affEff), (109, 109, b2n p.overcommit), (108, 108, b2n p.moved),
      (103, 96, pct), (95, 80, satAt 65535 p.moves), (79, 64, satAt 65535 mean), (63, 48, satAt 65535 p.pMaxCost),
      (47, 32, unitsOf (c.loadOf n p.cluster d) 65535), (31, 0, satAt 4294967295 p.pMaxLat)]
  else mkw [(127, 116, n), (115, 112, 15)]

/-- An engine. -/
def Ctrl.engine (c : Ctrl) (e : Nat) : Engine := tget {} c.sched.engines e

/-- A cluster word (R168). -/
def Ctrl.clusterWord (c : Ctrl) (k : Nat) : Word :=
  let m := tget {} c.sched.meas k
  let v := c.view
  let n := v.count k
  let slow := ((List.range 16).map fun e => b2n (c.engine (16 * k + e)).slow * 2 ^ e).sum
  mkw [(127, 124, k), (123, 113, n), (95, 80, unitsOf ((m.pBusy : Rat) / (640000000 : Rat)) 65535),
    (79, 64, satAt 65535 m.pPeak), (63, 48, satAt 65535 m.pOut), (47, 32, satAt 65535 m.pIn), (31, 16, slow), (15, 0, 640 - v.used k)]

/-- PLACEMENT_QUERY. -/
def answerPlacementQuery (p : List Word) (c : Ctrl) : Nat × List Word :=
  let w := wordAt p 0
  let scope := fld w 127 126
  let first := fld w 123 112
  let count := fld w 111 104
  if p.length ≠ 1 ∨ 2 ≤ scope ∨ count = 0 ∨ (scope = 0 ∧ (4096 < first + count ∨ 254 < count)) ∨
      (scope = 1 ∧ 12 < first + count) then (stRange, [])
  else
    (stOk, c.placementSummary ::
      (List.range count).map fun i => if scope = 0 then c.placeWord (first + i) else c.clusterWord (first + i))

end Sys2Proof.Machine
end

