-- ==== Sys2Proof/Machine/Flags.lean ====
section
/-! DEFINITION. Flag computations: the diagnostic bits of digital and loop channels (R189, R209), the status flags of
records that follow from them (R190), and the effective fields of channel words (R65, R174, R205). -/

namespace Sys2Proof.Machine

/-! ## Diagnostic bits of a digital channel, as bits of the 8-bit `DIAG` (R189) -/
def dOpen : Nat := 7
def dOverload : Nat := 6
def dShort : Nat := 5
def dOvertemp : Nat := 4
def dMismatch : Nat := 3
def dIlim : Nat := 2
def dSuspended : Nat := 1
def dProtect : Nat := 0

/-! ## Diagnostic bits of a loop channel (R209) -/
def lOpen : Nat := 7
def lOverload : Nat := 6
def lCompliance : Nat := 5
def lMismatch : Nat := 4
def lAlarm : Nat := 3
def lOvertemp : Nat := 2
def lSupply : Nat := 1
def lUncal : Nat := 0

/-- A bit of a diagnostic register. -/
def dbit (d : BitVec 8) (i : Nat) : Bool := nbit d.toNat i

/-- `DIAG` of a digital channel: `SHORT` stands for a protection and for a short of the off state (R189). -/
def DigCh.diagNow (d : DigCh) : BitVec 8 := putBit d.diag dShort (dbit d.diag dShort || d.offShort)

/-- Status flags of records that follow a digital channel's diagnostic bits (R190). -/
def digFlags (d : BitVec 8) : List (Nat × Bool) :=
  [(fOpen, dbit d dOpen), (fOverload, dbit d dOverload), (fOvertemp, dbit d dOvertemp), (fShort, dbit d dShort),
    (fMismatch, dbit d dMismatch)]

/-- Status flags of records that follow a loop channel's diagnostic bits (R209). -/
def loopFlags (d : BitVec 8) : List (Nat × Bool) :=
  [(fOpen, dbit d lOpen), (fOverload, dbit d lOverload), (fOvertemp, dbit d lOvertemp), (fAlarm, dbit d lAlarm)]

/-! ## Overrides by module mode (R41, R65) -/

/-- The use of the auxiliary comparators (R41): 0 idle, 1 WB, 2 EDGE. -/
def auxUse : Mode → Nat
  | .service | .safeHold => 1
  | .commission | .recovery | .maintain => 2
  | .boot | .calibrate | .dormant => 0

/-- `EFF_MODE` of a digital channel (R174). -/
def digEffMode (m : Mode) (w : Word) : Nat :=
  if digIsOut w ∧ (m = .boot ∨ m = .calibrate) then 0
  else if digMode w = 2 ∧ auxUse m ≠ 1 then 1
  else digMode w

/-- A loop output is held at 0 mA with its burden closed (R65). -/
def loopHeld (m : Mode) : Bool := m == .boot || m == .calibrate || m == .dormant

/-- `EFF_MODE` of a loop channel (R205). -/
def loopEffMode (m : Mode) (w : Word) : Nat := if loopMode w = 2 ∧ loopHeld m = true then 0 else loopMode w

/-- `CONV_STATE` of a channel (R232); it is CALIBRATING at every channel of a pod that calibrates (R252). -/
def State.convState (s : State) (ch : Nat) : Nat :=
  let p := s.pod (linkOf ch)
  let l := s.loop ch
  if p.calPhase ≠ 0 then 5
  else if !l.configured || loopMode l.cfg == 0 then 0
  else if l.starting then 2
  else if !l.powered then 1
  else if loopMode l.cfg == 1 && (l.pending || dbit l.diag lOpen) then 6
  else if convKind l.conv = 2 ∧ l.trigRun = false ∧ l.urgent = false then 7
  else if l.settle ≠ 0 then 4
  else 3

/-- `EFF_SAFE` after the ALM strap (R211): ALARM_LOW when tied low or invalid, ALARM_HIGH when tied high. -/
def effSafe (alm : Nat) (w : Word) : Nat :=
  if alm = 1 ∨ alm = 3 then 0 else if alm = 2 then 1 else fld w 109 108

/-- The current of a loop safe value (R210), in LSB of 2 nA. -/
def safeCurrent (code : Nat) (w : Word) : Nat :=
  match code with
  | 0 => 1800000
  | 1 => 10750000
  | 2 => fld w 79 56
  | _ => 0

/-- The burden is open only while LOOP_OUT is in effect and the front end is powered (R196). -/
def burdenOpen (powered : Bool) (m : Mode) (configured : Bool) (w : Word) : Bool :=
  powered && configured && loopEffMode m w == 2

end Sys2Proof.Machine
end

