-- ==== Sys2Proof/Machine/Operands.lean ====
section
/-! DEFINITION. The forms in which commands reach a channel: a digital level or safe value applied by a pod (R172, R187,
R188, R192 to R195), a loop current or safe value after trim (R202, R210, R212, R215), and hold times. -/

namespace Sys2Proof.Machine

/-! ## Digital outputs -/

/-- The drive state set at once: a level change is stamped for R172, `MISMATCH` clears when the drive goes off, and `PROTECT_OFF`
when the channel drives again (R189). -/
def DigCh.setDrive (now lvl : Nat) (d : DigCh) : DigCh :=
  if d.drive = lvl then { d with held := none }
  else
    { d with
      drive := lvl, held := none, lastChange := some now, drivingAt := now,
      diag := putBit d.diag (if lvl = 0 then dMismatch else dProtect) false }

/-- The level the channel is to drive now: off unless it is a configured output outside BOOT and CALIBRATE (R65, R178) that
no protection has switched off. -/
def DigCh.wanted (m : Mode) (d : DigCh) : Nat :=
  if d.configured ∧ digIsOut d.cfg ∧ m ≠ .boot ∧ m ≠ .calibrate ∧ d.prot = none then d.target else 0

/-- R172: a change sooner than 25 µs after the last one is held, newest only. -/
def DigCh.settle (m : Mode) (now : Nat) (d : DigCh) : DigCh :=
  let w := d.wanted m
  if d.drive = w then { d with held := none }
  else
    match d.lastChange with
    | none => d.setDrive now w
    | some t => if now < t + us 25 then { d with held := some w } else d.setDrive now w

def digSafe (w : Word) : Nat := fld w 93 92
def digHold (w : Word) : Nat := fld w 91 82
def ovlLatch (w : Word) : Bool := bitOf w 81

/-- Protection released (R188); `PROTECT_OFF` stays until the channel drives again. -/
def DigCh.release (d : DigCh) : DigCh := { d with prot := none }

/-- An event that releases a latched protection (R188). -/
def DigCh.unlatch (d : DigCh) : DigCh := if ovlLatch d.cfg then d.release else d

/-- The level of the safe value once any hold is over (R192). -/
def safeLevel (w : Word) : Nat := if digSafe w < 3 then digSafe w else 0

/-- The safe value takes the channel; it releases a latched protection (R188). -/
def DigCh.goSafe (m : Mode) (now : Nat) (d : DigCh) : DigCh :=
  { d.unlatch with safeApplied := true, hold := none, target := safeLevel d.cfg }.settle m now

/-- The safe value applied by command (R192, R193): `SAFE_HOLD_LAST` keeps the level for `HOLD`, toward which a protection it
releases lets the channel drive, and then goes off. -/
def DigCh.applySafe (m : Mode) (now : Nat) (d : DigCh) : DigCh :=
  if digSafe d.cfg < 3 ∨ digHold d.cfg = 0 then d.goSafe m now
  else
    { d.unlatch with
      safeApplied := true
      hold := some { ends := now + ms (digHold d.cfg), kind := .safeCmd, counts := false } }.settle m now

/-- An accepted output command: `code` 0 off, 1 low, 2 high, 3 safe value (R194, R268). A repeated safe value ends a lease
or autonomous hold without another, and neither ends nor restarts one of `SAFE_HOLD_LAST`. -/
def DigCh.command (m : Mode) (now code : Nat) (d : DigCh) : DigCh :=
  if !d.configured || !digIsOut d.cfg then d
  else if code = 3 then
    if d.safeApplied then
      match d.hold with
      | some h => if h.kind = .safeCmd then d else { d with hold := none }.settle m now
      | none => d
    else d.applySafe m now
  else
    let d1 := { d with target := code, safeApplied := false, hold := none }
    let d2 := match d1.prot with
      | some p => if ovlLatch d.cfg && p.level != code then d1.release else d1
      | none => d1
    d2.settle m now

/-- A hold that runs as a lapse or a silence begins runs on, and the pod's hold counts it (R275, R279). -/
def Hold.counted (h : Hold) : Hold := { h with counts := true }

/-- A lease hold or an autonomous hold begins on an output (R193); with `HOLD` 0 the safe value applies at once. -/
def DigCh.startHold (m : Mode) (now : Nat) (k : HoldKind) (d : DigCh) : DigCh :=
  if !d.configured || !digIsOut d.cfg then d
  else if d.hold.isSome then { d with hold := d.hold.map Hold.counted }
  else if digHold d.cfg = 0 then d.goSafe m now
  else { d with hold := some { ends := now + ms (digHold d.cfg), kind := k } }

/-- The end of a hold: the safe value in force, or off for `SAFE_HOLD_LAST` (R177, R193). -/
def DigCh.endHold (m : Mode) (now : Nat) (d : DigCh) : DigCh :=
  match d.hold with
  | none => d
  | some _ => d.goSafe m now

/-- Protection switches the channel off whatever the spacing of R172 says, and ends a hold early; the channel retries toward the held
level (R187, R194). -/
def DigCh.switchOff (now : Nat) (thermal : Bool) (d : DigCh) : DigCh :=
  let d1 := { d with prot := some { since := now, level := d.target, thermal }, held := none, hold := none }
  { d1 with diag := putBit d1.diag dProtect true }.setDrive now 0

/-! ## Loop outputs -/

/-- A quotient rounded to the nearest whole number; the spec does not say which of two equally near ones (log entry 79). -/
def roundDiv (n d : Int) : Int :=
  if d = 0 then Config.openResult n d
  else if (2 * n) % (2 * d) = d then n / d + Config.openResult n d % 2
  else (2 * n + d) / (2 * d)

def trimInZoff (w : Word) : Int := sext 24 (fld w 111 88)
def trimOutZoff (w : Word) : Int := sext 24 (fld w 87 64)
def trimInGain (w : Word) : Int := fld w 63 32
def trimOutGain (w : Word) : Int := fld w 31 0

/-- The input trim of R215. -/
def trimIn (w : Word) (raw : Int) : Int := 2000000 + roundDiv ((raw - 2000000 + trimInZoff w) * trimInGain w) 16777216

/-- The setpoint of a command after output trim (R215); a source cannot sink, so it stays at or above 0. -/
def trimOut (w : Word) (lsb : Nat) : Nat :=
  (2000000 + trimOutZoff w + roundDiv (((lsb : Int) - 2000000) * trimOutGain w) 16777216).toNat

/-- A channel in FSK_MULTIDROP as an output (R66). -/
def LoopCh.multidrop (d : LoopCh) : Bool := loopMode d.cfg == 2 && loopFsk d.cfg == 2

/-- The channel is at its safe value: by command, by a hold that has ended, or in FSK_MULTIDROP by SAFE_HOLD (R66). -/
def LoopCh.atSafe (m : Mode) (d : LoopCh) : Bool := d.safeApplied || (d.multidrop && m == .safeHold && !d.sending)

/-- The setpoint of a loop output: 0 outside LOOP_OUT, in the modes of R65 and when hot (R203); 4 mA in FSK_MULTIDROP, but
its safe value in SAFE_HOLD once no frame is being sent (R66); else its command or its safe value. -/
def LoopCh.setpoint (m : Mode) (alm : Nat) (d : LoopCh) : Nat :=
  let sc := safeCurrent (effSafe alm d.cfg) d.cfg
  let safe := if sc = 0 then 0 else trimOut d.trim sc
  if !d.configured || loopMode d.cfg != 2 || loopHeld m || d.hot then 0
  else if d.multidrop then
    if (m = .safeHold ∨ d.cmd = .safe) ∧ d.sending = false then safe else trimOut d.trim 2000000
  else
    match d.cmd with
    | .none => 0
    | .current lsb => trimOut d.trim lsb
    | .safe => safe

/-- The source follows its setpoint; a change is stamped for `VER_READBACK`, and ALARM reports an output at ALARM_LOW or
ALARM_HIGH (R208, R209). -/
def LoopCh.regulate (m : Mode) (alm now : Nat) (d : LoopCh) : LoopCh :=
  let v := d.setpoint m alm
  let out := d.configured && loopMode d.cfg == 2
  let atAlarm := out && !loopHeld m && d.atSafe m && decide (effSafe alm d.cfg < 2)
  let diag := if out then putBit d.diag lAlarm atAlarm else d.diag
  if d.source = v then { d with diag } else { d with source := v, setAt := now, rbBad := 0, diag }

def loopHold (w : Word) : Nat := fld w 107 99

/-- An accepted loop command (R212, R268): a current ends a hold and a safe value at once; the safe value applies at once. A
channel in FSK_MULTIDROP discards a current. -/
def LoopCh.command (m : Mode) (alm now : Nat) (c : Option Nat) (d : LoopCh) : LoopCh :=
  if !d.configured || loopMode d.cfg != 2 then d
  else
    match c with
    | some lsb =>
      { d with cmd := if d.multidrop then .none else .current lsb, safeApplied := false, hold := none }.regulate m alm now
    | none => { d with cmd := .safe, safeApplied := true, hold := none }.regulate m alm now

/-- A hold begins on a loop output (R212). -/
def LoopCh.startHold (m : Mode) (alm now : Nat) (k : HoldKind) (d : LoopCh) : LoopCh :=
  if !d.configured || loopMode d.cfg != 2 then d
  else if d.hold.isSome then { d with hold := d.hold.map Hold.counted }
  else if loopHold d.cfg = 0 then { d with cmd := .safe, safeApplied := true }.regulate m alm now
  else { d with hold := some { ends := now + ms (loopHold d.cfg), kind := k } }

/-- The end of a hold: `EFF_SAFE` applies (R212). -/
def LoopCh.endHold (m : Mode) (alm now : Nat) (d : LoopCh) : LoopCh :=
  match d.hold with
  | none => d
  | some _ => { d with hold := none, cmd := .safe, safeApplied := true }.regulate m alm now

end Sys2Proof.Machine
end

