-- ==== Sys2Proof/Machine/Outputs.lean ====
section
/-! DEFINITION. The output command image, OUTPUT_SET and TEST_DRIVE (R113, R315 to R317, R374). -/

namespace Sys2Proof.Machine

/-! ## The output command image -/

/-- What the image holds for a channel. -/
def Ctrl.imageCmd (c : Ctrl) (ch : Nat) : Option OutCmd := tget none c.image ch

/-- The level the image counts as for a digital channel (R116): 0 off, 1 low, 2 high. -/
def Ctrl.imageLevel (c : Ctrl) (now ch : Nat) : Nat :=
  match c.imageCmd ch with
  | none => 0
  | some (.level l) => l
  | some (.current _) => 0
  | some (.safe t b) =>
    let w := c.digCfg ch
    if digSafe w < 3 then digSafe w else if now < t + ms (digHold w) then b else 0

/-- The output image of a link has changed: its OUTPUT is sent until acknowledged (R270, R271). -/
def Ctrl.markOut (c : Ctrl) (ch : Nat) : Ctrl :=
  { c with down := tmod {} c.down (linkOf ch) fun d => { d with outNew := true, outSent := [] } }

/-- One command written into the image. -/
def Ctrl.putCmd (c : Ctrl) (ch : Nat) (o : OutCmd) : Ctrl := { c with image := tset none c.image ch (some o) }.markOut ch

/-- A channel commanded to its safe value: a repeated one keeps the instant of the first (R116, R268). -/
def Ctrl.putSafe (c : Ctrl) (now ch : Nat) : Ctrl :=
  match c.imageCmd ch with
  | some (.safe _ _) => c.markOut ch
  | _ => c.putCmd ch (.safe now (c.imageLevel now ch))

/-- A channel's entry cleared (R177, R207). -/
def Ctrl.clearCmd (c : Ctrl) (ch : Nat) : Ctrl := { c with image := tset none c.image ch none }.markOut ch

/-- A command that a number stands for, on a channel the spec leaves undefined. -/
def freeCmd (v ch : Nat) : OutCmd := if isDigital ch then .level (v % 3) else .current (v % 12000001)

/-- A contested channel takes a free command (R140; log entry 93). -/
def State.putFree (s : State) (x : Side) (ch : Nat) : State :=
  let (v, s1) := s.draw
  s1.modCtrl x fun c => c.putCmd ch (freeCmd v ch)

/-- Of channels that commands have been aimed at, those contested take free commands. -/
def State.putFrees (s : State) (x : Side) (chs : List Nat) : State :=
  (chs.filter (s.ctrl x).contested).foldl (fun s ch => s.putFree x ch) s

/-- Every channel configured as an output. -/
def Ctrl.allOutputs (c : Ctrl) : List Nat := (List.range 0x480).filter c.isOut

/-- The image, with the module mode, as the STANDBY controller receives it ahead of the frames that carry it (R35, R374). -/
def State.syncImage (s : State) (x : Side) : State :=
  if s.isStandby x.other then
    s.modCtrl x.other fun d =>
      { d with
        image := (s.ctrl x).image, contest := (s.ctrl x).contest, mode := (s.ctrl x).mode, modeBefore := (s.ctrl x).modeBefore
        calEnter := (s.ctrl x).calEnter, escPending := (s.ctrl x).escPending }
  else s

/-- The channels with an entry marked as just safe on an entry into SAFE_HOLD or DORMANT (R39). A channel in FSK_MULTIDROP takes its
safe value with the mode, and its 4 mA again after it (R66). -/
def Ctrl.allSafe (c : Ctrl) (now : Nat) : Ctrl :=
  (c.allOutputs.filter fun ch => !c.multidrop ch).foldl (fun c ch => c.putSafe now ch) c

/-! ## Tests (R317) -/

def Ctrl.test (c : Ctrl) (ch : Nat) : Option Test := tget none c.tests ch

/-- A running TEST_DRIVE exists (the guard of R44). -/
def Ctrl.anyTest (c : Ctrl) : Bool := !c.tests.isEmpty

/-- A channel left by a test or a trim without an image entry goes off. -/
def Ctrl.leave (c : Ctrl) (ch : Nat) : Ctrl :=
  match c.imageCmd ch with
  | some _ => c.markOut ch
  | none => { c with down := tmod {} c.down (linkOf ch) fun d => { d with offs := insertOnce (pinOf ch) d.offs } }.markOut ch

/-- A test ends: the channel takes the value of the image, and TEST_END reports it to its session (R317). -/
def State.endTest (s : State) (c : Ctrl) (ch cause : Nat) : Ctrl :=
  match c.test ch with
  | none => c
  | some t =>
    let c1 := { c with tests := tset none c.tests ch none }.leave ch
    s.eventTo c1 t.session 0x0D ch [mkw [(127, 124, cause)]]

/-- All tests end for one cause. -/
def State.endTests (s : State) (c : Ctrl) (cause : Nat) (which : Test → Bool) : Ctrl :=
  c.tests.foldl (fun d p => match p.2 with | some t => if which t then s.endTest d p.1 cause else d | none => d) c

/-! ## OUTPUT_SET (R315, R316) -/

/-- A field of a 64-bit entry. -/
def nfld (n hi lo : Nat) : Nat := n / 2 ^ lo % 2 ^ (hi + 1 - lo)

/-- The entries of a payload that are not empty. -/
def outEntries (p : List Word) : List Nat :=
  (p.flatMap fun w => [fld w 127 64, fld w 63 0]).filter fun e => nfld e 63 52 != 0xFFF

def entChan (e : Nat) : Nat := nfld e 63 52
def entAct (e : Nat) : Nat := nfld e 51 48
def entValue (e : Nat) : Nat := nfld e 47 24

/-- The first row of R316 for one channel, action and value; `acts` is the highest action code. -/
def outRange (ch act value acts : Nat) : Bool :=
  decide (acts < act) || (act == 4 && isDigital ch) || (decide (act < 3) && isLoop ch) || decide (12000000 < value) ||
    decide (0x480 ≤ ch)

/-- The channel is armed for output trim (R217). -/
def Ctrl.armedOut (c : Ctrl) (ch : Nat) : Bool :=
  match c.arm with
  | some a => a.out && a.ch == ch
  | none => false

/-- The third row of R316, without the running test. -/
def Ctrl.outBusy (c : Ctrl) (ch : Nat) : Bool := c.isForced ch || c.isStepOut ch || c.armedOut ch

/-- The status of one entry. -/
def Ctrl.entryStatus (c : Ctrl) (all : List Nat) (e : Nat) : Nat :=
  let ch := entChan e
  firstFail [
    (outRange ch (entAct e) (entValue e) 4 || decide (1 < (all.filter fun f => entChan f == ch).length), stRange),
    (!c.isOut ch || c.multidrop ch, stModeForbids),
    (c.outBusy ch || (c.test ch).isSome, stBusy)]

/-- The first status of a list that is not OK. -/
def firstBad : List Nat → Nat
  | [] => stOk
  | n :: t => if n = stOk then firstBad t else n

/-- The checks of OUTPUT_SET. -/
def checkOutputSet (p : List Word) (c : Ctrl) : Nat :=
  if p.length = 0 ∨ 32 < p.length then stRange
  else firstBad ((outEntries p).map (c.entryStatus (outEntries p)))

/-- An action and value as a command of the image. -/
def outCmdOf (now before act value : Nat) : OutCmd :=
  if act = 3 then .safe now before else if act = 4 then .current value else .level act

/-- One entry carried out. -/
def Ctrl.setOutput (c : Ctrl) (now ch act value : Nat) : Ctrl :=
  if act = 3 then c.putSafe now ch else c.putCmd ch (outCmdOf now 0 act value)

/-- A host has aimed a command at channels: those that a running duty's `DRIVE` names are contested from now on (R140). -/
def Ctrl.aim (c : Ctrl) (chs : List Nat) : Ctrl := { c with contest := (chs.filter c.isDriven).foldr insertOnce c.contest }

/-- The effect of OUTPUT_SET: all entries enter the image at the commit, and one on a contested channel is free. -/
def effectOutputSet (x : Side) (p : List Word) (s : State) : State :=
  let chs := (outEntries p).map entChan
  let s1 := s.modCtrl x fun c =>
    ((outEntries p).foldl (fun c e => c.setOutput s.now (entChan e) (entAct e) (entValue e)) c).aim chs
  (s1.putFrees x chs).syncImage x

/-! ## TEST_DRIVE -/

def tdChan (w : Word) : Nat := fld w 127 116
def tdAct (w : Word) : Nat := fld w 115 112
def tdValue (w : Word) : Nat := fld w 111 88
def tdDuration (w : Word) : Nat := fld w 87 72

/-- The checks of TEST_DRIVE. -/
def checkTestDrive (p : List Word) (c : Ctrl) : Nat :=
  let w := wordAt p 0
  let ch := tdChan w
  let isEnd := tdAct w == 15
  let dur := tdDuration w
  firstFail [
    (p.length != 1 || outRange ch (if isEnd then 3 else tdAct w) (tdValue w) 4 ||
      (if isEnd then dur != 0 || (c.test ch).isNone else dur == 0 || decide (60000 < dur)), stRange),
    (!c.isOut ch || c.multidrop ch, stModeForbids),
    (c.outBusy ch || (!isEnd && (c.test ch).isNone && decide (16 ≤ c.tests.length)), stBusy)]

/-- A test whose channel is contested drives it freely (R140). -/
def State.freeTest (s : State) (x : Side) (ch : Nat) (t : Test) : State × Test :=
  if (s.ctrl x).isDriven ch then
    let (v, s1) := s.draw
    (s1, { t with act := if isDigital ch then v % 3 else 4, value := if isDigital ch then 0 else v % 12000001 })
  else (s, t)

/-- The effect of TEST_DRIVE: the test runs, replaces a running one, or ends it. -/
def effectTestDrive (x : Side) (q : Req) (p : List Word) (s : State) : State :=
  let w := wordAt p 0
  let ch := tdChan w
  if tdAct w = 15 then s.modCtrl x fun c => s.endTest c ch 1
  else
    let (s1, t) := s.freeTest x ch
      { act := tdAct w, value := tdValue w, ends := s.now + ms (tdDuration w), session := q.session }
    s1.modCtrl x fun c => ({ c with tests := tset none c.tests ch (some t) }.markOut ch).aim [ch]

/-- The duration of a test runs out (R317). -/
def execTestDriveExpiry (ch : Nat) (s : State) : Host.Outcome State Fault Refusal :=
  .next (s.onActive fun x c =>
    match c.test ch with
    | none => s
    | some t => if t.ends ≤ s.now then s.setCtrl x (s.endTest c ch 0) else s)

end Sys2Proof.Machine
end

