-- ==== Sys2Proof/Machine/Roles.lean ====
section
/-! DEFINITION. Controller roles (R370 to R373): a change of role with its event, the mirrored data set a controller drops,
and the demotion of a controller whose tether is stale. -/

namespace Sys2Proof.Machine

/-! ## The port-steer output (R20, R23, R24) -/

/-- A detach of USB under R24, counted by both controllers (R356). -/
def State.usbDetach (s : State) : State :=
  { (s.modCtrl .a fun c => c.countPort 3 2).modCtrl .b fun c => c.countPort 3 2 with
    attached := false, usbLink := 0, detachAt := some s.now }

/-- The steered ports follow the tether; when the steer changes controller, USB leaves the bus for 20 ms from the
last change, and the first one lets it attach (R23, R24, R351). -/
def State.steerTo (s : State) (y : Side) : State :=
  if s.arb.steer = some y then s
  else
    let s1 := { s with arb := { s.arb with steer := some y } }
    if s.arb.steer.isNone then { s1 with attached := s.vbus, usbLink := b2n s.vbus }
    else if s.attached then s1.usbDetach
    else { s1 with detachAt := s.detachAt.map fun _ => s.now }

/-- Under COMPAT the steer follows the controller whose claim prevails, whenever that changes (R20). -/
def State.resteer (s : State) : State :=
  match s.compat && s.arb.steer.isSome, s.holder with
  | true, some y => s.steerTo y
  | _, _ => s

/-! ## Roles -/

/-- The mirrored data set of a controller discarded, with the work that stood on it (R371, R373). The logline stays until
the bulk copy overwrites it. -/
def Ctrl.dropMirrored (c : Ctrl) : Ctrl :=
  { c with
    image := [], contest := [], tests := [], duties := [], sessions := [], flights := [], waiting := [], convs := [], groups := [],
    crcs := [], hostDogs := [], arm := none, fsk := [], calJobs := [], modeNext := none, pausing := false,
    sched := { c.sched with
      queues := [], engines := [], places := [], slots := [], meas := [], migrating := [], deferred := [], rebalances := 0
      lastRebal := 0, movedLast := 0 },
    faults := { c.faults with episode := {} } }

/-- A controller takes a role; the ACTIVE controller publishes the change (R319, R372). -/
def State.takeRole (s : State) (x : Side) (r : Role) (cause : Nat) : State :=
  let before := (s.ctrl x).role
  if before = r then s else (s.modCtrl x fun c => { c with role := r }).roleEvent x before r cause

/-- A stale tether (R371): the controller becomes SYNCING and drops its copy of the mirrored data set; after a YIELD_HALT
it takes ISOLATED, is held out and halts its core instead (R484); under COMPAT it becomes STANDBY (R382). -/
def State.demote (s : State) (x : Side) : State :=
  let c := s.ctrl x
  if c.dbg.st = 2 then
    (s.modCtrl x fun c =>
      { c.dropMirrored with
        granted := false, yieldSet := false, mirrorOk := false,
        dbg := { c.dbg with st := 1, halted := true }, dog := { c.dog with st := 3 } }).takeRole x .isolated 3
  else if s.compat then
    (s.modCtrl x fun c =>
      { c with
        granted := false, yieldSet := false, pausing := false, mirrorOk := c.spliceUp, waiting := [], tests := [], arm := none
        sched := { c.sched with queues := [], engines := [] } }).takeRole x .standby 8
  else
    (s.modCtrl x fun c => { c.dropMirrored with granted := false, yieldSet := false, mirrorOk := false }).takeRole x .syncing 5

/-- Before each commit and each release the ACTIVE controller reads its tether: stale, it demotes itself and does nothing
more (R371). -/
def State.withTether (s : State) (x : Side) (f : State → State) : State := if s.stale x then s.demote x else f s

end Sys2Proof.Machine
end

