-- ==== Sys2Proof/Machine/Records.lean ====
section
/-! DEFINITION. Sample records as a controller forms them (R10, R11, R102, R180, R181, R190): the angle of an instant, image
records on demand, and the newest records of a channel. -/

namespace Sys2Proof.Machine

/-- The angle that a stretch of a tracker's history gives for an instant of MTIME: 0 without signal, frozen when lost, else from its
first angle on at its period (R80). -/
def Stretch.angleAt (g : Stretch) (at_ : Nat) : Nat :=
  match g.st with
  | .noSignal | .acquire => 0
  | .lost => g.angle
  | _ => if g.period = 0 then g.angle else (((g.angle : Int) + ((at_ : Int) - g.mt) * 262144 / (g.period : Int)) % 65536).toNat

/-- The stretch of a tracker's history that an instant of MTIME falls in; before the history begins, the present one. -/
def Tracker.stretchAt (t : Tracker) (mt at_ : Nat) : Stretch :=
  let now : Stretch := { mt, angle := t.angle.toNat, period := t.period, st := t.st, fly := t.flagged }
  (t.hist.find? fun g => decide (g.mt ≤ at_) && (match g.cut with | some e => decide (at_ ≤ e) | none => true)).getD now

/-- The angle of a source at an instant of MTIME, through the tracker's history (R102). -/
def State.angleAt (s : State) (c : Ctrl) (src at_ : Nat) : Nat :=
  let mt := (mtimeOf s c).toNat
  if at_ = mt then (c.tracker src).field.toNat else ((c.tracker src).stretchAt mt at_).angleAt at_

/-- The source is not in a live lock at an instant of MTIME, so that a record sampled then carries `FLYWHEEL` (R82). -/
def State.flyAt (s : State) (c : Ctrl) (src at_ : Nat) : Bool := ((c.tracker src).stretchAt (mtimeOf s c).toNat at_).fly

/-- The source whose angle stands in records made outside any duty (R91). -/
def Ctrl.defaultSource (c : Ctrl) : Nat := fld c.angleCfg 81 80

/-- A record formed for a channel: its sequence is counted, its angle and `FLYWHEEL` are those of the source (R11, R82). -/
def State.form (s : State) (c : Ctrl) (src ch kind at_ value : Nat) (flags : List (Nat × Bool)) : Rec × Ctrl :=
  let (n, c1) := c.nextSeq ch
  (mkRec ch kind (s.angleAt c src at_) at_ value (flagsOf ((fFlywheel, s.flyAt c src at_) :: flags)) n, c1)

/-- No good frame from the pod for 250 µs (R181). -/
def State.silent (s : State) (c : Ctrl) (link : Nat) : Bool :=
  let u := tget {} c.up link
  u.image.isNone || u.rx.st == .hunt || decide (u.lastAt + us 250 ≤ s.now)

/-- The diagnostic bits of a channel as the pod last reported them. -/
def UpLink.diag (u : UpLink) (pin : Nat) : BitVec 8 := tget 0 u.diags pin

/-- The value field of an image record (R191). -/
def imageValue (i : PodImage) (pin : Nat) : Nat :=
  i.drive / 4 ^ pin % 4 * 4 + b2n (nbit i.level pin) * 2 + b2n (nbit i.state pin)

/-- The newest image of a pod sampled at or before an instant (R114). -/
def UpLink.imageAt (u : UpLink) (at_ : Nat) : Option PodImage := (u.image.toList ++ u.past).find? fun i => decide (i.at_ ≤ at_)

/-- A digital image record from the newest pod image at or before an instant (R114, R180); without `VALID` in OFF and for a silent pod, which also takes
its diagnostic flags and adds `LATE` (R181). Without any image yet the record's instant and value are free: the spec states
neither (log entry 53). -/
def State.imageRec (s : State) (c : Ctrl) (src ch at0 : Nat) (late : Nat → Bool) (extra : List (Nat × Bool)) : Rec × Ctrl :=
  let u := tget {} c.up (linkOf ch)
  let quiet := s.silent c (linkOf ch)
  let valid := !quiet && digMode (c.digCfg ch) != 0
  match u.imageAt at0 with
  | none => s.form c src ch 0 (Config.noImageTime ch at0 % 2 ^ 64) (Config.noImageValue ch at0 % 16) ((fLate, true) :: extra)
  | some i =>
    s.form c src ch 0 i.at_ (imageValue i (pinOf ch))
      ((fValid, valid) :: (fLate, quiet || late i.at_) :: extra ++
        (if quiet then [] else digFlags (u.diag (pinOf ch))))

/-- The records of a channel in its link's ring, newest first. -/
def Ctrl.ringOf (c : Ctrl) (ch : Nat) : List Rec := (tget {} c.up (linkOf ch)).ring.filter fun r => recChan r == ch

/-- A loop channel's newest value record at or before an instant, since its configuration and its pod's power-up (R114);
none in LOOP_OFF. -/
def Ctrl.newestValue (c : Ctrl) (ch at_ : Nat) : Option Rec :=
  if loopMode (c.loopCfg ch) = 0 then none
  else (c.ringOf ch).find? fun r =>
    recKind r == 2 && decide (r.at_ ≤ at_) && decide (tget 0 c.valueSince ch ≤ r.at_)

/-- A loop channel has written a value record since its configuration and its pod's power-up, in the ring or overwritten there
(R114, R144). -/
def Ctrl.wroteValue (c : Ctrl) (ch : Nat) : Bool :=
  (c.newestValue ch (2 ^ 64)).isSome ||
    (tget {} c.up (linkOf ch)).gone.any fun g => g.1 == ch && g.2.1 == 2 && decide (tget 0 c.valueSince ch ≤ g.2.2)

/-- The channel's newest diagnostic record: kind 5, or kind 3 with `SUB` 0 (R314). -/
def Ctrl.newestDiag (c : Ctrl) (ch : Nat) : Option Rec :=
  (c.ringOf ch).find? fun r => recKind r == 5 || (recKind r == 3 && fld r.word 38 36 == 0)

/-- The loop value of a record: LSB 2 nA, 25-bit two's complement (R257). -/
def loopValue (r : Rec) : Int := sext 25 (fld r.word 56 32)

/-- The record flagged and sealed again with its own sequence. -/
def Rec.reflag (r : Rec) (own : Bool) (angle : Nat) (fly skipped late : Bool) : Rec :=
  let w := if own then r.word else setFld (setFld r.word 111 96 angle) (16 + fFlywheel) (16 + fFlywheel) (b2n fly)
  let w1 := if skipped then setFld w (16 + fSkipped) (16 + fSkipped) 1 else w
  let w2 := if late then setFld w1 (16 + fLate) (16 + fLate) 1 else w1
  { r with word := sealRec r.seq w2 }

/-- A ring record copied into S: the angle and `FLYWHEEL` become those of the duty's source, unless that is already the
source the record was made with; a forward step and staleness are marked (R85, R102, R114). -/
def State.adopt (s : State) (c : Ctrl) (src : Nat) (skipped late : Bool) (r : Rec) : Rec :=
  r.reflag (src == c.defaultSource) (s.angleAt c src r.at_) (s.flyAt c src r.at_) skipped late

/-- The output period of a loop channel in ns (R235, R239): N clocks of 2.048 MHz, or a K-th of the AS0 period. -/
def decimation (rate : Nat) : Nat :=
  [819200, 409600, 204800, 122880, 102400, 81920, 40960, 34133, 20480, 10240, 5120, 2560, 1280].getD rate 1280

/-- N / 2.048 MHz, in ns, rounded down. -/
def gridPeriod (rate : Nat) : Nat := decimation rate * 1000000 / 2048

/-- The period of AS0 in ns, from its estimate, or from `AS3_FREQ` clamped to 14–62 Hz without one (R241). -/
def as0Period (c : Ctrl) : Nat :=
  if c.as0.period ≠ 0 then c.as0.period / 4
  else
    let f := fld c.angleCfg 127 96
    1000000000000 / (if f < 14000 then 14000 else if 62000 < f then 62000 else f)

/-- The output period of a channel. -/
def Ctrl.outputPeriod (c : Ctrl) (ch : Nat) : Nat :=
  let w := c.convCfg ch
  if convKind w = 1 then as0Period c / convK w else gridPeriod (fld w 113 110)

end Sys2Proof.Machine
end

