-- ==== Sys2Proof/Machine/Engines.lean ====
section
/-! DEFINITION. Executions: firings and run queues (R131, R145, R146), dispatch, leapfrog, the advance from stage to stage,
release and cut (R112, R113, R130, R147 to R150), SLOW (R161) and engine breakpoints (R487). -/

namespace Sys2Proof.Machine

/-! ## Run queues -/

/-- The keys of R145: priority, absolute deadline on the corrected clock (R94), firing order. `a` is taken before `b`. -/
def Exec.precedes (a b : Exec) : Bool :=
  let key := fun (e : Exec) =>
    let h := e.card.header
    (7 - hPriority h, e.firing.at_ + us (hDeadline h), e.firing.order)
  let (p, d, o) := key a
  let (q, f, r) := key b
  decide (p < q) || (p == q && (decide (d < f) || (d == f && decide (o < r))))

/-- The run queue of a cluster. -/
def Ctrl.queue (c : Ctrl) (k : Nat) : List Exec := tget [] c.sched.queues k
def Ctrl.setQueue (c : Ctrl) (k : Nat) (q : List Exec) : Ctrl :=
  let m := tget {} c.sched.meas k
  { c with sched := { c.sched with
      queues := tset [] c.sched.queues k q, meas := tset {} c.sched.meas k { m with peak := max m.peak q.length } } }

/-- An entry put into its cluster's queue; a continuation goes ahead of entries of equal keys (R147). -/
def Ctrl.enqueue (c : Ctrl) (e : Exec) (front : Bool) : Ctrl :=
  let q := c.queue e.home
  let ahead := fun f => if front then f.precedes e else !e.precedes f
  c.setQueue e.home (q.takeWhile ahead ++ [e] ++ q.dropWhile ahead)

/-- The execution of a firing, with the duty's latch and stage state as they stand. -/
def Ctrl.newExec (c : Ctrl) (n : Nat) (f : Firing) : Exec :=
  let d := c.duty n
  let k := (c.place n).cluster
  { duty := n, firing := f, forced := d.forced, stages := d.stage, home := k, cluster := k, card := d }

/-- The duty is being copied to another cluster (R156). -/
def Ctrl.isMigrating (c : Ctrl) (n : Nat) : Bool := tget 0 c.sched.migrating n != 0

/-- A firing of a running duty: an execution, a waiting firing, or an overrun (R131, R146, R156). While a handover pauses the
controller no execution begins, and the firing waits (R392; DESIGN CHOICE, log entry 31). -/
def Ctrl.fire (c : Ctrl) (n : Nat) (f0 : Firing) : Ctrl :=
  let f := { f0 with order := c.sched.firings, image := c.image }
  let c1 := { c with sched := { c.sched with firings := c.sched.firings + 1 } }
  let d := c.duty n
  if d.drain then c
  else if !d.busy && !c.isMigrating n && !c.pausing then (c1.setDuty n { d with busy := true }).enqueue (c1.newExec n f) false
  else if d.waiting.isNone then c1.setDuty n { d with waiting := some f }
  else c1.setDuty n { d with overruns := satAt 65535 (d.overruns + 1) }

/-- The waiting firing enters the queue, or the duty is free (R146). -/
def Ctrl.nextFiring (c : Ctrl) (n : Nat) : Ctrl :=
  let d := c.duty n
  match d.waiting with
  | some f =>
    if c.pausing then c.setDuty n { d with busy := false }
    else
      let c1 := c.setDuty n { d with waiting := none, busy := true }
      c1.enqueue (c1.newExec n f) false
  | none => c.setDuty n { d with busy := false }

/-- A pause that ends without a handover: the waiting firings enter their queues. -/
def Ctrl.unpause (c : Ctrl) : Ctrl :=
  let c1 := { c with pausing := false }
  (c.runningDuties.filter fun p => !p.2.busy && p.2.waiting.isSome && !c.isMigrating p.1).foldl
    (fun c p => c.nextFiring p.1) c1

/-! ## Publications and the summary word (R124, R125) -/

/-- `SEQ` of R125: the field's reset value 0xF until the duty's SEQUENCE stage enters step 0. -/
def SeqSt.code (q : SeqSt) : Nat := if q.started then q.step else 15

/-- `SEQ` of a duty (R125, R136). -/
def seqCode (d : Duty) (st : StageSt) : Nat := if d.holds sSequence then st.seq.code else 15

/-- The summary word of an execution. -/
def summaryWord (knot : Nat) (d : Duty) (e : Exec) (late : Bool) : Word :=
  mkw [(127, 116, e.duty), (115, 112, knot), (111, 111, b2n e.T), (110, 110, b2n late), (109, 109, b2n e.firing.skipped),
    (108, 108, b2n e.firing.flywheel), (107, 107, b2n e.forced), (103, 100, seqCode d e.stages), (99, 96, e.firing.point),
    (95, 64, e.firing.mtime.toNat), (63, 0, e.V.toNat)]

/-- A record as an execution publishes it: `LATE` of a late execution, `MIRRORED` of the first after a takeover (R130,
R376), and the check value of a record that leaves (R11). -/
def outRecord (late mir : Bool) (r : Rec) : Word :=
  let w := if late then setFld r.word (16 + fLate) (16 + fLate) 1 else r.word
  leaving (if mir then setFld w (16 + fMirrored) (16 + fMirrored) 1 else w)

/-- The publications of an execution are queued for their sessions; a message holds 255 words at most (R283), and records beyond it
are dropped (DESIGN CHOICE, log entry 98). -/
def State.deliver (s : State) (c : Ctrl) (e : Exec) (late : Bool) : Ctrl :=
  let d := e.card
  let sum := summaryWord s.knotId d e late
  e.pubs.foldl (fun c p =>
    s.eventTo c p.session 0x05 e.duty
      (((if p.summary then [sum] else []) ++ p.recs.map (outRecord late d.afterTake)).take 254)) c

/-- Relays leave for the knot's next slot; each is discarded and counted without a rope or while the slot is muted (R127), and so is a held relay of an older release of the duty (R404). -/
def State.relayOut (s : State) (c : Ctrl) (e : Exec) (late : Bool) : Ctrl :=
  let d := e.card
  let sum := summaryWord s.knotId d e late
  let stale := c.rope.relays.filter fun r => r.2.1 == e.duty
  let c0 := if e.relays.isEmpty || stale.isEmpty then c
    else
      { c with rope := { c.rope with relays := c.rope.relays.filter fun r => r.2.1 != e.duty } }.modDuty e.duty fun d =>
        { d with discards := satAt 65535 (d.discards + stale.length) }
  e.relays.foldl (fun c r =>
    if c.rope.role = 3 ∨ c.rope.muted = true then c.modDuty e.duty fun d => { d with discards := satAt 65535 (d.discards + 1) }
    else
      let words := sum :: (r.2.2.take 8).map (outRecord late d.afterTake)
      { c with rope := { c.rope with relays := c.rope.relays ++ [(r.1, e.duty, words)] } }) c0

/-! ## Release and cut (R113, R130) -/

/-- An execution is late: its release comes more than `DEADLINE` after its firing. -/
def Exec.isLate (clock : Nat) (d : Duty) (e : Exec) : Bool := decide (e.firing.at_ + us (hDeadline d.header) < clock)

/-- One output command entered at the release; a channel that is no output, or parks at 4 mA, discards it (R122). So does a level
for a loop output or a current for a digital output, of which the rule does not speak (DESIGN CHOICE, log entry 94). -/
def Ctrl.releaseCmd (now n : Nat) (c : Ctrl) (m : Nat × OutCmd) : Ctrl :=
  let family := match m.2 with
    | .level _ => isDigital m.1
    | .current _ => isLoop m.1
    | .safe _ _ => true
  if !c.isOut m.1 || c.multidrop m.1 || !family then
    c.modDuty n fun d => { d with discards := satAt 65535 (d.discards + 1) }
  else
    match m.2 with
    | .safe _ _ => c.putSafe now m.1
    | o => c.putCmd m.1 o

/-- The commands of an execution, the newest per channel, with every output of the bays it forces (R122, R123). -/
def Ctrl.execCmds (c : Ctrl) (now : Nat) (e : Exec) : List (Nat × OutCmd) :=
  let bays : List (Nat × OutCmd) := (e.bays.flatMap fun b => (bayChans b).filter c.isOut).map fun ch => (ch, .safe now 0)
  let newest := e.cmds.foldl (fun (acc : List (Nat × OutCmd)) m => if acc.any fun a => a.1 == m.1 then acc else acc ++ [m]) []
  bays ++ newest.filter fun m => !bays.any fun b => b.1 == m.1

/-- A duty that a sleep agreement suspends once its execution is over (R139). -/
def Duty.drained (d : Duty) : Duty := if d.drain then { d with st := 3, drain := false } else d

/-- The duty after a release. A duty that restarts begins from its initial state, its counters at 0; one stopped meanwhile keeps the
latch its stop left (R133, R134). -/
def Duty.released (d : Duty) (e : Exec) (late : Bool) : Duty :=
  if d.restart then { d with restart := false, stage := {}, t := false, discards := 0, afterTake := false }.drained
  else
    { d with
      stage := { e.stages with any := true, lastT := e.T, lastV := e.V, lastSeq := e.stages.seq.code },
      t := e.T, forced := if d.running then e.forced else d.forced, execs := d.execs + 1,
      lates := if late then satAt 65535 (d.lates + 1) else d.lates,
      discards := satAt 65535 (d.discards + e.discard), lastAt := e.firing.mtime.toNat, afterTake := false
      relMarks := d.marks, relOverruns := d.overruns }.drained

/-- The measures of a release (R154, R167, R168). -/
def Place.measure (p : Place) (e : Exec) (lat : Nat) : Place :=
  { p with
    execs := p.execs + 1, stolen := p.stolen + b2n e.stolen, cycles := p.cycles + e.cost, maxCost := max p.maxCost e.cost,
    maxLat := max p.maxLat lat }

/-- What the mirrored data set holds of a duty: of a mirrored one its stage state, point markers and counters as of its last released
execution, and of any other its record and its line of the duty table (R138). -/
def Duty.mirrorOf (d o : Duty) : Duty :=
  if d.mirrored then
    { d with busy := false, waiting := none, restart := false, drain := false, marks := d.relMarks, overruns := d.relOverruns }
  else
    { o with
      st := d.st, stop := d.stop, header := d.header, chans := d.chans, points := d.points, stages := d.stages,
      steps := d.steps, c0 := d.c0, begun := d.begun, crossed := d.crossed, startedAt := d.startedAt, forced := d.forced }

/-- A duty at a controller that holds it only as mirrored: it occupies a slot there while it is defined (R143). -/
def Ctrl.holdDuty (c : Ctrl) (n : Nat) (d : Duty) : Ctrl :=
  if d.st = 0 then (c.setDuty n d).dropSlot n else (c.setDuty n d).giveSlot n

/-- The mirrored state of a duty sent to the STANDBY controller after a release (R138, R373). -/
def State.syncDuty (s : State) (x : Side) (n : Nat) : State :=
  if s.isStandby x.other then
    s.modCtrl x.other fun c => c.holdDuty n (((s.ctrl x).duty n).mirrorOf (c.duty n))
  else s

/-- The release of an execution: its commands enter the image as one act, those on contested channels free (R140), its stage state
stands, its publications and relays leave, and the waiting firing enters the queue. In DORMANT, where the outputs keep their safe
values (R39), the commands of an execution that was still in progress enter nothing (DEDUCED, log entry 95). -/
def State.releaseExec (s : State) (x : Side) (e : Exec) : State :=
  s.withTether x fun s =>
    let c := s.ctrl x
    let late := e.isLate (s.clock c) e.card
    let c1 := s.relayOut (s.deliver c e late) e late
    let cmds := if c1.mode = .dormant then [] else c1.execCmds s.now e
    let s1 := (s.setCtrl x (cmds.foldl (Ctrl.releaseCmd s.now e.duty) c1)).putFrees x (cmds.map fun m => m.1)
    let c3 := (s1.ctrl x).modDuty e.duty fun d => d.released e late
    let c4 := c3.setPlace e.duty ((c3.place e.duty).measure e (s.now - e.firing.inst))
    ((s1.setCtrl x (c4.nextFiring e.duty)).syncImage x).syncDuty x e.duty

/-- An execution cut before its release: its publications are still queued, and nothing else of it remains (R113). -/
def State.cutExec (s : State) (c : Ctrl) (e : Exec) : Ctrl := s.deliver c e (e.isLate (s.clock c) e.card)

/-- The executions of a duty, in queues and on engines. -/
def Ctrl.execsOf (c : Ctrl) (n : Nat) : List Exec :=
  (c.sched.queues.flatMap fun q => q.2.filter fun e => e.duty == n) ++
    c.sched.engines.filterMap fun g => g.2.run.bind fun e => if e.duty = n then some e else none

/-- Every execution of a duty removed from queues and engines; a firing that waits still waits. -/
def Ctrl.removeExecs (c : Ctrl) (n : Nat) : Ctrl :=
  let queues := c.sched.queues.foldl (fun t q => tset [] t q.1 (q.2.filter fun e => e.duty != n)) c.sched.queues
  let engines := c.sched.engines.foldl (fun t g =>
    match g.2.run with
    | some e => if e.duty = n then tset {} t g.1 { g.2 with run := none, halted := false, pass := false } else t
    | none => t) c.sched.engines
  { c with sched := { c.sched with queues, engines } }.modDuty n fun d => { d with busy := false, restart := false }

/-- Every execution of a duty is cut (R137, R139). -/
def State.cutDuty (s : State) (c : Ctrl) (n : Nat) : Ctrl :=
  ((c.execsOf n).foldl (fun c e => s.cutExec c e) c).removeExecs n

/-! ## Engines -/

def Ctrl.setEngine (c : Ctrl) (i : Nat) (g : Engine) : Ctrl :=
  { c with sched := { c.sched with engines := tset {} c.sched.engines i g } }

/-- The next stage selected at a point, from an index on. -/
def nextStage (stages : List Word) (k i : Nat) : Nat :=
  i + ((stages.drop i).takeWhile fun w => !nbit (sSel w) k).length

/-- Engines run on this controller: it is not halted in place (R485). -/
def Ctrl.enginesRun (c : Ctrl) : Bool := c.dbg.st != 3

/-- An engine may take work. -/
def Engine.free (g : Engine) : Bool := g.run.isNone && !g.halted

/-- An execution stands on an engine after its last selected stage: it is released and the engine is free; else it waits for
its next stage, and a SLOW engine posts it as a continuation, unless it stole it (R113, R147, R149). -/
def State.settleExec (s : State) (x : Side) (i : Nat) (e : Exec) : State :=
  let c := s.ctrl x
  let d := e.card
  let g := c.engine i
  let n := nextStage d.stages e.firing.point e.stage
  if d.stages.length ≤ n then
    (s.setCtrl x (c.setEngine i { g with run := none, pass := false })).releaseExec x { e with stage := n }
  else if g.slow && e.begun && !e.stolen && e.stage != 0 then
    s.setCtrl x ((c.setEngine i { g with run := none, pass := false }).enqueue { e with stage := n, home := e.cluster } true)
  else s.setCtrl x (c.setEngine i { g with run := some { e with stage := n }, pass := false })

/-- Engine cycles that a cluster has been busy in the period (R168). -/
def Ctrl.busyBy (c : Ctrl) (k n : Nat) : Ctrl :=
  { c with sched := { c.sched with meas := tmod {} c.sched.meas k fun m => { m with busy := m.busy + n } } }

/-- The cost of a dispatch or of a stage on an engine: its cluster is busy for it, and the engine's window takes it up (R161; log
entry 92). -/
def Ctrl.spend (c : Ctrl) (i cost : Nat) (stage : Bool) : Ctrl :=
  let g := c.engine i
  (c.setEngine i { g with winCost := g.winCost + cost, winDone := g.winDone || stage, winBusy := true }).busyBy (i / 16) cost

/-- An execution begins, or continues, on an engine: 40 cycles of dispatch, and 16 when stolen (R128, R149). -/
def State.take (s : State) (x : Side) (i : Nat) (e : Exec) (stolen : Bool) : State :=
  let k := i / 16
  let e1 := if e.begun then e else
    { e with begun := true, cost := 40 + (if stolen then 16 else 0), cluster := k, stolen }
  let c := (s.ctrl x).spend i (if e.begun then 0 else e1.cost) false
  let g := c.engine i
  let n := nextStage e.card.stages e.firing.point e.stage
  if e.card.stages.length ≤ n then (s.setCtrl x c).releaseExec x { e1 with stage := n }
  else s.setCtrl x (c.setEngine i { g with run := some { e1 with stage := n }, pass := false })

/-- Another engine of the cluster that is not SLOW is free (R162). -/
def Ctrl.otherIdle (c : Ctrl) (i : Nat) : Bool :=
  (List.range 16).any fun j =>
    let k := 16 * (i / 16) + j
    k != i && (c.engine k).free && !(c.engine k).slow

/-- EXECUTION_DISPATCH: a free engine takes the head entry of its cluster's queue. -/
def execExecutionDispatch (engine : Nat) (s : State) : Host.Outcome State Fault Refusal :=
  .next (s.onActive fun x c =>
    let g := c.engine engine
    match c.queue (engine / 16) with
    | [] => s
    | e :: rest =>
      if decide (engine < 192) && c.enginesRun && g.free && !(g.slow && c.otherIdle engine) then
        (s.setCtrl x (c.setQueue (engine / 16) rest)).take x engine e false
      else s)

/-- The first entry of a neighbour's queue that may be stolen: not started, not pinned (R148). -/
def Ctrl.stealable (c : Ctrl) (k : Nat) : Option Exec :=
  if (List.range 16).all fun j =>
      let g := c.engine (16 * k + j)
      g.run.isSome || g.slow || g.halted then
    match c.queue k with
    | e :: _ => if !e.begun && hAffinity e.card.header != 2 then some e else none
    | [] => none
  else none

/-- The measures of a theft (R168). -/
def Ctrl.countSteal (c : Ctrl) (from_ to_ : Nat) : Ctrl :=
  let m := tmod {} c.sched.meas from_ fun m => { m with out := m.out + 1 }
  { c with sched := { c.sched with meas := tmod {} m to_ fun m => { m with in_ := m.in_ + 1 } } }

/-- LEAPFROG_EXAMINE: an idle engine takes the first eligible entry at the heads of the two neighbour queues, the
lower-numbered cluster's when they are equal in all keys. -/
def execLeapfrogExamine (engine : Nat) (s : State) : Host.Outcome State Fault Refusal :=
  .next (s.onActive fun x c =>
    let k := engine / 16
    let l := min ((k + 1) % 12) ((k + 11) % 12)
    let h := max ((k + 1) % 12) ((k + 11) % 12)
    let pick : Option (Nat × Exec) :=
      match c.stealable l, c.stealable h with
      | some a, some b => if b.precedes a then some (h, b) else some (l, a)
      | some a, none => some (l, a)
      | none, some b => some (h, b)
      | none, none => none
    match pick with
    | none => s
    | some (j, e) =>
      if decide (engine < 192) && c.enginesRun && (c.engine engine).free && !(c.engine engine).slow &&
          (c.queue k).isEmpty then
        (s.setCtrl x ((c.setQueue j ((c.queue j).drop 1)).countSteal j k)).take x engine e true
      else s)

/-- SLOW_WINDOW: an engine is SLOW after a window above 1.5 times the costs of its stages, or busy without a completed stage, and no
longer after 10 consecutive windows of at most 1.2 times (R161). The next window begins. A window of other stages than the engine has
completed did not take place (log entry 92). -/
def execSlowWindow (engine taken cost : Nat) (completed busy : Bool) (s : State) : Host.Outcome State Fault Refusal :=
  .next (s.onActive fun x c =>
    let g := c.engine engine
    if 192 ≤ engine ∨ cost ≠ g.winCost ∨ completed ≠ g.winDone ∨ busy ≠ (g.winBusy || g.run.isSome) then s
    else
      let slow := decide (3 * cost < 2 * taken) || (busy && !completed)
      let fine := decide (5 * taken ≤ 6 * cost)
      let n := if fine && !slow then g.fine + 1 else 0
      let g0 := { g with winCost := 0, winDone := false, winBusy := g.run.isSome }
      let g1 := if slow then { g0 with slow := true, fine := 0 }
        else if g.slow && decide (10 ≤ n) then { g0 with slow := false, fine := 0 }
        else { g0 with fine := if g.slow then n else 0 }
      let m := tmod {} c.sched.meas (engine / 16) fun m => { m with busy := m.busy + (taken - cost) }
      s.setCtrl x ({ c with sched := { c.sched with meas := m } }.setEngine engine g1))

end Sys2Proof.Machine
end

