-- ==== Sys2Proof/Machine/Stages.lean ====
section
/-! DEFINITION. The eleven stage types (R114 to R127), each as a function of the execution it runs in, and engine
breakpoints (R487). -/

namespace Sys2Proof.Machine

/-! ## ACQUIRE (R114, R144) -/

/-- Records in ascending sampling time, equal times in their order. -/
def byTime : List Rec → List Rec
  | [] => []
  | r :: t =>
    let u := byTime t
    u.takeWhile (fun q => decide (q.at_ < r.at_)) ++ [r] ++ u.dropWhile fun q => decide (q.at_ < r.at_)

/-- A value record without `VALID`, of a loop channel that has none to take. -/
def Ctrl.emptyValue (c : Ctrl) (e : Exec) (ch : Nat) : Rec × Ctrl :=
  let (n, c1) := c.nextSeq ch
  (mkRec ch 2 e.firing.angle.toNat e.firing.mtime.toNat 0
    (flagsOf [(fFlywheel, e.firing.flywheel), (fSkipped, e.firing.skipped)]) n, c1)

/-- LATEST for one channel. -/
def State.acquireLatest (s : State) (c : Ctrl) (e : Exec) (src ch : Nat) : Rec × Ctrl :=
  let mt := e.firing.mtime.toNat
  if isDigital ch then
    s.imageRec c src ch mt (fun t => decide (t + us 6 < mt)) [(fSkipped, e.firing.skipped)]
  else
    match c.newestValue ch mt with
    | some r => (s.adopt c src e.firing.skipped (decide (r.at_ + c.outputPeriod ch + us 6 < mt)) r, c)
    | none => c.emptyValue e ch

/-- The instant an ALL or EDGES acquisition reaches back to. -/
def Duty.since (d : Duty) : Nat := if d.stage.any then d.lastAt else d.startedAt

/-- ALL and EDGES for one channel: the records, and how many were dropped or overwritten. -/
def State.acquireAll (s : State) (c : Ctrl) (e : Exec) (d : Duty) (edges : Bool) (limit ch : Nat) : List Rec × Nat :=
  let mt := e.firing.mtime.toNat
  let fresh := fun (t : Nat) => (if d.stage.any then decide (d.since < t) else decide (d.since ≤ t)) && decide (t ≤ mt)
  if isLoop ch && (loopMode (c.loopCfg ch) == 0 || !c.wroteValue ch) then ([], 0)
  else
    let rs := byTime ((c.ringOf ch).filter fun r => fresh r.at_ && (!edges || (isDigital ch && recKind r == 1))).reverse
    let lost := ((tget {} c.up (linkOf ch)).gone.filter fun g =>
      g.1 == ch && fresh g.2.2 && (!edges || (isDigital ch && g.2.1 == 1))).length
    ((rs.drop (rs.length - limit)).map (s.adopt c (hSource d.header) e.firing.skipped false), (rs.length - limit) + lost)

/-- The access cost of every record taken. -/
def accessSum (k : Nat) (rs : List Rec) : Nat := (rs.map fun r => 4 + chanCost k (recChan r)).sum

/-- ACQUIRE: S, the controller, and the cost. -/
def stageAcquire (x : Side) (e : Exec) (w : Word) (s : State) : State × Exec × Nat :=
  let c := s.ctrl x
  let d := e.card
  let chans := chMasked d.set (fld w 63 0)
  let m := fld w 111 110
  if m = 0 then
    let (rs, c1) := chans.foldl (fun (a : List Rec × Ctrl) ch =>
      let (r, c1) := s.acquireLatest a.2 e (hSource d.header) ch
      (a.1 ++ [r], c1)) ([], c)
    (s.setCtrl x c1, { e with S := rs }, 24 + accessSum e.cluster rs)
  else
    let got := chans.map (s.acquireAll c e d (m == 2) (fld w 109 103))
    let rs := got.flatMap fun g => g.1
    (s, { e with S := rs, discard := e.discard + (got.map fun g => g.2).sum }, 24 + accessSum e.cluster rs)

/-! ## FILTER (R115) -/

/-- A record that a filter includes. -/
def included (r : Rec) : Bool := recFlag r fValid && !recFlag r fInterrupted

/-- The OR of the flags of records, without `VALID`. -/
def orFlags (rs : List Rec) : Nat := (rs.foldl (fun a r => Nat.lor a (fld r.word 31 16)) 0) % 32768

/-- The one record that replaces a channel's records: base, sequence, L1 fields changed by `f`. -/
def filterRec (rs inc : List Rec) (base : Rec) (seq : Nat) (f : Word → Word) (valid : Bool) : Rec :=
  let w := setFld (f base.word) 31 16 (orFlags (if inc.isEmpty then rs else inc) + 32768 * b2n valid)
  { word := sealRec seq w, seq, at_ := base.at_ }

/-- IIR over the records in order. -/
def iir (k : Nat) (st : FilterSt) (xs : List Int) : FilterSt :=
  xs.foldl (fun st x => if st.seeded then { st with y := st.y + (x - st.y) / 2 ^ k } else { st with seeded := true, y := x }) st

/-- HOLD_N after the judged value of one execution; none breaks the run. -/
def holdN (k : Nat) (st : FilterSt) (v : Option Int) : FilterSt :=
  match v with
  | none => { st with run := 0 }
  | some x =>
    if !st.seeded then { seeded := true, y := x, run := 0 }
    else if x = st.y then { st with run := 0 }
    else if k ≤ st.run + 1 then { st with y := x, run := 0 }
    else { st with run := st.run + 1 }

/-- The least and the largest of values. -/
def minOf (xs : List Int) : Int := xs.tail.foldl min (xs.headD 0)
def maxOf (xs : List Int) : Int := xs.tail.foldl max (xs.headD 0)

/-- The filtered value of a channel, and its state. -/
def filterValue (mode k : Nat) (st : FilterSt) (inc : List Rec) : Int × FilterSt :=
  let xs := inc.map loopValue
  match mode with
  | 0 => (if xs = [] then 0 else xs.sum.tdiv xs.length, st)
  | 1 => (minOf xs, st)
  | 2 => (maxOf xs, st)
  | 3 =>
    let st1 := iir k st xs
    (if st1.seeded then st1.y else 0, st1)
  | _ =>
    let st1 := holdN k st (inc.getLast?.map fun r => (fld r.word 32 32 : Int))
    (if st1.seeded then st1.y else 0, st1)

/-- The L1 field of the filtered value: `VALUE` of a loop record, `STATE` of an image record. -/
def putFiltered (mode : Nat) (v : Int) (w : Word) : Word :=
  if mode = 4 then setFld w 32 32 (twos 1 v) else setFld w 56 32 (twos 25 v)

/-- Records with each of a channel's records of one kind dropped, the last of them replaced. -/
def replaceLast (p : Rec → Bool) (new : Rec) (rs : List Rec) : List Rec :=
  let rev := rs.reverse
  let late := rev.takeWhile fun r => !p r
  let rest := (rev.dropWhile fun r => !p r).drop 1
  (late ++ [new] ++ rest.filter fun r => !p r).reverse

/-- One channel filtered; `i` is the stage, `idx` the channel index. -/
def filterChannel (mode k i : Nat) (a : Ctrl × Exec) (idx ch : Nat) : Ctrl × Exec :=
  let (c, e) := a
  let p := fun r => recChan r == ch && recKind r == (if mode = 4 then 0 else 2)
  let rs := e.S.filter p
  let inc := rs.filter included
  let key := 64 * i + idx
  let (v, st) := filterValue mode k (tget {} e.stages.filters key) inc
  let e1 := { e with stages := { e.stages with filters := tset {} e.stages.filters key st } }
  match (if inc.isEmpty then rs else inc).getLast? with
  | none => (c, e1)
  | some base =>
    let (n, c1) := c.nextSeq ch
    (c1, { e1 with S := replaceLast p (filterRec rs inc base n (putFiltered mode v) (!inc.isEmpty)) e1.S })

/-- FILTER. -/
def stageFilter (x : Side) (e : Exec) (w : Word) (s : State) : State × Exec × Nat :=
  let c := s.ctrl x
  let set := e.card.set
  let mode := fld w 111 108
  let chans := chMasked set (fld w 63 0)
  let (c1, e1) := chans.foldl (fun a ch =>
    match indexIn set ch with
    | some i => filterChannel mode (fld w 107 104) e.stage a i ch
    | none => a) (c, e)
  (s.setCtrl x c1, e1, 16 + (if mode < 3 then 3 * e.S.length else 5 * chans.length))

/-! ## COMPARE, COUNT, LOGIC (R116 to R118) -/

/-- The record of a channel that is judged: the newest, the last in S among equals, of kinds other than 3 and 4. -/
def judged (rs : List Rec) (ch : Nat) : Option Rec :=
  rs.foldl (fun best r =>
    if recChan r == ch && recKind r != 3 && recKind r != 4 then
      match best with
      | none => some r
      | some b => if b.at_ ≤ r.at_ then some r else best
    else best) none

/-- The level of the reference output channel at the firing, as 1 for high; none when it is no digital channel. -/
def Ctrl.commanded (c : Ctrl) (e : Exec) (ch offset : Nat) : Option Nat :=
  let r := (ch : Int) + sext 12 offset
  if 0 ≤ r ∧ r < 1024 then
    some (b2n ({ c with image := e.firing.image }.imageLevel e.firing.inst r.toNat == 2))
  else none

/-- Whether a valid record mismatches; none where the rule gives no comparison of such a value with such a reference. -/
def Ctrl.mismatch (c : Ctrl) (e : Exec) (w : Word) (i : Nat) (r : Rec) : Option Bool :=
  let pat := nbit (fld w 63 0) i
  let loop := recKind r == 2
  match fld w 111 110 with
  | 0 => if loop then none else some ((fld r.word 32 32 == 1) != pat)
  | 1 =>
    if loop then none
    else (c.commanded e (recChan r) (fld w 109 98)).map fun l => (fld r.word 32 32 == 1) != ((l == 1) != pat)
  | _ =>
    if loop then
      some (decide (2 * loopValue r < 1000 * (fld w 95 80 : Int)) || decide (1000 * (fld w 79 64 : Int) < 2 * loopValue r))
    else none

/-- The bit of one channel index: the state, since a comparison that the rule does not state gives a free bit. COMPARE sets bits and
clears none that an earlier stage set (DESIGN CHOICE, log entry 96). -/
def compareBit (x : Side) (e : Exec) (w : Word) (a : State × BitVec 64) (i ch : Nat) : State × BitVec 64 :=
  match judged e.S ch with
  | none => a
  | some r =>
    let on := (a.1, a.2 ||| BitVec.ofNat 64 (2 ^ i))
    if !recFlag r fValid || recFlag r fOpen then on
    else
      match (a.1.ctrl x).mismatch e w i r with
      | some true => on
      | some false => a
      | none =>
        let (v, s1) := a.1.draw
        (s1, if v % 2 = 1 then a.2 ||| BitVec.ofNat 64 (2 ^ i) else a.2)

/-- COMPARE. -/
def stageCompare (x : Side) (e : Exec) (w : Word) (s : State) : State × Exec × Nat :=
  let set := e.card.set
  let (s1, v) := set.zipIdx.foldl (fun a p => compareBit x e w a p.2 p.1) (s, e.V)
  (s1, { e with V := v }, 12 + 3 * e.S.length)

/-- COUNT: counters by stage and channel index. -/
def stageCount (_x : Side) (e : Exec) (w : Word) (s : State) : State × Exec × Nat :=
  let set := e.card.set
  let mode := fld w 111 110
  let step := fun (old i ch : Nat) =>
    let hit := nbit e.V.toNat i
    satAt 16383 (match mode with
      | 0 => if hit then old + 1 else 0
      | 1 => old + b2n hit
      | _ => old + (e.S.filter fun r => recChan r == ch && recKind r == 1).length)
  let (counts, v) := set.zipIdx.foldl (fun (a : Tab Nat × Nat) p =>
    let key := 64 * e.stage + p.2
    let n := step (tget 0 a.1 key) p.2 p.1
    (tset 0 a.1 key n, if fld w 109 96 ≤ n then a.2 + 2 ^ p.2 else a.2)) (e.stages.counts, 0)
  (s, { e with stages := { e.stages with counts }, V := BitVec.ofNat 64 v, T := v != 0 }, 10 + 2 * set.length)

/-- The relayed T of a duty of another knot: that of the newest summary, 0 after 3 rope cycles without one or when the knot
is absent. -/
def State.remoteT (s : State) (c : Ctrl) (knot duty : Nat) : Bool :=
  let r := tget (0, 0) c.rope.summaries (4096 * knot + duty)
  bitOf r.1 111 && decide (s.now < r.2 + us 750) && nbit c.rope.present.toNat knot

/-- LOGIC. -/
def stageLogic (x : Side) (e : Exec) (w : Word) (s : State) : State × Exec × Nat :=
  let c := s.ctrl x
  let op := fld w 111 108
  let m := BitVec.ofNat 64 (fld w 63 0)
  let o := fld w 107 96
  let remote := bitOf w 91
  let ot := if remote then s.remoteT c (fld w 95 92) o else (c.duty o).running && (c.duty o).t
  let cost := if op < 4 then 8 else if remote then 10 else 8 + bankCost e.cluster (c.place o).cluster
  match op with
  | 0 => (s, { e with T := e.T || e.V &&& m != 0 }, cost)
  | 1 => (s, { e with T := e.V &&& m == m }, cost)
  | 2 => (s, { e with T := !e.T }, cost)
  | 3 =>
    let t := e.T || tget false e.stages.latches e.stage
    (s, { e with T := t, stages := { e.stages with latches := tset false e.stages.latches e.stage t } }, cost)
  | 4 => (s, { e with T := e.T && ot }, cost)
  | _ => (s, { e with T := e.T || ot }, cost)

/-! ## SEQUENCE (R119, R120) -/

/-- An output action of a stage: discarded on a channel the duty has forced, else it stands before earlier ones (R122,
R123). -/
def Ctrl.actOn (c : Ctrl) (d : Duty) (e : Exec) (ch : Nat) (o : OutCmd) : Exec :=
  if e.forced && (d.forceChans ++ c.bayForce d).contains ch then e else { e with cmds := (ch, o) :: e.cmds }

/-- A step entered: its output action is taken at once. -/
def Ctrl.enterStep (c : Ctrl) (d : Duty) (e : Exec) (k failed : Nat) : Exec :=
  let q : SeqSt := { started := true, step := k, entered := e.firing.mtime.toNat, metAt := none, failed }
  let e1 := { e with stages := { e.stages with seq := q } }
  match d.steps[k]? with
  | some w =>
    if k < 14 ∧ stOut w ≠ 0xFFF ∧ stAct w ≠ 0 then
      c.actOn d e1 (stOut w) (if stAct w = 3 then .current (stValue w) else .level (stAct w))
    else e1
  | none => e1

/-- The feedback of a step is met by the newest record of its channel in S. -/
def feedbackMet (rs : List Rec) (w : Word) : Bool :=
  match judged rs (stFb w) with
  | none => false
  | some r =>
    recFlag r fValid &&
      (if recKind r = 2 then
        (if stLevel w then decide (stThresh w ≤ loopValue r) else decide (loopValue r ≤ stThresh w))
      else (fld r.word 32 32 == 1) == stLevel w)

/-- SEQUENCE while it is in a step: the execution, and whether a transition was made. -/
def Ctrl.sequenceStep (c : Ctrl) (d : Duty) (e : Exec) : Exec × Bool :=
  let q := e.stages.seq
  let w := wordAt d.steps q.step
  let t := e.firing.mtime.toNat
  let used := stFb w != 0xFFF
  let metAt := if used && feedbackMet e.S w then some (q.metAt.getD t) else none
  let done := if used then (match metAt with | some u => decide (u + ms (stDwell w) ≤ t) | none => false)
    else decide (q.entered + ms (stDwell w) ≤ t)
  let out := used && decide (q.entered + ms (stTimeout w) ≤ t)
  if done then (c.enterStep d e (stNext w) q.step, true)
  else if out then (c.enterStep d e (stOnTimeout w) q.step, true)
  else ({ e with stages := { e.stages with seq := { q with metAt } } }, false)

/-- T and V while the sequence is FAILED. -/
def failedVT (d : Duty) (e : Exec) : Exec :=
  let q := e.stages.seq
  if q.step = 14 then
    let w := wordAt d.steps q.failed
    let ch := if stFb w = 0xFFF then stOut w else stFb w
    { e with
      T := true
      V := match indexIn d.set ch with
        | some i => BitVec.ofNat 64 (2 ^ i)
        | none => 0 }
  else e

/-- SEQUENCE. -/
def stageSequence (x : Side) (e : Exec) (_w : Word) (s : State) : State × Exec × Nat :=
  let c := s.ctrl x
  let d := e.card
  let (e1, moved) :=
    if !e.stages.seq.started then (c.enterStep d e 0 0, true)
    else if 14 ≤ e.stages.seq.step then (e, false)
    else c.sequenceStep d e
  (s, failedVT d e1, if moved then 52 else 42)

/-! ## DRIVE and FORCE SAFE (R122, R123) -/

/-- DRIVE. -/
def stageDrive (x : Side) (e : Exec) (w : Word) (s : State) : State × Exec × Nat :=
  let c := s.ctrl x
  let d := e.card
  let m := fld w 111 110
  if (m = 1 ∨ m = 3) ∧ e.T = false then (s, e, 6)
  else
    let base := fld w 109 104
    let chans := masked d.set (fld w 63 32) base
    let e1 := chans.foldl (fun e ch =>
      let i := (indexIn d.set ch).getD 0 - base
      c.actOn d e ch (if 2 ≤ m then .current (fld w 31 8) else .level (if nbit (fld w 95 64) i then 2 else 1))) e
    (s, e1, 14 + 3 * chans.length)

/-- FORCE SAFE acts unless the duty's latch is set, which a release sets and not an earlier stage (R113, R123, R128). -/
def stageForce (x : Side) (e : Exec) (w : Word) (s : State) : State × Exec × Nat :=
  let c := s.ctrl x
  let d := e.card
  if !e.T || e.card.forced then (s, e, 6)
  else if fld w 111 110 = 1 then
    let b := fld w 109 105
    (s, { e with forced := true, bays := b :: e.bays }, 20 + 4 * ((bayChans b).filter c.isOut).length)
  else
    let chans := masked d.set (fld w 63 0) 0
    let e1 := chans.foldl (fun e ch => { e with cmds := (ch, .safe 0 0) :: e.cmds }) e
    (s, { e1 with forced := true }, 20 + 4 * chans.length)

/-! ## PUBLISH, CHECK VALUE, RELAY (R124 to R127) -/

/-- The open sessions a `PUBLISH` names. -/
def Ctrl.publishTo (c : Ctrl) (w : Word) : List Nat :=
  let openOnes := (c.sessions.filter fun p => p.2.isOpen).map fun p => p.1
  if bitOf w 107 then openOnes
  else
    let named := ((List.range 4).filter fun k => bitOf w (96 + k)).map fun k => fld w (71 + 8 * k) (64 + 8 * k)
    openOnes.filter named.contains

/-- ON_CHANGE: T, V or the sequence step differs from the previous execution, or there is none. What the stage finds is compared with
what the previous execution ended with (DESIGN CHOICE, log entry 97). -/
def changed (e : Exec) : Bool :=
  !e.stages.any || e.T != e.stages.lastT || e.V != e.stages.lastV || e.stages.seq.code != e.stages.lastSeq

/-- PUBLISH. -/
def stagePublish (x : Side) (e : Exec) (w : Word) (s : State) : State × Exec × Nat :=
  let c := s.ctrl x
  let act := match fld w 111 110 with
    | 0 => true
    | 1 => e.T
    | _ => changed e
  if act then
    let what := fld w 109 108
    let recs := if what = 1 then [] else e.S
    let pubs := (c.publishTo w).map fun i => { session := i, summary := what != 0, recs : Publication }
    (s, { e with pubs := e.pubs ++ pubs }, 30 + (40 + 2 * recs.length) * pubs.length)
  else (s, e, 6)

/-- A record checked again against its own sequence; a failing one loses `VALID`. -/
def verifyRec (set : List Nat) (a : List Rec × BitVec 64) (r : Rec) : List Rec × BitVec 64 :=
  if recCrc r.seq r.word = fld r.word 15 0 then (a.1 ++ [r], a.2)
  else
    (a.1 ++ [{ r with word := setFld r.word (16 + fValid) (16 + fValid) 0 }],
      match indexIn set (recChan r) with
      | some i => a.2 ||| BitVec.ofNat 64 (2 ^ i)
      | none => a.2)

/-- CHECK VALUE. -/
def stageCheck (_x : Side) (e : Exec) (w : Word) (s : State) : State × Exec × Nat :=
  let set := e.card.set
  let m := fld w 111 110
  let cost := 12 + 6 * e.S.length
  if m = 1 then
    let (rs, v) := e.S.foldl (verifyRec set) ([], e.V)
    (s, { e with S := rs, V := v }, cost)
  else
    let v := crcFold (fld w 109 108) (fld w 63 32) (e.S.flatMap fun r => numBytes 4 (recValue r))
    (s, { e with V := BitVec.ofNat 64 v, T := e.T || (m == 2 && v != fld w 95 64) }, cost)

/-- RELAY. -/
def stageRelay (_x : Side) (e : Exec) (w : Word) (s : State) : State × Exec × Nat :=
  let d := e.card
  let what := fld w 111 110
  if what = 2 ∧ e.T = d.t then (s, e, 6)
  else
    let recs := if what = 1 then e.S.take 8 else []
    let more := if what = 1 then e.S.length - 8 else 0
    let target := if bitOf w 105 then 16 else fld w 109 106
    (s, { e with relays := e.relays ++ [(target, what == 1, recs)], discard := e.discard + more }, 20 + 4 * recs.length)

/-! ## Running a stage -/

/-- The stage of a type. -/
def runStage (x : Side) (e : Exec) (w : Word) (s : State) : State × Exec × Nat :=
  match sType w with
  | 1 => stageAcquire x e w s
  | 2 => stageFilter x e w s
  | 3 => stageCompare x e w s
  | 4 => stageCount x e w s
  | 5 => stageLogic x e w s
  | 6 => stageSequence x e w s
  | 7 => stageDrive x e w s
  | 8 => stageForce x e w s
  | 9 => stagePublish x e w s
  | 10 => stageCheck x e w s
  | 11 => stageRelay x e w s
  | _ => (s, e, 0)

/-- A stage breakpoint is armed before the stage. -/
def Ctrl.breaksAt (c : Ctrl) (e : Exec) : Bool := c.sched.breaks.contains (e.duty, e.stage)

/-- The stage that an engine is about to run. -/
def Ctrl.stageOn (c : Ctrl) (i : Nat) : Option (Exec × Word) :=
  (c.engine i).run.bind fun e => (e.card.stages[e.stage]?).map fun w => (e, w)

/-- One stage carried out on engine `i`, and the boundary after it (R147). -/
def State.advance (s : State) (x : Side) (i : Nat) (e : Exec) (w : Word) : State :=
  let (s1, e1, cost) := runStage x e w s
  let s2 := s1.modCtrl x fun c => c.spend i cost true
  s2.settleExec x i { e1 with stage := e.stage + 1, cost := e1.cost + cost }

/-- An engine runs its next stage, which is of type `t`: it is not halted, and no breakpoint holds it. -/
def State.onStage (s : State) (i t : Nat) : State :=
  s.onActive fun x c =>
    match c.stageOn i with
    | none => s
    | some (e, w) =>
      if sType w == t && c.enginesRun && !(c.engine i).halted && (!c.breaksAt e || (c.engine i).pass) then s.advance x i e w
      else s

def execAcquire (engine : Nat) (s : State) : Host.Outcome State Fault Refusal := .next (s.onStage engine sAcquire)
def execFilter (engine : Nat) (s : State) : Host.Outcome State Fault Refusal := .next (s.onStage engine sFilter)
def execCompare (engine : Nat) (s : State) : Host.Outcome State Fault Refusal := .next (s.onStage engine sCompare)
def execCount (engine : Nat) (s : State) : Host.Outcome State Fault Refusal := .next (s.onStage engine sCount)
def execLogic (engine : Nat) (s : State) : Host.Outcome State Fault Refusal := .next (s.onStage engine sLogic)
def execSequence (engine : Nat) (s : State) : Host.Outcome State Fault Refusal := .next (s.onStage engine sSequence)
def execDrive (engine : Nat) (s : State) : Host.Outcome State Fault Refusal := .next (s.onStage engine sDrive)
def execForceSafe (engine : Nat) (s : State) : Host.Outcome State Fault Refusal := .next (s.onStage engine sForce)
def execPublish (engine : Nat) (s : State) : Host.Outcome State Fault Refusal := .next (s.onStage engine sPublish)
def execCheckValue (engine : Nat) (s : State) : Host.Outcome State Fault Refusal := .next (s.onStage engine sCheck)
def execRelay (engine : Nat) (s : State) : Host.Outcome State Fault Refusal := .next (s.onStage engine sRelay)

/-- ENGINE_BREAKPOINT_HIT: an engine about to begin a stage with an armed breakpoint halts (R487). -/
def execEngineBreakpointHit (engine : Nat) (s : State) : Host.Outcome State Fault Refusal :=
  .next (s.onActive fun x c =>
    match c.stageOn engine with
    | none => s
    | some (e, _) =>
      let g := c.engine engine
      if c.breaksAt e && !g.halted && !g.pass then s.setCtrl x (c.setEngine engine { g with halted := true }) else s)

/-- ENGINE_STEP: a halted engine runs one stage and halts again before the next; after the last the execution is released
and the engine is free (R487). -/
def execEngineStep (engine : Nat) (s : State) : Host.Outcome State Fault Refusal :=
  .next (s.onActive fun x c =>
    match c.stageOn engine with
    | none => s
    | some (e, w) =>
      if (c.engine engine).halted then
        let s1 := (s.setCtrl x (c.setEngine engine { c.engine engine with slow := false })).advance x engine e w
        s1.modCtrl x fun d =>
          let g := d.engine engine
          d.setEngine engine { g with slow := (c.engine engine).slow, halted := g.run.isSome }
      else s)

end Sys2Proof.Machine
end

