-- ==== Sys2Proof/Machine/DutyOps.lean ====
section
/-! DEFINITION. Defining, starting, stopping and querying duties (R132 to R137, R312), the stops that the module makes
itself (R37, R137), the end of a migration (R156, R157) and the duty store (R473). -/

namespace Sys2Proof.Machine

/-- A duty number, a count and the duties they name (R312). -/
def rangeFirst (p : List Word) : Nat := fld (wordAt p 0) 127 116
def rangeCount (p : List Word) : Nat := fld (wordAt p 0) 115 103
def rangeDuties (p : List Word) : List Nat := (List.range (rangeCount p)).map fun i => rangeFirst p + i

/-- The range check of DUTY_START and DUTY_STOP. -/
def rangeBad (p : List Word) : Bool :=
  p.length != 1 || rangeCount p == 0 || decide (4096 < rangeFirst p + rangeCount p)

/-! ## DUTY_START (R133) -/

/-- Channels a duty names by `DRIVE`, `FORCE SAFE` or steps. -/
def Ctrl.actedOn (c : Ctrl) (d : Duty) : List Nat := c.outputsOf d ++ d.stepChans

/-- Two lists share a channel. -/
def meets (a b : List Nat) : Bool := a.any b.contains

/-- Every pair of a named duty and another duty that runs or is named. -/
def Ctrl.anyPair (c : Ctrl) (ns : List Nat) (f : Duty → Duty → Bool) : Bool :=
  let all := ((c.duties.map fun p => p.1).filter fun n => (c.dutyLeft n).running) ++ ns
  ns.any fun n => all.any fun m => m != n && f (c.dutyLeft n) (c.dutyLeft m)

/-- A step's output channel is named by another duty, or the reverse. -/
def Ctrl.stepClash (c : Ctrl) (a b : Duty) : Bool := meets a.stepChans (c.actedOn b) || meets b.stepChans (c.actedOn a)

/-- A host watchdog runs on a session. -/
def Ctrl.hostDogRuns (c : Ctrl) (i : Nat) : Bool := (tget {} c.hostDogs i).state == 1

/-- The checks of DUTY_START, in order; `m` is the mode left by every change committed before. -/
def checkDutyStart (m : Mode) (p : List Word) (c : Ctrl) : Nat :=
  if rangeBad p then stRange
  else
    let ns := rangeDuties p
    let ds := ns.map c.dutyLeft
    firstFail [
      (ds.any fun d => d.st == 0, stRange),
      (m == .safeHold && ds.any Duty.isOutput, stModeForbids),
      (ds.any fun d => (d.driveChans ++ d.forceChans ++ d.stepChans).any fun ch => !c.isOut ch || c.multidrop ch, stModeForbids),
      (ds.any fun d => hGuarded d.header && !c.hostDogRuns (hGuard d.header), stModeForbids),
      (c.anyPair ns c.stepClash, stBusy)]

/-- One duty started: its state cleared, c0 and the instant of the commit taken. An execution in progress completes first. -/
def Duty.start (d : Duty) (c0 : BitVec 32) (at_ : Nat) : Duty :=
  { d with
    st := 2, c0, startedAt := at_, begun := false, crossed := false, marks := [], forced := false, stage := {}, t := false, execs := 0,
    lates := 0, overruns := 0, discards := 0, waiting := none, lastAt := 0, afterTake := false, restart := d.busy, drain := false
    relMarks := [], relOverruns := 0 }

/-- c0 of a duty started now (R71). -/
def Ctrl.c0Of (c : Ctrl) (d : Duty) : BitVec 32 := (c.tracker (hSource d.header)).cycle + 1

/-- One duty of a DUTY_START, placed at its commit (R151). -/
def Ctrl.startDuty (c : Ctrl) (n : Nat) (c0 : BitVec 32) (at_ : Nat) : Ctrl :=
  (c.modDuty n fun d => d.start c0 at_).placeDuty n

/-! ## DUTY_STOP (R134) -/

/-- An execution of the duty is held at a stage breakpoint. -/
def Ctrl.heldAt (c : Ctrl) (n : Nat) : Bool :=
  c.sched.engines.any fun g => g.2.halted && (match g.2.run with | some e => e.duty == n | none => false)

/-- One duty of a DUTY_STOP. A point that fired in the same update creates no execution (R135). A firing that waits creates none
either (DESIGN CHOICE, log entry 99). -/
def State.stopDuty (s : State) (c : Ctrl) (n : Nat) : Ctrl :=
  let d := c.duty n
  if d.st = 2 ∨ d.st = 3 then
    let c1 := if c.heldAt n then s.cutDuty c n
      else if (c.execsOf n).any fun e => e.firing.at_ == s.clock c then c.removeExecs n
      else c
    (c1.modDuty n fun d => { d with st := 1, stop := 1, forced := false, waiting := none, drain := false }).unplace n
  else c

/-! ## Effects at the commit -/

/-- The record of DUTY_DEFINE takes the place of any earlier one; the duty store of each controller will hold it. -/
def Ctrl.defineDuty (c : Ctrl) (p : List Word) : Ctrl :=
  let n := hDuty (wordAt p 0)
  let d := if isDeletion p then {} else Duty.ofRecord p
  let busy := (c.duty n).busy
  { c.holdDuty n { d with busy, restart := busy } with
    storing := c.storing ++ [(n, if isDeletion p then [] else p)] }

/-- The effect of one duty command on one duty, now or when its migration has switched (R157); a start carries its c0 and
its instant in the word. -/
def State.dutyEffect (s : State) (c : Ctrl) (op : Nat) (p : List Word) : Ctrl :=
  let w := wordAt p 0
  let n := fld w 127 116
  if op = 0x20 then c.defineDuty p
  else if op = 0x21 then c.startDuty n (BitVec.ofNat 32 (fld w 31 0)) (fld w 102 39)
  else s.stopDuty c n

/-- A start of one duty, as one command. -/
def startWord (c : Ctrl) (n at_ : Nat) : Word :=
  mkw [(127, 116, n), (102, 39, at_), (31, 0, (c.c0Of (c.duty n)).toNat)]

/-- A duty command carried out, or put off while the duty is being copied (R157). -/
def State.dutyNow (s : State) (c : Ctrl) (op n : Nat) (q : Req) (p : List Word) : Ctrl :=
  if c.isMigrating n then { c with sched := { c.sched with deferred := c.sched.deferred ++ [(op, q, p)] } }
  else s.dutyEffect c op p

/-- The mirrored duties named, and their definitions, at the STANDBY controller (R373, R473). -/
def State.syncDuties (s : State) (x : Side) (ns : List Nat) : State := ns.foldl (fun s n => s.syncDuty x n) s

def effectDutyDefine (x : Side) (q : Req) (p : List Word) (s : State) : State :=
  let n := hDuty (wordAt p 0)
  let s1 := (s.modCtrl x fun c => s.dutyNow c 0x20 n q p).syncDuties x [n]
  if s1.isStandby x.other then
    s1.modCtrl x.other fun d => { d with storing := d.storing ++ [(n, if isDeletion p then [] else p)] }
  else s1

def effectDutyStart (x : Side) (q : Req) (p : List Word) (s : State) : State :=
  let at_ := (mtimeOf s (s.ctrl x)).toNat
  (s.modCtrl x fun c => (rangeDuties p).foldl (fun c n => s.dutyNow c 0x21 n q [startWord c n at_]) c.pruneContest).syncDuties x
    (rangeDuties p)

def effectDutyStop (x : Side) (q : Req) (p : List Word) (s : State) : State :=
  (s.modCtrl x fun c => (rangeDuties p).foldl (fun c n => s.dutyNow c 0x22 n q [mkw [(127, 116, n)]]) c).syncDuties x (rangeDuties p)

/-! ## DUTY_QUERY (R136) -/

/-- The duty state word. -/
def Duty.stateWord (d : Duty) (n : Nat) : Word :=
  mkw [(127, 116, n), (115, 112, d.st), (111, 108, d.stop), (107, 107, b2n d.mirrored), (106, 106, b2n d.forced),
    (105, 105, b2n d.t), (103, 100, seqCode d d.stage), (95, 64, d.execs.toNat), (63, 48, d.lates), (47, 32, d.overruns),
    (31, 16, d.discards), (15, 0, d.c0.toNat)]

def answerDutyQuery (p : List Word) (c : Ctrl) : Nat × List Word :=
  if p.length ≠ 1 then (stRange, [])
  else
    let n := fld (wordAt p 0) 127 116
    let d := c.duty n
    (stOk, d.stateWord n :: (if d.st = 0 then [] else d.record))

/-! ## Migration -/

/-- The commands put off for a duty, in logline order, and those for other duties. -/
def Ctrl.runDeferred (s : State) (c : Ctrl) (n : Nat) : Ctrl :=
  let mine := c.sched.deferred.filter fun m => fld (wordAt m.2.2 0) 127 116 == n
  let rest := c.sched.deferred.filter fun m => fld (wordAt m.2.2 0) 127 116 != n
  mine.foldl (fun c m => s.dutyEffect c m.1 m.2.2) { c with sched := { c.sched with deferred := rest } }

/-- One write to the placement table switches a duty over to a cluster (R156). -/
def Ctrl.switchPlace (c : Ctrl) (n k : Nat) : Ctrl :=
  let p := c.place n
  let sc := c.sched
  let h := (c.duty n).header
  { c with sched := { sc with
      migrating := tset 0 sc.migrating n 0, movedLast := sc.movedLast + 1, slots := tset 0 sc.slots n (k + 1)
      places := tset {} sc.places n
        { p with
          cluster := k, moved := true, moves := p.moves + 1, lastMove := sc.rebalances
          affEff := if hAffinity h = 0 then 0 else if hAffCluster h = k then 1 else 2
          overcommit := false } } }

/-- The copy of a duty is over: it is switched over, its waiting firing enters the new cluster's queue, and the commands put off take
effect (R156, R157). -/
def State.finishCopy (s : State) (c : Ctrl) (n : Nat) : Ctrl :=
  let k := tget 0 c.sched.migrating n
  if k = 0 then c
  else
    let c1 := c.switchPlace n (k - 1)
    Ctrl.runDeferred s (if (c1.duty n).busy then c1 else c1.nextFiring n) n

/-- MIGRATION_SWITCH. -/
def execMigrationSwitch (duty : Nat) (s : State) : Host.Outcome State Fault Refusal :=
  .next (s.onActive fun x c =>
    if tget 0 c.sched.migrating duty = 0 then s
    else ((s.setCtrl x (s.finishCopy c duty)).syncDuty x duty).syncTags x)

/-! ## The module's own stops (R37, R137, R139) -/

/-- Every copy in progress is over. -/
def State.finishCopies (s : State) (c : Ctrl) : Ctrl := (c.sched.migrating.map fun m => m.1).foldl s.finishCopy c

/-- R37: a duty that drives outputs is cut and loses its stage state on entry into SAFE_HOLD. -/
def State.safeStop (s : State) (c : Ctrl) (n : Nat) : Ctrl :=
  ((s.cutDuty c n).modDuty n fun d =>
    { d with st := 1, stop := 3, stage := {}, t := false, forced := false, waiting := none, drain := false }).unplace n

/-- All of them, and every execution in progress that drives outputs, its duty stopped or started anew meanwhile (R139). What a copy
has put off stands first (R157). -/
def State.safeStops (s : State) (c : Ctrl) : Ctrl :=
  let c0 := s.finishCopies c
  let c1 := (c0.duties.filter fun p => (p.2.st == 2 || p.2.st == 3) && p.2.isOutput).foldl (fun c p => s.safeStop c p.1) c0
  (c1.duties.filter fun p => (c1.execsOf p.1).any fun e => e.card.isOutput).foldl
    (fun c p => (s.cutDuty c p.1).nextFiring p.1) c1

/-- R137: one guarded duty is cut, its outputs go safe and it stops. -/
def State.guardStop (s : State) (c : Ctrl) (n : Nat) : Ctrl :=
  let c1 := s.cutDuty c n
  let c2 := ((c1.actedOn (c1.duty n)).filter c1.isOut).foldl (fun c ch => c.putSafe s.now ch) c1
  (c2.modDuty n fun d => { d with st := 1, stop := 4, waiting := none, drain := false }).unplace n

/-- Every running duty guarded by a session. -/
def State.guardStops (s : State) (c : Ctrl) (session : Nat) : Ctrl :=
  let c0 := s.finishCopies c
  (c0.runningDuties.filter fun p => hGuarded p.2.header && hGuard p.2.header == session).foldl (fun c p => s.guardStop c p.1) c0

/-! ## The duty store (R473) -/

/-- DUTY_STORE_WRITE_DONE: the oldest record of a duty that is being written is complete. -/
def execDutyStoreWriteDone (x : Side) (duty : Nat) (s : State) : Host.Outcome State Fault Refusal :=
  let c := s.ctrl x
  match c.storing.find? fun r => r.1 == duty with
  | none => .next s
  | some r => .next (s.setCtrl x { c with storing := c.storing.erase r, store := tset [] c.store duty r.2 })

/-- The duties restored at a start: STOPPED, stop reason BOOT (R473). -/
def restoredDuties (store : Tab (List Word)) : Tab Duty := store.map fun r => (r.1, { Duty.ofRecord r.2 with stop := 2 })

end Sys2Proof.Machine
end

