-- ==== Sys2Proof/Machine/Watchdog.lean ====
section
/-! DEFINITION. Fault sources and episodes (R445 to R449), and the watchdogs: windows, challenges and tokens (R429 to R439),
host watchdogs (R442) and the answer messages (R444). -/

namespace Sys2Proof.Machine

/-! ## Fault sources -/
def srcLogline : Nat := 3
def srcWdog : Nat := 5
def srcClock : Nat := 6
def srcUnexpected : Nat := 7
def srcHost : Nat := 8
def srcArbiter : Nat := 9

/-- Fields of `WDOG_CFG` (R441). -/
def wdClk (w : Word) : Bool := bitOf w 125
def wdHost (w : Word) : Bool := bitOf w 124
def wdSession (w : Word) : Nat := fld w 123 116
def wdOpen (w : Word) : Nat := fld w 115 102
def wdClose (w : Word) : Nat := fld w 101 88
def wdSeed (w : Word) : Nat := fld w 63 32

/-- The supervisor watchdog of a controller is answered by a host: server HOST, on the ACTIVE controller only. -/
def Ctrl.hostServed (c : Ctrl) : Bool := wdHost c.wdogCfg && c.isActive

/-- Sources that lie inside a controller (R445). -/
def insideSource (c : Ctrl) (src : Nat) : Bool :=
  if src = srcHost ∨ src = srcArbiter then false else if src = srcUnexpected then !c.hostServed else decide (src ≤ 14)

/-- The episode as the STANDBY controller receives it at its opening and at each merge (R373). -/
def State.syncEpisode (s : State) (x : Side) : State :=
  if s.isStandby x.other then
    s.modCtrl x.other fun d => { d with faults := { d.faults with episode := (s.ctrl x).faults.episode } }
  else s

/-- An episode opened on the ACTIVE controller `x` (R447, R448, R449). -/
def State.openEpisode (s : State) (x : Side) (src : Nat) (inj : Bool) (at_ : BitVec 64) : State :=
  let c := s.ctrl x
  let e : Episode :=
    { isOpen := true, injected := inj, inside := insideSource c src, first := src, side := x,
      react := fld c.faultCfg 127 118, number := c.faults.episode.number + 1, openTime := at_, started := s.now }
  let c1 := { c with faults := { c.faults with episode := e, pinHeld := true, pinAt := s.now, pinMin := true } }
  (s.setCtrl x (s.faultEvent c1 0 x src src)).syncEpisode x

/-- A raise that finds an episode open merges into it; else it opens one. -/
def State.raiseActive (s : State) (x : Side) (src : Nat) (inj : Bool) (at_ : BitVec 64) : State :=
  let f := (s.ctrl x).faults
  if f.episode.isOpen then
    (s.modCtrl x fun c => { c with faults := { c.faults with episode := { c.faults.episode with overflow := true } } }).syncEpisode x
  else s.openEpisode x src inj at_

/-- R436: these raises silence the controller's heartbeat line at once. -/
def silences (c : Ctrl) (src : Nat) : Bool := src == srcWdog || src == srcClock || (src == srcUnexpected && !c.hostServed)

/-- A source raised in controller `x` (R446, R447, R483). -/
def State.raise (s : State) (x : Side) (src : Nat) (inj : Bool) : State :=
  let c := s.ctrl x
  if c.inReset || decide (14 < src) then s
  else
    let mt := mtimeOf s c
    let latch := fun (c : Ctrl) => { c with faults := { c.faults with latched := c.faults.latched ++ [(src, inj, mt)] } }
    let c1 := { c with
      faults := { c.faults with
        last := src, conds := if 12 ≤ src then insertOnce src c.faults.conds else c.faults.conds } }
    if !s.firstGrant then s.setCtrl x (latch c1)
    else
      let c2 := if silences c src then { c1 with hbSilent := true } else c1
      let s1 := s.setCtrl x c2
      if c.isActive then s1.raiseActive x src inj mt
      else if c.dbg.st = 1 then s1.modCtrl x fun c => { c with dbg := { c.dbg with latched := true } }
      else
        let s2 := s1.modCtrl x latch
        if c.spliceUp then s2.onActive fun y d => s2.setCtrl y (s2.faultEvent d 4 x src src) else s2

/-! ## Windows, challenges and tokens (R431 to R435) -/

/-- A challenge from a random draw: never 0 and never the previous one. -/
def challengeOf (draw : Nat) (prev : BitVec 32) : BitVec 32 :=
  if prev = 0 then BitVec.ofNat 32 (draw % 4294967295 + 1)
  else
    let k := draw % 4294967294 + 1
    BitVec.ofNat 32 (if k < prev.toNat then k else k + 1)

/-- The token of a challenge. -/
def tokenOf (seed : Nat) (challenge : BitVec 32) : Nat := crcFold 3 seed (numBytes 4 challenge.toNat)

/-- The first window of R434. -/
def Watchdog.start (d : Watchdog) (now draw close seed : Nat) : Watchdog :=
  { d with
    st := 0, challenge := challengeOf draw d.challenge, seq := (d.seq + 1) % 4096, isPending := true, issued := now,
    openT := 0, closeT := close + 32000, spoiled := false, good := false, seed }

/-- The tick of an instant in the window. -/
def Watchdog.tick (d : Watchdog) (now : Nat) : Nat := (now - d.issued) / 31250

/-- The window closes: unanswered it is late, and the next one opens with its own challenge, edges and seed (R441). -/
def Watchdog.close (d : Watchdog) (draw openT closeT seed : Nat) : Watchdog :=
  { d with
    challenge := if d.isPending then challengeOf draw d.challenge else d.next, seq := (d.seq + 1) % 4096, isPending := true,
    issued := d.issued + ticksNs d.closeT, openT, closeT, spoiled := false, good := false, seed,
    lates := if d.isPending then satAt 15 (d.lates + 1) else d.lates }

/-- The verdict on an answer: 0 `GOOD`, 1 `EARLY`, 3 `WRONG_TOKEN`, 4 `NO_CHALLENGE`. -/
def Watchdog.verdict (d : Watchdog) (now seq token seed : Nat) : Nat :=
  if !d.isPending then 4
  else if d.tick now < d.openT then 1
  else if seq = d.seq ∧ token = tokenOf seed d.challenge then 0
  else 3

/-- An answer judged: it consumes the pending challenge, and the next is drawn. -/
def Watchdog.answered (d : Watchdog) (draw v : Nat) : Watchdog :=
  let d1 := if v = 0 then { d with good := true } else { d with spoiled := true }
  if d.isPending then { d1 with isPending := false, next := challengeOf draw d.challenge } else d1

/-- The reply word of R444. -/
def Watchdog.report (d : Watchdog) (now result openT closeT : Nat) : Word :=
  let t := d.tick now
  let left := d.closeT - t
  mkw [(127, 124, result), (123, 112, if d.isPending then d.seq else (d.seq + 1) % 4096),
    (111, 80, (if d.isPending then d.challenge else d.next).toNat),
    (79, 66, satAt 16383 (if d.isPending then d.openT - t else left + openT)),
    (65, 52, satAt 16383 (if d.isPending then left else left + closeT)), (51, 48, d.lates)]

/-! ## The supervisor watchdog (R436, R437, R439) -/

/-- The watchdog of a controller starts with the first window of R434. -/
def State.startDog (s : State) (x : Side) : State :=
  let (v, s1) := s.draw
  s1.modCtrl x fun c => { c with dog := c.dog.start s.now v (wdClose c.wdogCfg) (wdSeed c.wdogCfg), clkInUse := wdClk c.wdogCfg }

/-- The state in which it stands when nothing suspends or disables it: STOPPED while the controller is held out by debug (R482), and
under HOST in BOOT, CALIBRATE and DORMANT (R437). -/
def State.resumeDog (s : State) (x : Side) : State :=
  let c := s.ctrl x
  if c.dbg.st = 1 || (c.hostServed && (c.mode == .boot || c.mode == .calibrate || c.mode == .dormant)) then
    s.modCtrl x fun c => { c with dog := { c.dog with st := 3 } }
  else s.startDog x

/-- Both watchdogs are enabled again when they were disabled (R439). -/
def State.enableDogs (s : State) : State :=
  if s.ctrlA.dogsOff || s.ctrlB.dogsOff then
    let s1 := (s.modCtrl .a fun c => { c with dogsOff := false }).modCtrl .b fun c => { c with dogsOff := false }
    let s2 := if s1.ctrlA.dog.st = 1 then s1.resumeDog .a else s1
    let s3 := if s2.ctrlB.dog.st = 1 then s2.resumeDog .b else s2
    s3.onActive fun x c => s3.setCtrl x (s3.faultEvent c 6 x 0 0)
  else s

/-- The raise of a bad window or of an unexpected answer of a supervisor watchdog. -/
def State.dogBad (s : State) (x : Side) (v : Nat) : State :=
  let host := (s.ctrl x).hostServed
  let s1 := if v = 4 then s else
    s.modCtrl x fun c => { c with dog := { c.dog with badWindows := satAt 65535 (c.dog.badWindows + 1) } }
  s1.raise x (if v = 4 then srcUnexpected else if host then srcHost else srcWdog) false

/-- The window of a running supervisor watchdog closes. -/
def State.closeDog (s : State) (x : Side) : State :=
  let c := s.ctrl x
  let (v, s1) := s.draw
  let w := c.wdogCfg
  let s2 := s1.modCtrl x fun c =>
    { c with dog := c.dog.close v (wdOpen w) (wdClose w) (wdSeed w), clkInUse := wdClk w }
  if c.dog.isPending then s2.dogBad x 2 else s2

/-- A window that is over is closed. -/
def Watchdog.over (d : Watchdog) (now : Nat) : Bool := d.st == 0 && decide (d.issued + ticksNs d.closeT ≤ now)

/-- An answer of the supervisor watchdog of `x`, after any close it finds due. -/
def State.answerDog (s : State) (x : Side) (seq : Option Nat) (token : Nat) : Nat × State :=
  let s0 := if (s.ctrl x).dog.over s.now then s.closeDog x else s
  let c := s0.ctrl x
  let v := c.dog.verdict s.now (seq.getD c.dog.seq) token c.dog.seed
  let (n, s1) := s0.draw
  let s2 := s1.modCtrl x fun c =>
    { c with dog := { c.dog.answered n v with needGood := c.dog.needGood && v != 0 } }
  (v, if v = 0 then s2 else s2.dogBad x v)

/-- A suspension begins, unless the watchdog is served by a host or is not running (R440). -/
def Ctrl.suspendDog (c : Ctrl) (now : Nat) : Ctrl :=
  if c.dog.st = 0 ∧ c.hostServed = false ∧ c.dog.needGood = false then
    { c with dog := { c.dog with st := 2, suspendAt := now, suspends := satAt 65535 (c.dog.suspends + 1) } }
  else c

/-- Sectors of the spare slot of controller `x` still to erase (R388). -/
def Update.left (u : Update) (x : Side) : Nat := if u.op = 1 ∧ u.erasing = true then (match x with | .a => u.leftA | .b => u.leftB) else 0

/-- The core answers the window after a sector before it starts the next sector, and suspends its watchdog for it (R440). -/
def State.eraseNext (s : State) (x : Side) : State :=
  match s.active with
  | none => s
  | some a => if 0 < (s.ctrl a).update.left x then s.modCtrl x fun c => c.suspendDog s.now else s

/-- WDOG_CORE_ANSWER: the supervisor core answers its own watchdog, unless a host serves it. -/
def execWdogCoreAnswer (x : Side) (token : BitVec 32) (s : State) : Host.Outcome State Fault Refusal :=
  let c := s.ctrl x
  if c.dog.st = 0 ∧ c.hostServed = false ∧ c.inReset = false then
    let (v, s1) := s.answerDog x none token.toNat
    .next (if v = 0 then s1.eraseNext x else s1)
  else .next s

/-! ## Host watchdogs (R442) -/

/-- A host watchdog of a controller. -/
def Ctrl.hostDog (c : Ctrl) (i : Nat) : HostDog := tget {} c.hostDogs i
def Ctrl.setHostDog (c : Ctrl) (i : Nat) (d : HostDog) : Ctrl := { c with hostDogs := tset {} c.hostDogs i d }

/-- It starts with the first window of R434. -/
def State.startHostDog (s : State) (x : Side) (i : Nat) : State :=
  let (v, s1) := s.draw
  s1.modCtrl x fun c =>
    let d := c.hostDog i
    c.setHostDog i { d with state := 1, bad := 0, dog := d.dog.start s.now v d.close (c.hwSeed i) }

/-- The host is declared lost: its guarded duties stop, and HOST_LOST goes to every open session. -/
def State.hostLost (s : State) (x : Side) (i : Nat) : State :=
  let c := s.guardStops (s.ctrl x) i
  let d := c.hostDog i
  let c1 := c.setHostDog i { d with state := 2, dog := { d.dog with isPending := false, st := 3 } }
  ((s.setCtrl x (s.faultEvent c1 3 x 0 (256 + i))).syncImage x).syncDuties x (c.duties.map fun p => p.1)

/-- A bad result of a window that held none before counts it bad. -/
def State.hostBad (s : State) (x : Side) (i : Nat) : State :=
  let s1 := s.modCtrl x fun c => c.setHostDog i { c.hostDog i with bad := (c.hostDog i).bad + 1 }
  let d := (s1.ctrl x).hostDog i
  if d.limit ≤ d.bad then s1.hostLost x i else s1

/-- The window of a running host watchdog closes. -/
def State.closeHostDog (s : State) (x : Side) (i : Nat) : State :=
  let d := (s.ctrl x).hostDog i
  let (v, s1) := s.draw
  let ok := d.dog.good && !d.dog.spoiled
  let s2 := s1.modCtrl x fun c =>
    c.setHostDog i { d with dog := d.dog.close v d.openE d.close (c.hwSeed i), bad := if ok then 0 else d.bad }
  if d.dog.isPending && !d.dog.spoiled then s2.hostBad x i else s2

/-- An answer of a host watchdog, after any close it finds due. -/
def State.answerHostDog (s : State) (x : Side) (i seq token : Nat) : Nat × State :=
  let s0 := if ((s.ctrl x).hostDog i).state == 1 && ((s.ctrl x).hostDog i).dog.over s.now then s.closeHostDog x i else s
  let d := (s0.ctrl x).hostDog i
  if d.state != 1 then (5, s0)
  else
    let v := d.dog.verdict s.now seq token d.dog.seed
    let (n, s1) := s0.draw
    let first := v != 0 && !d.dog.spoiled
    let s2 := s1.modCtrl x fun c => c.setHostDog i { d with dog := d.dog.answered n v }
    (v, if first then s2.hostBad x i else s2)

/-- WDOG_WINDOW_CLOSE (R431): a window of a running watchdog that is over closes. -/
def execWdogWindowClose (d : Dog) (s : State) : Host.Outcome State Fault Refusal :=
  match d with
  | .supervisor x => if (s.ctrl x).dog.over s.now && !(s.ctrl x).inReset then .next (s.closeDog x) else .next s
  | .host i =>
    .next (s.onActive fun x c =>
      if (c.hostDog i).state == 1 && (c.hostDog i).dog.over s.now then s.closeHostDog x i else s)

/-! ## WDOG_ANSWER and HOST_WDOG_ANSWER (R444) -/

def waToken (w : Word) : Nat := fld w 127 96
def waSeq (w : Word) : Nat := fld w 95 84
def waPoll (w : Word) : Bool := bitOf w 83

/-- The supervisor's reply, its LATES reported. -/
def State.dogReply (s : State) (x : Side) (result : Nat) : State × Nat × List Word :=
  let c := s.ctrl x
  let w := c.wdogCfg
  (s.setCtrl x { c with dog := { c.dog with lates := 0 } }, stOk, [c.dog.report s.now result (wdOpen w) (wdClose w)])

/-- WDOG_ANSWER and its poll: refused with NOT_OWNER unless the session serves a running watchdog (R437). -/
def answerWdog (x : Side) (q : Req) (p : List Word) (s : State) : State × Nat × List Word :=
  let c := s.ctrl x
  if p.length ≠ 1 then (s, stRange, [])
  else if !c.hostServed || wdSession c.wdogCfg != q.session || c.dog.st != 0 then (s, stNotOwner, [])
  else if waPoll (wordAt p 0) then
    let s0 := if c.dog.over s.now then s.closeDog x else s
    s0.dogReply x 5
  else
    let (v, s1) := s.answerDog x (some (waSeq (wordAt p 0))) (waToken (wordAt p 0))
    s1.dogReply x v

/-- The reply of a host watchdog. -/
def State.hostDogReply (s : State) (x : Side) (i result : Nat) : State × Nat × List Word :=
  let c := s.ctrl x
  let d := c.hostDog i
  (s.setCtrl x (c.setHostDog i { d with dog := { d.dog with lates := 0 } }), stOk,
    [d.dog.report s.now result d.openE d.close])

/-- HOST_WDOG_ANSWER and its poll: refused with MODE_FORBIDS unless the watchdog runs. -/
def answerHostWdog (x : Side) (q : Req) (p : List Word) (s : State) : State × Nat × List Word :=
  let i := q.session
  if p.length ≠ 1 then (s, stRange, [])
  else if !(s.ctrl x).hostDogRuns i then (s, stModeForbids, [])
  else if waPoll (wordAt p 0) then
    let s0 := if ((s.ctrl x).hostDog i).dog.over s.now then s.closeHostDog x i else s
    if (s0.ctrl x).hostDogRuns i then s0.hostDogReply x i 5 else (s0, stModeForbids, [])
  else
    let (v, s1) := s.answerHostDog x i (waSeq (wordAt p 0)) (waToken (wordAt p 0))
    if v = 5 then (s1, stModeForbids, []) else s1.hostDogReply x i v

/-! ## WDOG_KEY (R438) -/

/-- The arming of the key sequence, if it has not run out. -/
def Ctrl.armedKey (c : Ctrl) (now : Nat) : Option Nat := c.keyArm.bind fun a => if now < a.2 then some a.1 else none

/-- The checks of WDOG_KEY, in order. -/
def checkWdogKey (now : Nat) (q : Req) (p : List Word) (c : Ctrl) : Nat :=
  let key := fld (wordAt p 0) 127 112
  firstFail [
    (p.length != 1, stRange),
    (c.lock, stModeForbids),
    (match c.armedKey now with | some i => i != q.session | none => false, stBusy),
    ((c.armedKey now).isNone && key != 0x6E77, stRange),
    ((c.armedKey now).isSome && key != 0x7466, stRange)]

/-- What a refused WDOG_KEY does to an armed sequence: LOCK ends it, and any other key disarms it. -/
def refusedWdogKey (st : Nat) (s : State) (x : Side) : State :=
  if st = stModeForbids ∨ st = stRange then s.modCtrl x fun c => { c with keyArm := none } else s

/-- The effect of WDOG_KEY: armed for 100 ms, or both watchdogs disabled. -/
def effectWdogKey (x : Side) (q : Req) (s : State) : State :=
  let c := s.ctrl x
  match c.armedKey s.now with
  | none => s.setCtrl x { c with keyArm := some (q.session, s.now + ms 100) }
  | some _ =>
    let off := fun (c : Ctrl) => { c with dogsOff := true, dog := { c.dog with st := 1 } }
    let s1 := (s.modCtrl .a off).modCtrl .b off
    s1.modCtrl x fun c => s1.faultEvent { c with keyArm := none } 5 x 0 0

/-- WDOG_KEY_ARM_EXPIRY: 100 ms after the first key the sequence ends. -/
def execWdogKeyArmExpiry (s : State) : Host.Outcome State Fault Refusal :=
  .next (s.onActive fun x c =>
    match c.keyArm with
    | some a => if a.2 ≤ s.now then s.setCtrl x { c with keyArm := none } else s
    | none => s)

/-! ## Clock, suspension and reset of the watchdog -/

/-- WDOG_CLOCK_TRIP (R430). -/
def execWdogClockTrip (x : Side) (s : State) : Host.Outcome State Fault Refusal := .next (s.raise x srcClock false)

/-- A suspension ends, with the first window of R434; a good answer is needed before the next. -/
def State.endSuspension (s : State) (x : Side) : State :=
  if (s.ctrl x).dog.st = 2 then (s.modCtrl x fun c => { c with dog := { c.dog with needGood := true } }).startDog x else s

/-- SUSPENSION_TIMEOUT: 4 s after it began. -/
def execSuspensionTimeout (x : Side) (s : State) : Host.Outcome State Fault Refusal :=
  let c := s.ctrl x
  if c.dog.st = 2 ∧ c.dog.suspendAt + ms 4000 ≤ s.now then .next (s.endSuspension x) else .next s

end Sys2Proof.Machine
end

