-- ==== Sys2Proof/Machine/Boot.lean ====
section
/-! DEFINITION. Reset and boot of a controller (R370, R384, R385, R436, R459, R471, R473), image slots and the firmware report
(R396). -/

namespace Sys2Proof.Machine

/-! ## Image slots -/

/-- A slot by number. -/
def Ctrl.slot (c : Ctrl) (one : Bool) : Slot := if one then c.slot1 else c.slot0
def Ctrl.setSlot (c : Ctrl) (one : Bool) (s : Slot) : Ctrl := if one then { c with slot1 := s } else { c with slot0 := s }

/-- A slot in a state: which one, if any. -/
def Ctrl.slotIn (c : Ctrl) (state : Nat) : Option Bool :=
  if c.slot0.state = state then some false else if c.slot1.state = state then some true else none

/-- A slot is the frog or on trial. -/
def Slot.live (s : Slot) : Bool := s.state == 3 || s.state == 4

/-- The spare slot: neither FROG nor TRIAL (R388). -/
def Ctrl.spare (c : Ctrl) : Option Bool :=
  if c.slot0.live then (if c.slot1.live then none else some true) else some false

/-- The state of the spare slot replaced. -/
def Ctrl.markSpare (c : Ctrl) (f : Slot → Slot) : Ctrl :=
  match c.spare with
  | some b => c.setSlot b (f (c.slot b))
  | none => c

/-- The firmware report word (R396). -/
def State.fwReport (s : State) (op phase outcome reason : Nat) (side : Side) (version : BitVec 32) (count : Nat) : Word :=
  mkw [(127, 124, op), (123, 120, phase), (119, 116, outcome), (115, 112, reason), (111, 111, sideCode side),
    (107, 104, s.ctrlA.slot0.state), (103, 100, s.ctrlA.slot1.state), (99, 96, s.ctrlB.slot0.state),
    (95, 92, s.ctrlB.slot1.state), (63, 32, version.toNat), (31, 0, count)]

/-- A FIRMWARE event for every open session. -/
def State.fwEvent (s : State) (op phase outcome reason : Nat) (side : Side) (version : BitVec 32) (count : Nat) : State :=
  s.publish 0x0F 0 [s.fwReport op phase outcome reason side version count]

/-! ## Reset -/

/-- The newest entry of a logline that its eNVM gives at a start: the highest entry number (R471). -/
def newestFound (t : Tab Word) : Option Nat :=
  t.foldl (fun best e =>
    let n := fld e.2 127 96
    match best with
    | none => some n
    | some m => some (max m n)) none

/-- The logline as a start finds it (R299). -/
def Logline.atStart (l : Logline) : Logline :=
  match newestFound l.entries with
  | none => {}
  | some n => { entries := l.entries, next := (n + 1) % 4294967296, count := satAt 65536 l.entries.length }

/-- A controller in reset: eNVM, NOR and the re-forming latch are kept, and the counters of R356 until module reset. -/
def Ctrl.afterReset (c : Ctrl) (now cause : Nat) : Ctrl :=
  { Ctrl.reset with
    keep := c.keep, wear := c.wear, groups := c.groups, store := c.store, slot0 := c.slot0, slot1 := c.slot1,
    running1 := c.running1, nor := c.nor, logl := { entries := c.logl.entries }, lock := c.lock, resetCause := cause,
    time := { tb0 := now }, ports := if cause = 0 then {} else { cnt := c.ports.cnt },
    rope := { reform := c.rope.reform, reformSet := c.rope.reformSet, wasMaster := c.rope.wasMaster } }

/-- A controller goes into reset; a disabled watchdog runs again on both (R439), and its claims are 0 (R20). -/
def State.restart (s : State) (x : Side) (cause : Nat) : State :=
  (s.modCtrl x fun c => c.afterReset s.now cause).enableDogs.resteer

/-- A controller restarts into a slot that a firmware sequence names (R385, R390). -/
def State.restartInto (s : State) (x : Side) (one : Bool) (u : Update) : State :=
  (s.restart x 5).modCtrl x fun c => { c with running1 := one, update := u, trial := (c.slot one).state == 3 }

/-! ## Boot -/

/-- The slot that boots outside a sequence (R385): FROG then PREVIOUS, or under SAFE_BOOT PREVIOUS then FROG. -/
def bootSlot (safeBoot : Bool) (c : Ctrl) (ok : Bool → Bool) : Option Bool :=
  let frog := (c.slotIn 4).filter ok
  let prev := (c.slotIn 5).filter ok
  if safeBoot then prev <|> frog else frog <|> prev

/-- The epoch of the newest TAKEOVER entry of a logline, or 0 (R359). -/
def Logline.lastEpoch (l : Logline) : BitVec 32 :=
  match l.findNewest fun w => fld w 67 64 == 4 with
  | some w => BitVec.ofNat 32 (fld w 31 0)
  | none => 0

/-- An image that starts on an EMPTY area, or one left WRITING, loads the factory values of every item (R466). -/
def Ctrl.loadArea (c : Ctrl) : Ctrl :=
  let base := c.areaAt 0
  let st := fld (c.keepWord base) 111 108
  if st = 0 ∨ st = 2 then { c with keep := c.keep.filter fun e => decide (e.1 ≤ base) || decide (base + 0x7FF < e.1) } else c

/-- The area the controller runs on is one of those. -/
def Ctrl.areaEmpty (c : Ctrl) : Bool :=
  let st := fld (c.keepWord (c.areaAt 0)) 111 108
  st == 0 || st == 2

/-- The firmware's counts at a start: power-ups and watchdog resets (R436, R459). -/
def Ctrl.countStart (c : Ctrl) : Ctrl :=
  if c.resetCause = 0 then c.writeSys 2 (mkw [(31, 0, satAt 4294967295 (fld (c.keepWord 2) 31 0 + 1))])
  else if c.resetCause = 1 then c.writeSys 1 (mkw [(15, 0, satAt 65535 (fld (c.keepWord 1) 15 0 + 1))])
  else c

/-- The start-up test of the logline area: passed, the last-gasp words are cleared; failed, it acts as R301 does. -/
def State.testLogline (s : State) (x : Side) (ok : Bool) : State :=
  if ok then s.modCtrl x fun c => { (c.writeSys 4 0).writeSys 5 0 with logl := { c.logl with isVolatile := false, sound := true } }
  else
    let s1 := s.lastGasp x 0 3
    (s1.modCtrl x fun c => { c with logl := { c.logl with isVolatile := true, sound := false } }).raise x srcLogline false

/-- A controller whose image has verified runs: SYNCING, its duties restored, its watchdog started. A tadpole reports
`IMAGE_OK` only once its settings are migrated. -/
def State.started (s : State) (x : Side) (one logOk : Bool) : State :=
  let c0 := s.ctrl x
  let groups := c0.groups
  let s1 := s.modCtrl x fun c =>
    { c with
      inReset := false, running := true, role := .syncing, running1 := one, trial := (c.slot one).state == 3,
      imageOk := (c.slot one).state != 3, logl := c.logl.atStart, duties := restoredDuties c.store,
      mode := if s.firstGrant then (s.ctrl x.other).mode else .boot, spliceUp := true, spliceAt := s.now,
      time := { c.time with tb0 := s.now } }.giveSlots
  let s2 := rollBackAll groups x s1
  let s3 := s2.modCtrl x fun c => { c.countStart.loadArea with lastEpoch := c.logl.lastEpoch }
  let s4 := (s3.testLogline x logOk).startDog x
  let s5 := s4.publish 0x02 (sideCode x) [roleWord .syncing .syncing 0 (if s4.compat then 0 else s4.arb.epoch)]
  let v := ((s5.ctrl x).slot one).version
  if (c0.slot one).state != 4 || { c0 with running1 := one }.areaEmpty then s5.fwEvent 3 7 0 0 x v 0 else s5

end Sys2Proof.Machine
end

