-- ==== Sys2Proof/Machine/Fsk.lean ====
section
/-! DEFINITION. FSK_SEND and FSK_FRAME (R223 to R228): queued sends, exchanges, their outcomes and the frames heard. -/

namespace Sys2Proof.Machine

/-! ## FSK_SEND -/

def fsChan (w : Word) : Nat := fld w 127 116
def fsForm (w : Word) : Nat := fld w 115 114
def fsLength (w : Word) : Nat := fld w 55 48

/-- The checks of FSK_SEND, in order, after R62. -/
def checkFskSend (p : List Word) (c : Ctrl) : Nat :=
  let w := wordAt p 0
  let ch := fsChan w
  firstFail [
    (p.length == 0 || !isLoop ch || decide (2 ≤ fsForm w) || p.length != 1 + (fsLength w + 15) / 16, stRange),
    (loopFsk (c.loopCfg ch) == 0, stModeForbids),
    (decide (4 ≤ ((tget [] c.fsk ch).filter fun j => j.phase == 0).length), stBusy)]

/-- The exclusive-or of bytes. -/
def xorAll (bs : List Nat) : Nat := bs.foldl Nat.xor 0

/-- The frame of R224 without its preamble. -/
def fskBody (p : List Word) : List Nat :=
  let w := wordAt p 0
  let addr := if fsForm w = 1 then (128 + fld w 103 98) :: numBytes 4 (fld w 97 66) else [128 + fld w 111 106]
  let data := ((p.drop 1).flatMap wordBytes).take (fsLength w)
  let body := [if fsForm w = 1 then 0x82 else 0x02] ++ addr ++ [fld w 63 56, fsLength w] ++ data
  body ++ [xorAll body]

/-- Bytes of a list of numbers. -/
def toBytes (ns : List Nat) : List Byte := ns.map (BitVec.ofNat 8)
/-- Numbers of a list of bytes. -/
def ofBytes (bs : List Byte) : List Nat := bs.map BitVec.toNat

/-- The jobs of a channel replaced. -/
def Ctrl.setFsk (c : Ctrl) (ch : Nat) (js : List FskJob) : Ctrl := { c with fsk := tset [] c.fsk ch js }

/-- The effect of FSK_SEND: the frame is queued on its channel. -/
def effectFskSend (x : Side) (q : Req) (p : List Word) (s : State) : State :=
  s.modCtrl x fun c =>
    let w := wordAt p 0
    let j : FskJob :=
      { req := q, frame := toBytes (fskBody p), long := fsForm w == 1, ref := BitVec.ofNat 32 (fld w 31 0), tries := 0,
        phase := 0, endAt := 0, last := [], entry := c.logl.newest }
    c.setFsk (fsChan w) (tget [] c.fsk (fsChan w) ++ [j])

/-! ## FSK_FRAME (R226) -/

/-- The payload of FSK_FRAME. -/
def fskPayload (ch kind tries : Nat) (ref : BitVec 32) (bytes : List Byte) (time : Nat) : List Word :=
  mkw [(127, 116, ch), (115, 112, kind), (111, 103, bytes.length), (102, 100, tries), (95, 64, ref.toNat), (63, 32, time)] ::
    packBytes (ofBytes bytes)

/-- The check value of an FSK_FRAME as the session will receive it: its sequence is that of its place in the queue. -/
def Session.eventCrc (q : Session) (session op : Nat) (vol : Bool) (ws : List Word) : Nat :=
  let seq := (q.evSeq + (q.events.length - 1)) % 65536
  fld (sealHeader 1 (headerBare op session (headerFlags true vol false) 0xFFF ws.length seq 0 (genOf q.evPort)) ws) 31 0

/-- The outcome of a send: one FSK_FRAME to its session and one COMPLETE entry (R225, R298). -/
def State.fskOutcome (s : State) (x : Side) (ch : Nat) (j : FskJob) (kind : Nat) (bytes : List Byte) (time : Nat) : State :=
  let ws := fskPayload ch kind (if kind = 6 then 0 else j.tries) j.ref bytes time
  let s1 := s.modCtrl x fun c => c.tell j.req.session 0x81 ws
  let c := s1.ctrl x
  s1.journalReq x j.req 0x3A 1 stOk ((c.session j.req.session).eventCrc j.req.session 0x81 c.logl.isVolatile ws)

/-- MTIME[31:0] of an instant of a job, from the instant's distance to now. -/
def mtimeAgo (s : State) (c : Ctrl) (at_ : Nat) : Nat :=
  (((mtimeOf s c).toNat : Int) - ((s.now : Int) - (at_ : Int)) % 4294967296).toNat % 4294967296

/-- `FRAME_TIME` of a send that has received nothing: the end of its last transmission (R226). Of a send that was never transmitted it
is a free value: the spec states none (log entry 100). -/
def State.fskEndTime (s : State) (x : Side) (j : FskJob) : Nat × State :=
  if j.tries = 0 then (s.draw.1 % 4294967296, s.draw.2) else (mtimeAgo s (s.ctrl x) j.endAt, s)

/-- Queued sends of a channel end as ABORTED. -/
def State.fskAbort (s : State) (x : Side) (ch : Nat) : State :=
  let js := tget [] (s.ctrl x).fsk ch
  let s1 := s.modCtrl x fun c => c.setFsk ch (js.filter fun j => j.phase != 0)
  (js.filter fun j => j.phase == 0).foldl (fun s j =>
    let (t, s2) := s.fskEndTime x j
    s2.fskOutcome x ch j 5 [] t) s1

/-- Queued sends of the channels that satisfy a condition end as ABORTED (R228). -/
def State.fskAborts (s : State) (x : Side) (which : Nat → Bool) : State :=
  ((s.ctrl x).fsk.filter fun p => which p.1).foldl (fun s p => s.fskAbort x p.1) s

/-! ## The exchange (R225) -/

/-- FSK is in effect on a channel: in BOOT, CALIBRATE and DORMANT every modem is idle, and in FSK_OFF the channel has none (R36, R65). -/
def fskActs (m : Mode) (w : Word) : Bool := !loopHeld m && loopFsk w != 0

/-- No exchange starts on a channel: without FSK in effect, and multidrop in SAFE_HOLD (R65, R66, R228). -/
def Ctrl.fskStill (c : Ctrl) (ch : Nat) : Bool :=
  !fskActs c.mode (c.loopCfg ch) || (c.mode == .safeHold && c.multidrop ch)

/-- FSK payload words of bytes, 12 at a time (R267). -/
def fskWords (pos : Nat) : Nat → List Byte → List Word
  | 0, _ => []
  | _ + 1, [] => []
  | n + 1, b :: bs =>
    let now := (b :: bs).take 12
    mkw [(127, 126, pos), (125, 122, now.length), (95, 0, bytesNum (ofBytes now ++ List.replicate (12 - now.length) 0) 0)] ::
      fskWords pos n ((b :: bs).drop 12)

/-- FSK_TRANSMIT_START: the first queued send of a channel goes to its pod, with its preamble. -/
def execFskTransmitStart (ch : Nat) (s : State) : Host.Outcome State Fault Refusal :=
  .next (s.onActive fun x c =>
    match tget [] c.fsk ch with
    | [] => s
    | j :: js =>
      if j.phase = 0 ∧ isLoop ch = true ∧ c.fskStill ch = false then
        let bytes := List.replicate (fld (c.loopCfg ch) 94 90) (0xFF : Byte) ++ j.frame
        let c1 := c.setFsk ch ({ j with phase := 1, tries := j.tries + 1, last := [] } :: js)
        s.setCtrl x { c1 with
          down := tmod {} c1.down (linkOf ch) fun d => { d with fsk := d.fsk ++ fskWords (pinOf ch) (bytes.length + 1) bytes } }
      else s)

/-- A failed try: another one, or the outcome; a channel gone to FSK_OFF meanwhile makes no more (R207, DEDUCED, log entry 101). -/
def State.fskFailed (s : State) (x : Side) (ch : Nat) (j : FskJob) (js : List FskJob) (kind : Nat) (bytes : List Byte)
    (time : Nat) : State :=
  if j.tries ≤ fld ((s.ctrl x).loopCfg ch) 89 88 ∧ loopFsk ((s.ctrl x).loopCfg ch) ≠ 0 then
    s.modCtrl x fun c => c.setFsk ch ({ j with phase := 0, last := bytes } :: js)
  else (s.modCtrl x fun c => c.setFsk ch js).fskOutcome x ch j kind bytes time

/-- FSK_TRANSMIT_END: the modem has sent the checksum; the 300 ms wait starts, and a multidrop channel held back by a frame
moves to its safe value (R66). -/
def execFskTransmitEnd (ch : Nat) (s : State) : Host.Outcome State Fault Refusal :=
  let p := s.pod (linkOf ch)
  let l := s.loop ch
  let s1 := if isLoop ch && l.sending then
      s.setLoop ch ({ l with sending := false, txBytes := [] }.regulate p.mode p.alm s.now)
    else s
  .next (s1.onActive fun x c =>
    match tget [] c.fsk ch with
    | [] => s1
    | j :: js => if j.phase = 1 then s1.setCtrl x (c.setFsk ch ({ j with phase := 2, endAt := s.now } :: js)) else s1)

/-- FSK_REPLY_TIMEOUT: 300 ms without the carrier of a good reply. -/
def execFskReplyTimeout (ch : Nat) (s : State) : Host.Outcome State Fault Refusal :=
  .next (s.onActive fun x c =>
    match tget [] c.fsk ch with
    | [] => s
    | j :: js =>
      if j.phase = 2 ∧ j.endAt + ms 300 ≤ s.now then s.fskFailed x ch j js 1 [] (mtimeAgo s c j.endAt) else s)

/-- The checks of R225 that stand on the frame alone: parity, gaps and checksum. -/
def fskSound (bytes : List Byte) (parityOk gapsOk : Bool) : Bool :=
  parityOk && gapsOk && decide (2 ≤ bytes.length) && xorAll (ofBytes bytes) == 0

/-- The address bytes of a frame. -/
def fskAddr (bytes : List Byte) (long : Bool) : List Byte := (bytes.drop 1).take (if long then 5 else 1)

/-- The frame is a good reply to a send. -/
def fskGood (j : FskJob) (bytes : List Byte) : Bool :=
  bytes.headD 0 == (if j.long then 0x86 else 0x06) && fskAddr bytes j.long == fskAddr j.frame j.long

/-- A frame of a burst, or of another master. -/
def fskOther (bytes : List Byte) : Option Nat :=
  let d := (bytes.headD 0).toNat
  if d = 0x01 ∨ d = 0x81 then some 3 else if ((bytes.drop 1).headD 0).toNat < 128 then some 4 else none

/-- The MTIME of the first character of the frame, from the newest kind 4 record with `START`; free when there is none. -/
def State.fskTime (s : State) (c : Ctrl) (ch : Nat) : Nat × State :=
  match (c.ringOf ch).find? fun r => recKind r == 4 && bitOf r.word 37 with
  | some r => (recTime r, s)
  | none => (s.draw.1 % 4294967296, s.draw.2)

/-- FSK_FRAME_RECEIVED: a reply, a burst, another master's frame, or an error. -/
def execFskFrameReceived (ch : Nat) (bytes : List Byte) (parityOk gapsOk : Bool) (s : State) :
    Host.Outcome State Fault Refusal :=
  .next (s.onActive fun x c =>
    let sound := fskSound bytes parityOk gapsOk
    let (t, s1) := s.fskTime c ch
    let bad := fun (_ : Unit) =>
      s1.setLoop ch { s1.loop ch with fskErrors := satAt 255 ((s1.loop ch).fskErrors + 1) }
    if !isLoop ch || !fskActs c.mode (c.loopCfg ch) then s
    else
      match (if sound then fskOther bytes else none), tget [] c.fsk ch with
      | some k, _ => s1.modCtrl x fun c => c.tellAll 0x81 (fskPayload ch k 0 0 bytes t)
      | none, j :: js =>
        if j.phase = 2 then
          if sound && fskGood j bytes then
            (s1.modCtrl x fun c => c.setFsk ch js).fskOutcome x ch j 0 bytes t
          else s1.fskFailed x ch j js 2 bytes t
        else bad ()
      | none, [] => bad ())

end Sys2Proof.Machine
end

