-- ==== Sys2Proof/Machine/Trim.lean ====
section
/-! DEFINITION. What a controller queues for its downlinks (R267, R271), and zero and span trim (R214 to R220). -/

namespace Sys2Proof.Machine

/-! ## Trim words -/

/-- A trim word with a direction's values; `kept` marks them stored. -/
def trimWith (w : Word) (out kept : Bool) (zoff : Int) (gain : Nat) : Word :=
  if out then setFld (setFld (setFld w 114 114 (b2n (kept || bitOf w 114))) 87 64 (twos 24 zoff)) 31 0 gain
  else setFld (setFld (setFld w 115 115 (b2n (kept || bitOf w 115))) 111 88 (twos 24 zoff)) 63 32 gain

/-- The trim in force: provisional values act at once while the channel is armed (R218). -/
def Ctrl.trimNow (c : Ctrl) (ch : Nat) : Word :=
  match c.arm with
  | some a => if a.ch = ch then trimWith (c.trimWord ch) a.out false a.zoff a.gain else c.trimWord ch
  | none => c.trimWord ch

/-! ## Items for a downlink -/

/-- An item queued for a link, in logline order, sent until acknowledged. -/
def Ctrl.addItem (c : Ctrl) (link : Nat) (request : Bool) (sub : Nat) (payload : Word) : Ctrl :=
  { c with down := tmod {} c.down link fun d => { d with items := d.items ++ [{ request, sub, payload, sent := [] }] } }

/-- The configuration word of a channel as CONFIG carries it: `SUB` 0 digital, 1 loop, 2 conversion, 3 trim. The word names
its channel. -/
def Ctrl.podWord (c : Ctrl) (ch sub : Nat) : Word :=
  setFld (match sub with
    | 0 => c.digCfg ch
    | 1 => c.loopCfg ch
    | 2 => c.convCfg ch
    | _ => c.trimNow ch) 127 116 ch

/-- One configuration word queued. -/
def Ctrl.sendConfig (c : Ctrl) (ch sub : Nat) : Ctrl := c.addItem (linkOf ch) false sub (c.podWord ch sub)

/-- The configuration of every channel of a pod queued (R178, R197). -/
def Ctrl.sendPod (c : Ctrl) (link : Nat) : Ctrl :=
  (linkChans link).foldl (fun c ch =>
    if link < 64 then c.sendConfig ch 0 else ((c.sendConfig ch 1).sendConfig ch 2).sendConfig ch 3) c

/-- A request with the next number (R267): `sub` 1 urgent, 2 trigger, 3 self-calibration. -/
def Ctrl.sendRequest (c : Ctrl) (link sub positions groups mtime : Nat) : Ctrl :=
  let n := ((tget {} c.down link).reqNo + 1) % 256
  let c1 := { c with
    down := tmod {} c.down link fun d => { d with reqNo := n }
    skipReqs := c.skipReqs.filter fun r => r != (link, n) }
  c1.addItem link true sub (mkw [(127, 120, n), (119, 116, positions), (115, 100, groups), (95, 32, mtime)])

/-! ## TRIM_ARM -/

def taChan (w : Word) : Nat := fld w 127 116
def taAction (w : Word) : Nat := fld w 115 112
def taWindow (w : Word) : Nat := fld w 111 102
def taMeasured (w : Word) : Nat := fld w 95 72

/-- A zero offset and a gain within R215. -/
def zoffOk (z : Int) : Bool := decide (-100000 ≤ z) && decide (z ≤ 100000)
def gainOk (g : Int) : Bool := decide (0x00FD70A4 ≤ g) && decide (g ≤ 0x01028F5C)

/-- The channel is armed, by this session. -/
def Ctrl.armedBy (c : Ctrl) (ch session : Nat) : Bool :=
  match c.arm with
  | some a => a.ch == ch && a.session == session
  | none => false

/-- The keep-bank address of a trim word (R458). -/
def trimAddr (ch : Nat) : Nat := 0x40 + (ch - 0x400)

/-- The gain of MEAS_SPAN. -/
def Arm.measGain (a : Arm) (measured : Nat) : Int := roundDiv ((a.gain : Int) * 8000000) ((measured : Int) - 2000000)

/-- The word a commit writes. -/
def Arm.word (a : Arm) (c : Ctrl) (gain : Nat) : Word := trimWith (c.trimWord a.ch) a.out true a.zoff gain

/-- COMMIT, a MEAS_SPAN that succeeds and RESET write the trim word; a worn one refuses them (R219, R464). -/
def Ctrl.trimWorn (c : Ctrl) (w : Word) : Bool :=
  let worn := fun v => c.settled.wouldWear [(trimAddr (taChan w), v)]
  match taAction w, c.arm with
  | 8, _ => worn (factoryKeep (trimAddr (taChan w)))
  | 6, some a => (a.zero || a.span) && !a.aside && worn (a.word c a.gain)
  | 5, some a =>
    let g := a.measGain (taMeasured w)
    a.out && a.zero && gainOk g && worn (a.word c g.toNat)
  | _, _ => false

/-- The checks of TRIM_ARM, in order. -/
def checkTrim (q : Req) (p : List Word) (c : Ctrl) : Nat :=
  let w := wordAt p 0
  let ch := taChan w
  let act := taAction w
  firstFail [
    (p.length != 1 || decide (9 ≤ act) || (decide (act < 2) && (decide (taWindow w < 10) || decide (600 < taWindow w))) ||
      !isLoop ch, stRange),
    ((act == 0 && loopMode (c.loopCfg ch) != 1) || (act == 1 && (loopMode (c.loopCfg ch) != 2 || c.multidrop ch)),
      stModeForbids),
    ((decide (act < 2) && c.arm.isSome) || c.namedByRunning ch ||
      (decide (2 ≤ act) && decide (act ≤ 7) && !c.armedBy ch q.session), stBusy),
    (c.trimWorn w, stWorn)]

/-- The reply word of R216. -/
def trimReply (ch state result : Nat) (zoff : Int) (gain remain : Nat) : Word :=
  mkw [(127, 116, ch), (115, 112, state), (111, 108, result), (95, 72, twos 24 zoff), (63, 32, gain), (31, 0, remain)]

/-- The reply while the channel is armed. -/
def Arm.reply (a : Arm) (now result : Nat) : Word :=
  trimReply a.ch (if a.capture.isSome then 2 else a.state) result a.zoff a.gain ((a.ends - now) / 1000000)

/-- The reply once the arming has ended, in a state. -/
def Arm.done (a : Arm) (state result : Nat) : Word := trimReply a.ch state result a.zoff a.gain 0

/-- The trim in force goes to the pod; an output takes the current of the arming, or that of the image. -/
def Ctrl.showTrim (c : Ctrl) (ch : Nat) (out : Bool) : Ctrl := if out then (c.sendConfig ch 3).markOut ch else c.sendConfig ch 3

/-- A step of the trim ends, done or failed, which the bay's LED shows for 2 s (R220). -/
def Arm.steps (a : Arm) (ok : Bool) (now : Nat) : Arm := { a with step := some (ok, now) }

/-- What the status LED of a bay shows: a colour, flashing at a frequency in Hz, 0 for steady (R220), or red and green alternately
(LOCATE). -/
inductive Led
  | green (hz : Nat) | red (hz : Nat) | both (hz : Nat)
  deriving DecidableEq, Repr

/-- The LED of the bay of the armed channel. -/
def Arm.led (a : Arm) (now : Nat) : Led :=
  if a.capture.isSome then .green 4
  else
    match a.step with
    | some (ok, t) => if now < t + ms 2000 then (if ok then .green 0 else .red 4) else .green 1
    | none => .green 1

/-- The status LED of a bay: while a channel of the bay is armed it shows the trim (R220), else what LOCATE asks for (R353); the spec
names nothing else that it shows. -/
def State.bayLed (s : State) (bay : Nat) : Option Led :=
  let other : Option Led := s.locate.map fun _ => .both 2
  match s.active with
  | none => other
  | some x =>
    match (s.ctrl x).arm with
    | some a => if bayOf a.ch = bay then some (a.led s.now) else other
    | none => other

/-- The armed trim replaced. -/
def Ctrl.putArm (c : Ctrl) (a : Arm) : Ctrl := { c with arm := some a }.showTrim a.ch a.out

/-- The arming ended: provisional values drop, and an output returns to the image (R219). -/
def Ctrl.disarm (c : Ctrl) : Ctrl :=
  match c.arm with
  | none => c
  | some a =>
    let c1 := { c with arm := none }.showTrim a.ch a.out
    if a.out then c1.leave a.ch else c1

/-- The outcome of a capture: a message's reply at its end, a button's event. -/
def State.tellTrim (s : State) (x : Side) (tag : Option Nat) (ch : Nat) (w : Word) : State :=
  match tag with
  | some t => s.complete x t stOk [w]
  | none => s.setCtrl x (s.eventAll (s.ctrl x) 0x09 ch [w])

/-- A running capture is dropped; `result` 4 EXPIRED, 5 CANCELLED. -/
def State.dropCapture (s : State) (x : Side) (result : Nat) : State :=
  match (s.ctrl x).arm with
  | none => s
  | some a =>
    match a.capture with
    | none => s
    | some k =>
      (s.modCtrl x fun c => { c with arm := some { a with capture := none } }).tellTrim x k.2 a.ch
        ({ a with capture := none }.reply s.now result)

/-- The arming ends for one of the reasons of R219. -/
def State.endArm (s : State) (x : Side) (result : Nat) : State := (s.dropCapture x result).modCtrl x Ctrl.disarm

/-- A commit: one keep-bank write of the trim word, and the arming ends. -/
def State.commitTrim (s : State) (x : Side) (a : Arm) (tag : Nat) : State × Option (List Word) :=
  let w := a.word (s.ctrl x) a.gain
  let (s1, r) := s.postGroup x tag [(trimAddr a.ch, w)] [a.done 5 0]
  (s1.endArm x 5, r)

/-- A capture starts; one still running ends as CANCELLED (DESIGN CHOICE, log entry 30). A span capture needs a zero. -/
def State.startCapture (s : State) (x : Side) (a : Arm) (span : Bool) (tag : Option Nat) : State :=
  let s1 := s.dropCapture x 5
  if span && !a.zero then
    (s1.modCtrl x fun c => { c with arm := some ({ a with capture := none }.steps false s.now) }).tellTrim x tag a.ch
      ({ a with capture := none }.reply s.now 3)
  else s1.modCtrl x fun c => { c with arm := some { a with capture := some (span, tag), startAt := s.now } }

/-- A step that fails leaves the provisional values as they were (R218). -/
def State.failStep (s : State) (x : Side) (a : Arm) (result : Nat) : State × List Word :=
  (s.modCtrl x fun c => { c with arm := some (a.steps false s.now) }, [a.reply s.now result])

/-- The effect of an action on an armed channel. -/
def State.trimAction (s : State) (x : Side) (q : Req) (w : Word) (a : Arm) : State × Option (List Word) :=
  let fails := fun n => let (s1, r) := s.failStep x a n; (s1, some r)
  let order := fails 3
  let capture := fun span =>
    if a.out then
      let (s1, r) := s.failStep x a 3
      (s1.complete x q.tag stOk r, none)
    else (s.startCapture x a span (some q.tag), none)
  match taAction w with
  | 2 => capture false
  | 3 => capture true
  | 4 =>
    let z := a.zoff + (2000000 - (taMeasured w : Int))
    if !a.out then order
    else if zoffOk z then
      let b := { a with zoff := z, state := 3, zero := true, aside := a.span || a.aside, span := false }.steps true s.now
      (s.modCtrl x fun c => c.putArm b, some [b.reply s.now 0])
    else fails 2
  | 5 =>
    let g := a.measGain (taMeasured w)
    if !a.out || !a.zero then order
    else if gainOk g then s.commitTrim x { a with gain := g.toNat, state := 4, span := true, aside := false } q.tag
    else fails 2
  | 6 => if (a.zero || a.span) && !a.aside then s.commitTrim x a q.tag else order
  | _ => (s.endArm x 5, some [a.done 0 0])

/-- A channel armed. -/
def State.armTrim (s : State) (x : Side) (q : Req) (w : Word) (out : Bool) : State × Option (List Word) :=
  let t := (s.ctrl x).trimWord (taChan w)
  let a : Arm :=
    { ch := taChan w, out, session := q.session, ends := s.now + ms (1000 * taWindow w), state := 1, zero := false,
      span := false, aside := false, zoff := if out then trimOutZoff t else trimInZoff t,
      gain := if out then fld t 31 0 else fld t 63 32, capture := none, startAt := s.now }
  (s.modCtrl x fun c => c.putArm a, some [a.reply s.now 0])

/-- RESET: the factory values, committed at once; an arming of the channel ends. -/
def State.resetTrim (s : State) (x : Side) (q : Req) (ch : Nat) : State × Option (List Word) :=
  let (s1, r) := s.postGroup x q.tag [(trimAddr ch, factoryKeep (trimAddr ch))] [trimReply ch 5 0 0 0 0]
  let mine := match (s.ctrl x).arm with | some a => a.ch == ch | none => false
  (if mine then s1.endArm x 5 else s1.modCtrl x fun c => c.showTrim ch (c.isOut ch), r)

/-- The effect of TRIM_ARM. -/
def effectTrim (x : Side) (q : Req) (p : List Word) (s : State) : State × Option (List Word) :=
  let w := wordAt p 0
  match taAction w with
  | 0 => s.armTrim x q w false
  | 1 => s.armTrim x q w true
  | 8 => s.resetTrim x q (taChan w)
  | _ =>
    match (s.ctrl x).arm with
    | some a => s.trimAction x q w a
    | none => (s, some [])

/-! ## Captures, buttons and expiry -/

/-- The verdict on a capture: UNSTABLE, then OUT_OF_WINDOW, then the new values. -/
def Arm.judge (a : Arm) (span : Bool) (mean half1 half2 : Int) : Nat × Arm :=
  let off := mean + a.zoff
  let g := roundDiv (8000000 * 16777216) (off - 2000000)
  if 2000 < (half1 - half2).natAbs then (1, a)
  else if span then
    if decide (9900000 ≤ off) && decide (off ≤ 10100000) && gainOk g then
      (0, { a with gain := g.toNat, state := 4, span := true, aside := false })
    else (2, a)
  else if decide (1900000 ≤ mean) && decide (mean ≤ 2100000) then
    (0, { a with zoff := 2000000 - mean, state := 3, zero := true, aside := a.span || a.aside, span := false })
  else (2, a)

/-- TRIM_CAPTURE_END: 1.0 s after its start. A span step that succeeds commits by itself; a worn word refuses it. -/
def execTrimCaptureEnd (mean half1 half2 : Int) (s : State) : Host.Outcome State Fault Refusal :=
  .next (s.onActive fun x c =>
    match c.arm with
    | none => s
    | some a0 =>
      match a0.capture with
      | none => s
      | some (span, tag) =>
        if s.now < a0.startAt + ms 1000 then s
        else
          let (r, b) := { a0 with capture := none }.judge span mean half1 half2
          let a := b.steps (r == 0) s.now
          let s1 := s.modCtrl x fun c => c.putArm a
          if span && r == 0 then
            if c.settled.wouldWear [(trimAddr a.ch, a.word c a.gain)] then
              match tag with
              | some t => s1.complete x t stWorn []
              | none => s1.tellTrim x none a.ch (a.reply s.now 0)
            else
              let (s2, w) := s1.commitTrim x a (tag.getD 0xFFF)
              match tag, w with
              | none, _ => s2.tellTrim x none a.ch (a.done 5 0)
              | some t, some ws => s2.complete x t stOk ws
              | some _, none => s2
          else s1.tellTrim x tag a.ch (a.reply s.now r))

/-- A debounced press starts a capture on a channel armed for input, unless one runs (R220). -/
def State.press (s : State) (span : Bool) : State :=
  s.onActive fun x c =>
    match c.arm with
    | some a => if a.out || a.capture.isSome then s else s.startCapture x a span none
    | none => s

/-- ZERO_PRESS. -/
def execZeroPress (s : State) : Host.Outcome State Fault Refusal := .next (s.press false)
/-- SPAN_PRESS. -/
def execSpanPress (s : State) : Host.Outcome State Fault Refusal := .next (s.press true)

/-- TRIM_BUTTONS_HELD: both buttons together for 2 s end the arming, and the outcome is published. -/
def execTrimButtonsHeld (s : State) : Host.Outcome State Fault Refusal :=
  .next (s.onActive fun x c =>
    match c.arm with
    | some a => (s.endArm x 5).tellTrim x none a.ch (a.done 0 0)
    | none => s)

/-- TRIM_WINDOW_EXPIRY: the armed window has run out. -/
def execTrimWindowExpiry (s : State) : Host.Outcome State Fault Refusal :=
  .next (s.onActive fun x c =>
    match c.arm with
    | some a => if a.ends ≤ s.now then s.endArm x 4 else s
    | none => s)

end Sys2Proof.Machine
end

