-- ==== Sys2Proof/Machine/Sessions.lean ====
section
/-! DEFINITION. Sessions (R286, R305 to R307): opening, resuming, closing; replies and events as they leave (R318, R321, R322,
R344, R350, R352, R358). -/

namespace Sys2Proof.Machine

/-! ## SESSION_OPEN -/

def soCredits (w : Word) : Nat := if fld w 127 120 = 0 then 64 else fld w 127 120
def soDepth (w : Word) : Nat := if fld w 119 109 = 0 then 256 else fld w 119 109
def soHost (w : Word) : Nat := fld w 95 64
def soForce (w : Word) : Bool := bitOf w 63

/-- The checks of SESSION_OPEN, in order. -/
def checkSessionOpen (q : Req) (p : List Word) (c : Ctrl) : Nat :=
  let w := wordAt p 0
  let n := c.session q.session
  firstFail [
    (p.length != 1 || decide (soDepth w < 16) || decide (1024 < soDepth w), stRange),
    (n.isOpen && !soForce w, stBusy),
    (n.isOpen && n.hostId.toNat != soHost w, stNotOwner)]

/-- A session closes (R307): its queued events and replies drop, replies of operations in flight will be discarded, its
check-value units, tests and host watchdog end, and R137 acts when that watchdog runs. `keep` is a tag that stays. -/
def State.closeSession (s : State) (x : Side) (i keep : Nat) : State :=
  let c := s.ctrl x
  let c1 := if c.hostDogRuns i then s.guardStops c i else c
  let d := c1.hostDog i
  let c2 := (c1.setHostDog i { d with state := 0, bad := 0, dog := { d.dog with st := 3, isPending := false } }).setSession i {}
  let c3 := s.endTests c2 1 fun t => t.session == i
  let flights := (c3.flights.filter fun f => f.req.session != i || f.req.tag == keep || f.formed.isNone).map fun f =>
    if f.req.session = i ∧ f.req.tag ≠ keep then { f with discard := true } else f
  let crcs := c3.crcs.filter fun u => match u.2 with | some v => v.session != i | none => true
  ((s.setCtrl x { c3 with flights, crcs }).syncImage x).syncDuties x (c3.duties.map fun p => p.1)

/-- The effect of SESSION_OPEN: a forced one closes the session first. -/
def effectSessionOpen (x : Side) (q : Req) (p : List Word) (s : State) : State × List Word :=
  let w := wordAt p 0
  let s1 := if ((s.ctrl x).session q.session).isOpen then s.closeSession x q.session q.tag else s
  let (v, s2) := s1.draw
  let first := (s.ctrl x).logl.newest
  let n : Session :=
    { isOpen := true, hostId := BitVec.ofNat 32 (soHost w), key := BitVec.ofNat 32 v, port := q.port, ip := q.ip,
      udp := q.udp, credits := soCredits w, free := soCredits w, depth := soDepth w, highSeq := q.seq, admitted := [q.seq],
      evPort := q.port, evIp := q.ip, evUdp := q.udp, lastEntry := first }
  (s2.modCtrl x fun c => c.setSession q.session { n with
      replies := (c.session q.session).replies, formed := (c.session q.session).formed },
    [mkw [(127, 120, soCredits w), (119, 109, soDepth w), (95, 64, v % 4294967296), (63, 32, first)]])

/-! ## SESSION_RESUME -/

/-- The checks of SESSION_RESUME, in order. -/
def checkSessionResume (q : Req) (p : List Word) (c : Ctrl) : Nat :=
  let w := wordAt p 0
  let n := c.session q.session
  firstFail [
    (p.length != 1, stRange),
    (!n.isOpen, stNoSession),
    (fld w 127 96 != n.key.toNat || fld w 95 64 != n.hostId.toNat, stNotOwner)]

/-- The effect of SESSION_RESUME; `last` is the session's newest entry before it. -/
def effectSessionResume (x : Side) (q : Req) (last : Nat) (s : State) : State × List Word :=
  let c := s.ctrl x
  let n := c.session q.session
  let mine := c.flights.filter fun f => f.req.session == q.session && f.req.tag != q.tag
  let route := fun (r : Req) => { r with port := q.port, ip := q.ip, udp := q.udp }
  let m : Session :=
    { n with
      port := q.port, ip := q.ip, udp := q.udp, evPort := q.port, evIp := q.ip, evUdp := q.udp,
      highSeq := q.seq, admitted := [q.seq], replies := n.replies.map fun r => { r with req := route r.req } }
  let flights := c.flights.map fun f => if f.req.session = q.session ∧ f.req.tag ≠ q.tag then { f with rebound := true } else f
  (s.setCtrl x ({ c with flights }.setSession q.session m),
    [mkw [(127, 112, n.highSeq), (111, 100, mine.length), (95, 64, last), (63, 48, n.dropped), (47, 40, n.free)]])

/-- The check of SESSION_CLOSE: it has no payload. -/
def checkSessionClose (p : List Word) : Nat := if p.length = 0 then stOk else stRange

/-! ## What leaves -/

/-- A port takes outgoing messages: it serves messages, and its wire is up. -/
def State.portReady (s : State) (x : Side) : Port → Bool
  | .frame => (s.ctrl x).portServes .frame
  | .eth1 => (s.ctrl x).portServes .eth1 && s.ctrlA.ports.ethLink != 0 && (x == .a || s.canRelay .a)
  | .eth2 => (s.ctrl x).portServes .eth2 && s.ctrlB.ports.ethLink != 0 && (x == .b || s.canRelay .b)
  | .usb => s.attached && s.usbLink == 1
  | .spi => false
  | .internal => false

/-- A check-value unit released, if the session holds it (R325). -/
def Ctrl.freeUnit (c : Ctrl) (session i : Nat) : Ctrl :=
  match tget none c.crcs i with
  | some u => if u.session = session then { c with crcs := tset none c.crcs i none } else c
  | none => c

/-- What follows a reply that has left: its tag and credit are free, a SESSION_CLOSE closes, a released check-value unit is
free, and a port's settings take effect. -/
def State.replyLeft (s : State) (x : Side) (r : Reply) : State :=
  if !r.counted then s
  else
    let c := s.ctrl x
    match c.flight r.req.tag with
    | none => s
    | some f =>
      let n := c.session r.req.session
      let c1 := if f.noCredit then c
        else c.setSession r.req.session { n with free := if n.free < n.credits then n.free + 1 else n.free }
      let c2 := { c1.dropFlight r.req.tag with
        ports := { c1.ports with waitCfg := c1.ports.waitCfg.filter fun e => e.1 != r.req.tag } }
      let s1 := s.setCtrl x c2
      if r.op = 0x03 ∧ r.status = stOk then s1.closeSession x r.req.session 0xFFF
      else if r.op = 0x6A ∧ r.status = stOk ∧ bitOf (wordAt f.payload 0) 123 = true then
        s1.modCtrl x fun c => c.freeUnit r.req.session (fld (wordAt f.payload 0) 127 124)
      else s1

/-- REPLY_SEND: the oldest reply of a session leaves, in the order of formation with the session's events; `JOURNAL_VOLATILE` is
the controller's state as it leaves (R301). -/
def execReplySend (session : Nat) (s : State) : Host.Outcome State Fault Refusal :=
  .next (s.onActive fun x c =>
    let n := c.session session
    match n.replies with
    | [] => s
    | r :: rest =>
      if n.events.any (fun e => decide (e.order < r.order)) || !s.portReady x r.req.port then s
      else
        (((s.setCtrl x (c.setSession session { n with replies := rest })).emitOn x r.req.port
          (.message r.req.port r.req.ip r.req.udp (Reply.header { r with vol := c.logl.isVolatile }) r.words)).replyLeft x
            r).syncTags x)

/-- An event as it leaves: `EVENT` word 0 reports what was dropped, and the gap of a takeover. -/
def Session.eventWords (n : Session) (e : Event) : List Word :=
  match e.words with
  | w :: ws => if e.op = 0x80 then setFld (setFld w 103 103 (b2n n.gap)) 95 80 n.dropped :: ws else w :: ws
  | [] => []

/-- The header of an event. -/
def Session.eventHeader (n : Session) (session op : Nat) (vol : Bool) (ws : List Word) : Word :=
  sealHeader 1 (headerBare op session (headerFlags true vol false) 0xFFF ws.length n.evSeq 0 (genOf n.evPort)) ws

/-- EVENT_SEND: the oldest event of a session leaves. -/
def execEventSend (session : Nat) (s : State) : Host.Outcome State Fault Refusal :=
  .next (s.onActive fun x c =>
    let n := c.session session
    match n.events with
    | [] => s
    | e :: rest =>
      if !n.isOpen || n.replies.any (fun r => decide (r.order < e.order)) || !s.portReady x n.evPort then s
      else
        let ws := n.eventWords e
        let m : Session := { n with
          events := rest, evSeq := (n.evSeq + 1) % 65536, dropped := if e.op = 0x80 then 0 else n.dropped,
          gap := if e.op = 0x80 then false else n.gap }
        ((s.setCtrl x (c.setSession session m)).emitOn x n.evPort
          (.message n.evPort n.evIp n.evUdp (n.eventHeader session e.op c.logl.isVolatile ws) ws)).syncTags x)

end Sys2Proof.Machine
end

