-- ==== Sys2Proof/Machine/Samples.lean ====
section
/-! DEFINITION. SAMPLE_READ (R313, R314, R247, R248) and CAL_START (R254, R255): their checks, the conversions they request,
and the records that answer them. -/

namespace Sys2Proof.Machine

def srOpt (w : Word) : Nat := fld w 127 126
def srKind (w : Word) : Nat := fld w 125 124
def srGroups (w : Word) : Nat := fld w 123 108
def srChan (w : Word) : Nat := fld w 123 112

/-- The channel set of LATEST (R108). -/
def srSet (w : Word) : List Nat :=
  (entryChans (fld w 123 112) (fld w 111 80)).foldr insertOnce
    ((entryChans (fld w 79 68) (fld w 67 36)).foldr insertOnce [])

/-- The channels in TRIG of the trigger groups named, ascending. -/
def Ctrl.trigChans (c : Ctrl) (groups : Nat) : List Nat :=
  ((List.range 128).map fun i => 0x400 + i).filter fun ch =>
    loopMode (c.loopCfg ch) != 0 && convKind (c.convCfg ch) == 2 && nbit groups (fld (c.convCfg ch) 105 102)

/-- The checks of SAMPLE_READ, in order. -/
def checkSample (p : List Word) (c : Ctrl) : Nat :=
  let w := wordAt p 0
  let opt := srOpt w
  firstFail [
    (p.length != 1 || opt == 3 || decide (2 ≤ srKind w) || (opt == 0 && (srSet w).any fun ch => decide (0x480 ≤ ch)) ||
      (opt == 1 && srGroups w == 0) || (opt == 2 && !isLoop (srChan w)), stRange),
    ((opt == 1 && (c.trigChans (srGroups w)).isEmpty) || (opt == 2 && loopMode (c.loopCfg (srChan w)) == 0), stModeForbids)]

/-! ## LATEST -/

/-- One record of KIND 0. -/
def State.latestValue (s : State) (c : Ctrl) (ch : Nat) : Word × Ctrl :=
  let mt := (mtimeOf s c).toNat
  if isDigital ch then
    let (r, c1) := s.imageRec c c.defaultSource ch mt (fun _ => false) []
    (leaving r.word, c1)
  else
    match c.newestValue ch (2 ^ 64) with
    | some r => (leaving r.word, c)
    | none =>
      let (r, c1) := s.form c c.defaultSource ch 2 mt 0 []
      (leaving r.word, c1)

/-- The answer of LATEST: one record per channel, or the diagnostic records there are. -/
def answerLatest (p : List Word) (c : Ctrl) (s : State) : Ctrl × List Word :=
  let w := wordAt p 0
  if srKind w = 0 then
    (srSet w).foldl (fun (a : Ctrl × List Word) ch =>
      let (r, c1) := s.latestValue a.1 ch
      (c1, a.2 ++ [r])) (c, [])
  else (c, (srSet w).filterMap fun ch => (c.newestDiag ch).map fun r => leaving r.word)

/-! ## CONVERT and URGENT -/

/-- The links a list of loop channels stands on. -/
def linksOf (chs : List Nat) : List Nat := chs.foldr (fun ch l => insertOnce (linkOf ch) l) []

/-- The positions of a link's channels in a list, as a mask. -/
def posMask (link : Nat) (chs : List Nat) : Nat :=
  ((chs.filter fun ch => linkOf ch == link).map fun ch => 2 ^ pinOf ch).sum

/-- A conversion job noted, with its mirrored copy (R248, R373). -/
def State.addConv (s : State) (x : Side) (j : ConvJob) : State :=
  let s1 := s.modCtrl x fun c => { c with convs := c.convs ++ [j] }
  if s.isStandby x.other then s1.modCtrl x.other fun d => { d with convs := d.convs ++ [j] } else s1

/-- The effect of CONVERT and URGENT: the requests go to the pods, and the reply waits for the records. -/
def effectSample (x : Side) (q : Req) (p : List Word) (s : State) : State :=
  let w := wordAt p 0
  let c := s.ctrl x
  let chs := if srOpt w = 1 then c.trigChans (srGroups w) else [srChan w]
  let at_ := (mtimeOf s c).toNat + us 10
  let s1 := s.modCtrl x fun c => (linksOf chs).foldl (fun c l =>
    if srOpt w = 1 then c.sendRequest l 2 (posMask l chs) (srGroups w) at_ else c.sendRequest l 1 (posMask l chs) 0 0) c
  s1.addConv x { tag := q.tag, session := q.session, urgent := srOpt w == 2, chans := chs, written := [], recs := [],
                 dropped := false, at_ := if srOpt w = 1 then at_ else 0
                 reqs := (linksOf chs).map fun l => (l, (tget {} (s1.ctrl x).down l).reqNo) }

/-- A job that awaits the result of a channel whose decimator output is written at MTIME `mt`; `u` of an urgent conversion. A
triggered result from before the request's trigger does not answer it (R314). -/
def ConvJob.awaits (j : ConvJob) (ch : Nat) (u : Bool) (mt : Nat) : Bool :=
  j.urgent == u && j.chans.contains ch && !j.written.contains ch && decide (j.at_ ≤ mt)

/-- The write of a requested result is its request's commit point (R248). -/
def Ctrl.convWritten (c : Ctrl) (ch : Nat) (u : Bool) (mt : Nat) : Ctrl :=
  let hit := c.convs.filter fun j => j.awaits ch u mt
  { c with
    convs := c.convs.map fun j => if j.awaits ch u mt then { j with written := ch :: j.written } else j
    flights := c.flights.map fun f =>
      if hit.any fun j => j.tag == f.req.tag && !j.dropped then { f with passed := true } else f }

/-- One change at both controllers. -/
def State.modBoth (s : State) (f : Ctrl → Ctrl) : State := (s.modCtrl .a f).modCtrl .b f

/-- The same at both controllers, which both receive the record. -/
def State.convWritten (s : State) (ch : Nat) (u : Bool) : State :=
  s.modBoth fun c => c.convWritten ch u (mtimeOf s c).toNat

/-- The running conversion of a channel answers a request whose trigger was ignored (R243). -/
def State.convJoined (s : State) (link n ch : Nat) : State :=
  s.modBoth fun c => { c with
    convs := c.convs.map fun j => if j.reqs.contains (link, n) then { j with joined := ch :: j.joined } else j }

/-- Jobs that have every record: the ACTIVE controller answers them, and no copy stays. -/
def State.closeConvs (s : State) (x : Side) : State :=
  let done := (s.ctrl x).convs.filter fun j => j.chans.isEmpty
  if !(s.ctrl x).isActive then s
  else
    done.foldl (fun s j =>
      let drop := fun (c : Ctrl) => { c with convs := c.convs.filter fun k => k.tag != j.tag }
      let s1 := (s.modCtrl .a drop).modCtrl .b drop
      if j.dropped then s1 else s1.complete x j.tag stOk (j.recs.map fun r => r.2)) s

/-- The jobs that satisfy a condition await a channel no longer. -/
def Ctrl.convWithout (c : Ctrl) (ch : Nat) (which : ConvJob → Bool) : Ctrl :=
  { c with convs := c.convs.map fun j => if which j then { j with chans := j.chans.filter fun k => k != ch } else j }

/-- A result that a snapshot awaits: its record, or none (R419). -/
def Ctrl.snapTake (c : Ctrl) (ch : Nat) (w : Option Word) : Ctrl :=
  { c with rope := { c.rope with
      snaps := c.rope.snaps.map fun n =>
        if n.awaits.contains ch then
          { n with awaits := n.awaits.filter fun k => k != ch, recs := n.recs ++ (w.map leaving).toList }
        else n } }

/-- A conversion that ends without a result gives no record, at both controllers (R234, R314). -/
def State.convLost (s : State) (ch : Nat) (u : Bool) : State :=
  let f := fun (c : Ctrl) =>
    let c1 := c.convWithout ch fun j => j.awaits ch u (mtimeOf s c).toNat
    if u then c1 else c1.snapTake ch none
  let s1 := s.modBoth f
  (s1.closeConvs .a).closeConvs .b

/-- A request that its channel cannot follow gives no record (R314). -/
def State.convMissed (s : State) (link n ch : Nat) : State :=
  let s1 := s.modBoth fun c => (c.convWithout ch fun j => j.reqs.contains (link, n)).snapTake ch none
  (s1.closeConvs .a).closeConvs .b

/-- A job whose result a record of a channel is: written at its decimator, and not from before its trigger. -/
def ConvJob.takes (j : ConvJob) (ch at_ : Nat) : Bool := j.chans.contains ch && j.written.contains ch && decide (j.at_ ≤ at_ + 500)

/-- A primary record arrives for a channel, sampled at `at_`: the jobs whose result it is take it. -/
def Ctrl.convTake (c : Ctrl) (ch at_ : Nat) (w : Word) : Ctrl :=
  { c with
    convs := c.convs.map fun j =>
      if j.takes ch at_ then
        { j with
          chans := j.chans.filter fun k => k != ch
          recs := j.recs.takeWhile (fun r => decide (r.1 < ch)) ++ [(ch, leaving w)] ++
            j.recs.dropWhile fun r => decide (r.1 < ch) }
      else j }

/-- The record is that of a request an ABORT has won against, and of no other: it is not kept. A conversion that the request only
joined was another trigger's (R248). -/
def Ctrl.convDropped (c : Ctrl) (ch at_ : Nat) : Bool :=
  let hit := c.convs.filter fun j => j.takes ch at_
  (hit.all fun j => j.dropped) && hit.any fun j => !j.joined.contains ch

/-! ## CAL_START -/

/-- The loop pods a mask names. -/
def csPods (w : Word) : List Nat := (List.range 32).filter fun n => nbit (fld w 127 96) n

/-- The calibration word of a channel (R255). -/
def State.calWord (s : State) (ch : Nat) : Word :=
  let l := s.loop ch
  mkw [(127, 116, ch), (115, 114, l.calState), (113, 111, l.calResult), (103, 96, l.calTemp.toNat),
    (95, 80, l.priOff.toNat), (79, 64, l.rbOff.toNat), (63, 48, l.priGain.toNat), (47, 32, l.rbGain.toNat),
    (31, 16, l.calCount), (15, 0, if l.calCount = 0 then 0 else satAt 65535 ((s.now - l.calAt) / ms 1000))]

/-- The words of a skipped pod carry `CAL_STATE` 0. -/
def skippedWord (ch : Nat) : Word := mkw [(127, 116, ch)]

/-- The checks of CAL_START, in order: its own, then R62 with its condition e. -/
def checkCalStart (m : Mode) (p : List Word) (c : Ctrl) (s : State) : Nat :=
  let pods := csPods (wordAt p 0)
  let strict := m == .service || m == .recovery
  firstFail [
    (p.length != 1 || pods.isEmpty, stRange),
    (pods.any fun n => (s.pod (64 + n)).calPhase != 0, stBusy),
    (!strict && m != .commission && m != .maintain, stModeForbids),
    (strict && pods.any fun n => (linkChans (64 + n)).any c.namedByRunning, stBusy)]

/-- The effect of CAL_START: each powered pod is asked; a pod without VF is skipped and reported. -/
def effectCalStart (x : Side) (q : Req) (p : List Word) (s : State) : State :=
  (csPods (wordAt p 0)).foldl (fun s n =>
    let link := 64 + n
    if (s.pod link).powered then
      s.modCtrl x fun c => { c.sendRequest link 3 15 0 0 with calJobs := tset 0 c.calJobs link (q.session + 1) }
    else s.modCtrl x fun c => s.eventTo c q.session 0x0A n ((linkChans link).map skippedWord)) s

end Sys2Proof.Machine
end

