-- ==== Sys2Proof/Machine/Firmware.lean ====
section
/-! DEFINITION. Hitless update (R384 to R396): FW_STAGE, FW_SWAP and FW_ROLLBACK, sector erasure, migration, handover, tail drop
and soak. -/

namespace Sys2Proof.Machine

/-! ## Reports -/

/-- The spare slot's bytes written. -/
def Ctrl.staged (c : Ctrl) : Nat := match c.spare with | some b => (c.slot b).written | none => 0

/-- The update in progress as a STANDBY controller holds it beside its tag (R304, R373). -/
def State.syncUpdate (s : State) (x : Side) : State :=
  if s.isStandby x.other then s.modCtrl x.other fun d => { d with update := (s.ctrl x).update } else s

/-- The ACTIVE controller's update moves to a phase, and reports it (R396). -/
def State.fwPhase (s : State) (x : Side) (phase : Nat) (side : Side) (count : Nat) : State :=
  let s1 := (s.modCtrl x fun c => { c with update := { c.update with phase } }).syncUpdate x
  let u := (s1.ctrl x).update
  s1.fwEvent (u.op - 1) phase 0 0 side u.version count

/-- An update ends: its outcome is published and answers its tag. -/
def State.endUpdate (s : State) (x : Side) (outcome reason : Nat) (side : Side) (count : Nat) : State :=
  let u := (s.ctrl x).update
  let s1 := (s.modBoth fun c => { c with update := {} }).fwEvent (u.op - 1) 7 outcome reason side u.version count
  match u.tag with
  | some t => s1.complete x t stOk [s1.fwReport (u.op - 1) 7 outcome reason side u.version count]
  | none => s1

/-! ## FW_STAGE (R387, R388) -/

def fsOp (w : Word) : Nat := fld w 127 124
def fsArg (w : Word) : Nat := fld w 95 64
def fsVersion (w : Word) : Nat := fld w 63 32

/-- A staging runs on the ACTIVE controller. -/
def Ctrl.staging (c : Ctrl) : Bool := c.update.op == 1 && !c.update.erasing

/-- The checks of FW_STAGE. A controller pair without a spare slot each has nothing to stage into (DESIGN CHOICE, log entry
32). -/
def checkFwStage (x : Side) (p : List Word) (s : State) : Nat :=
  let w := wordAt p 0
  let c := s.ctrl x
  let a := fsArg w
  let op := fsOp w
  let data := 16 * (p.length - 1)
  firstFail [
    (p.length == 0 || decide (4 ≤ op) || (op == 1 && p.length == 1) || (op != 1 && p.length != 1), stRange),
    (op == 0 && (a == 0 || a % 16 != 0 || decide (16777216 < a)), stRange),
    (op == 0 && (!s.isStandby x.other || c.update.op != 0), stBusy),
    (op == 0 && (s.ctrlA.spare.isNone || s.ctrlB.spare.isNone), stModeForbids),
    (op == 1 && (!c.staging || a != c.staged || decide (c.update.length < a + data)), stRange),
    (op == 2 && (!c.staging || c.staged != c.update.length), stRange)]

/-- The NOR address of a slot (R457). -/
def slotBase (one : Bool) : Nat := if one then 16777216 else 0

/-- BEGIN: both spare slots go to STAGING, and the first sectors are being erased. -/
def State.stageBegin (s : State) (x : Side) (q : Req) (len : Nat) : State :=
  let blank : Slot := { state := 1, version := 0, length := 0, crc := 0, schema := 0, written := 0 }
  let s1 := s.modBoth fun c => (c.markSpare fun _ => blank).suspendDog s.now
  let u : Update :=
    { op := 1, tag := some q.tag, leftA := 256, leftB := 256, length := len, erasing := true }
  (s1.modCtrl x fun c => { c with update := u }).fwPhase x 0 x 0

/-- Data written to the spare slot of one controller. -/
def Ctrl.stageData (c : Ctrl) (off : Nat) (bs : List Byte) : Ctrl :=
  match c.spare with
  | some b =>
    { c.setSlot b { c.slot b with written := off + bs.length } with nor := memStore norEmpty c.nor (slotBase b + off) bs }
  | none => c

/-- The bytes staged in one controller. -/
def Ctrl.stagedBytes (c : Ctrl) (len : Nat) : List Nat :=
  match c.spare with
  | some b => (List.range len).map fun i => (memByte norEmpty c.nor (slotBase b + i)).toNat
  | none => []

/-- END: both slots verified. The header's settings schema comes from the image itself, which the model does not interpret. -/
def State.stageEnd (s : State) (x : Side) (q : Req) (w : Word) : State :=
  let len := (s.ctrl x).update.length
  let good := fun (c : Ctrl) => crcOf 3 (c.stagedBytes len) == fsArg w
  let ok := good s.ctrlA && good s.ctrlB
  let (v, s1) := s.draw
  let s2 := s1.modBoth fun c => c.markSpare fun sl =>
    { sl with
      state := if ok then 2 else 6, version := BitVec.ofNat 32 (fsVersion w), length := len,
      crc := BitVec.ofNat 32 (fsArg w), schema := BitVec.ofNat 16 v }
  (s2.modCtrl x fun c =>
    { c with update := { c.update with tag := some q.tag, version := BitVec.ofNat 32 (fsVersion w) } }).endUpdate x
      (if ok then 1 else 6) 0 x len

/-- The slots in STAGING take a state, and their erasures stop. -/
def State.stopStaging (s : State) (state : Nat) : State :=
  let s1 := s.modBoth fun c =>
    let f := fun (sl : Slot) => if sl.state = 1 then { sl with state } else sl
    { c with slot0 := f c.slot0, slot1 := f c.slot1 }
  (s1.endSuspension .a).endSuspension .b

/-- A staging ends under R388: both spare slots are INVALID, and a BEGIN that waits is answered. -/
def State.endStaging (s : State) (x : Side) : State :=
  let c := s.ctrl x
  if c.update.op = 1 then
    let s1 := s.stopStaging 6
    (if c.update.erasing then s1 else s1.modCtrl x fun c => { c with update := { c.update with tag := none } }).endUpdate x 5 0 x
      c.staged
  else s

/-- The partner has left STANDBY: a staging ends. -/
def State.tendStaging (s : State) : State :=
  s.onActive fun x _ => if s.isStandby x.other then s else s.endStaging x

/-- DISCARD: both spare slots EMPTY. -/
def State.stageDiscard (s : State) (x : Side) (q : Req) : State :=
  let c := s.ctrl x
  let n := c.staged
  let s1 := ((s.endSuspension .a).endSuspension .b).modBoth fun c => c.markSpare fun sl => { sl with state := 0, written := 0 }
  if c.update.op = 1 then
    let s2 := if c.update.erasing then
        match c.update.tag with
        | some t => s1.complete x t stOk [s1.fwReport 0 7 5 0 x 0 n]
        | none => s1
      else s1
    (s2.modCtrl x fun c => { c with update := { c.update with tag := some q.tag } }).endUpdate x 5 0 x n
  else s1.complete x q.tag stOk [s1.fwReport 0 7 5 0 x 0 n]

/-- The effect of FW_STAGE; every operation but BEGIN is answered in the same step. -/
def effectFwStage (x : Side) (q : Req) (p : List Word) (s : State) : State :=
  let w := wordAt p 0
  match fsOp w with
  | 0 => s.stageBegin x q (fsArg w)
  | 1 =>
    let bs := ((p.drop 1).flatMap wordBytes).map (BitVec.ofNat 8)
    let s1 := s.modBoth fun c => c.stageData (fsArg w) bs
    s1.complete x q.tag stOk [s1.fwReport 0 0 0 0 x 0 (s1.ctrl x).staged]
  | 2 => s.stageEnd x q w
  | _ => s.stageDiscard x q

/-- An ABORT that wins against BEGIN: both erasures stop and both spare slots are EMPTY (R388). -/
def State.abortStaging (s : State) (x : Side) : State :=
  (s.stopStaging 0).modCtrl x fun c => { c with update := {} }

/-- The next sector of a slot is being erased: its core is not still to answer the window after the last one. -/
def Ctrl.erases (c : Ctrl) : Bool := !(c.dog.st == 0 && c.dog.needGood && !c.hostServed)

/-- SECTOR_ERASE_DONE: a sector reads erased, the suspension ends, and the last of both controllers answers BEGIN. -/
def execSectorEraseDone (x : Side) (s : State) : Host.Outcome State Fault Refusal :=
  .next (s.onActive fun a c =>
    let n := c.update.left x
    if n = 0 || !(s.ctrl x).erases then s
    else
      let s1 := s.modCtrl x fun d =>
        match d.spare with
        | some b =>
          let lo := slotBase b + (256 - n) * 65536
          { d with nor := d.nor.filter fun e => decide (e.1 < lo) || decide (lo + 65536 ≤ e.1) }
        | none => d
      let s2 := s1.modCtrl a fun c =>
        { c with update := match x with
            | .a => { c.update with leftA := n - 1 }
            | .b => { c.update with leftB := n - 1 } }
      let s3 := s2.endSuspension x
      let u := (s3.ctrl a).update
      if u.leftA = 0 ∧ u.leftB = 0 then
        let s4 := (s3.modCtrl a fun c => { c with update := { c.update with erasing := false } }).syncUpdate a
        match u.tag with
        | some t => s4.complete a t stOk [s4.fwReport 0 0 0 0 a 0 0]
        | none => s4
      else s3)

/-! ## FW_SWAP (R389 to R394) -/

/-- The controller's running slot is TRIAL. -/
def Ctrl.onTrial (c : Ctrl) : Bool := (c.slot c.running1).state == 3
/-- The spare slot is STAGED. -/
def Ctrl.hasStaged (c : Ctrl) : Bool := match c.spare with | some b => (c.slot b).state == 2 | none => false
/-- A mode change or a sleep agreement is in progress. -/
def Ctrl.changing (c : Ctrl) : Bool := c.modeNext.isSome || c.rope.sleepSt != 0

/-- The checks of FW_SWAP, in order. -/
def checkFwSwap (x : Side) (p : List Word) (s : State) : Nat :=
  let c := s.ctrl x
  firstFail [
    (p.length != 1 || decide (3600 < fld (wordAt p 0) 127 112), stRange),
    (!(s.ctrlA.hasStaged && s.ctrlB.hasStaged) && !(s.ctrlA.onTrial && s.ctrlB.onTrial), stModeForbids),
    (!s.isStandby x.other || c.update.op != 0 || c.changing, stBusy)]

/-- Acceptance: TRIAL becomes FROG, and the former FROG PREVIOUS (R394). -/
def Ctrl.accept (c : Ctrl) : Ctrl :=
  let f := fun (sl : Slot) => if sl.state = 3 then { sl with state := 4 } else if sl.state = 4 then { sl with state := 5 } else sl
  if c.slot0.state = 3 ∨ c.slot1.state = 3 then { c with slot0 := f c.slot0, slot1 := f c.slot1, trial := false } else c

/-- The STAGED slot of a controller goes on trial, and the controller restarts into it. -/
def State.tryStaged (s : State) (x : Side) (u : Update) : State :=
  match (s.ctrl x).spare with
  | some b => (s.modCtrl x fun c => c.setSlot b { c.slot b with state := 3 }).restartInto x b u
  | none => s.restart x 5

/-- The slot a rollback boots: FROG from a TRIAL, else PREVIOUS, else the one that runs (R395). -/
def Ctrl.rollbackSlot (c : Ctrl) : Bool :=
  if c.onTrial then (c.slotIn 4).getD c.running1 else (c.slotIn 5).getD c.running1

/-- A controller restarts into the slot its sequence names. -/
def State.seqRestart (s : State) (x : Side) (u : Update) : State :=
  if u.op = 2 then s.tryStaged x u else s.restartInto x (s.ctrl x).rollbackSlot u

/-- A swap or rollback begins: the partner restarts. -/
def State.beginSeq (s : State) (x : Side) (u : Update) : State :=
  let s1 := (s.modCtrl x fun c => { c with update := u }).fwPhase x 0 x 0
  (s1.seqRestart x.other u).fwPhase x 1 x.other 0

/-- The effect of FW_SWAP. -/
def effectFwSwap (x : Side) (q : Req) (p : List Word) (s : State) : State :=
  let c := s.ctrl x
  let soak := fld (wordAt p 0) 127 112
  if c.hasStaged then
    let v := match c.spare with | some b => (c.slot b).version | none => 0
    s.beginSeq x { op := 2, tag := some q.tag, soak, since := s.now, version := v }
  else
    let u : Update := { op := 2, tag := some q.tag, version := (c.slot c.running1).version }
    ((s.modBoth Ctrl.accept).modCtrl x fun c => { c with update := u }).endUpdate x 1 0 x 0

/-- The checks of FW_ROLLBACK, in order. A rollback during the soak of a swap is not refused for that swap. -/
def checkFwRollback (x : Side) (p : List Word) (s : State) : Nat :=
  let c := s.ctrl x
  let has := fun (c : Ctrl) => (c.slotIn 5).isSome || (c.slotIn 3).isSome
  firstFail [
    (p.length != 0, stRange),
    (!has s.ctrlA && !has s.ctrlB, stModeForbids),
    (!s.isStandby x.other || (c.update.op != 0 && !(c.update.op == 2 && c.update.phase == 6)), stBusy)]

/-- The effect of FW_ROLLBACK. -/
def effectFwRollback (x : Side) (q : Req) (s : State) : State :=
  let s1 := if (s.ctrl x).update.op = 2 then s.endUpdate x 3 0 x 0 else s
  let c := s1.ctrl x
  s1.beginSeq x
    { op := 3, tag := some q.tag, since := s.now, version := (c.slot c.rollbackSlot).version }

/-! ## Settings areas (R391, R466) -/

/-- The header of an area: schema, state, version, entry. -/
def areaHeader (schema : BitVec 16) (state : Nat) (version : BitVec 32) (entry : Nat) : Word :=
  mkw [(127, 112, schema.toNat), (111, 108, state), (95, 64, version.toNat), (63, 32, entry)]

/-- The running area's state replaced. -/
def Ctrl.markArea (c : Ctrl) (state : Nat) : Ctrl :=
  c.writeKeep (c.areaAt 0) (setFld (setFld (c.keepWord (c.areaAt 0)) 111 108 state) 63 32 c.logl.newest)

/-- The tadpole that now migrates: the partner of the ACTIVE controller, on trial, its image not yet reported good. -/
def State.migrates (s : State) (x : Side) : Bool :=
  match s.active with
  | some a => (s.ctrl a).update.op == 2 && x == a.other && (s.ctrl x).running && (s.ctrl x).trial && !(s.ctrl x).imageOk
  | none => false

/-- SETTINGS_MIGRATION_END: the converted words stand in the tadpole's area, VALID last, and `IMAGE_OK` is set. -/
def execSettingsMigrationEnd (x : Side) (converted : List (Nat × Word)) (s : State) : Host.Outcome State Fault Refusal :=
  if s.migrates x then
    let s1 := s.modCtrl x fun c =>
      let ws := (converted.filter fun p => decide (0 < p.1) && decide (p.1 < 0x800)).map fun p =>
        (c.areaAt p.1, storedSetting p.1 p.2)
      let sl := c.slot c.running1
      { (c.writeGroup ws).writeKeep (c.areaAt 0) (areaHeader sl.schema 1 sl.version c.logl.newest) with imageOk := true }
    .next (s1.onActive fun a c => if c.update.phase < 3 then s1.fwPhase a 3 x 0 else s1)
  else .next s

/-! ## Handover (R392, R484) -/

/-- Every running duty is quiescent as a pause leaves it: no execution is queued or in progress. -/
def Ctrl.quiet (c : Ctrl) : Bool := c.runningDuties.all fun p => !p.2.busy

/-- The stage state of every running duty, with what else is mirrored, sent whole. -/
def State.sendAll (s : State) (x : Side) : State :=
  let c := s.ctrl x
  ((s.modCtrl x.other fun d =>
    { d with
      image := c.image, mode := c.mode, modeBefore := c.modeBefore
      duties := c.duties.foldl (fun t p => tset {} t p.1 { p.2 with busy := false, restart := false }) [] }).syncTags x)

/-- HANDOVER: the holder pauses, and once its duties are quiescent it sends their state and sets `YIELD`. In a swap the area of
its frog slot is frozen; under COMPAT the swap then awaits the claim. -/
def execHandover (s : State) : Host.Outcome State Fault Refusal :=
  .next (s.onActive fun x c =>
    let seq := decide (2 ≤ c.update.op) && (c.update.phase == 3 || c.update.phase == 4)
    if !(seq || c.dbg.st == 2) || !s.isStandby x.other || !(s.ctrl x.other).mirrorOk || c.yieldSet then s
    else
      let s1 := s.modCtrl x fun c => { c with pausing := true }
      let s2 := if seq && c.update.phase == 3 then s1.fwPhase x 4 x 0 else s1
      if !(s2.ctrl x).quiet then s2
      else
        let s3 := s2.sendAll x
        let s4 := s3.modCtrl x fun c => { if seq && c.update.op == 2 then c.markArea 3 else c with yieldSet := true }
        if seq && s.compat then
          (s4.modCtrl x fun c => { c with update := { c.update with claimAt := s.now } }).fwPhase x 8 x 0
        else s4)

/-! ## Tail drop (R393) -/

/-- A tadpole restarts into its frog: its slot is INVALID and the area it was writing empty; the swap ends. -/
def State.tailDrop (s : State) (x : Side) (reason : Nat) : State :=
  let s1 := s.modCtrl x fun c => (c.setSlot c.running1 { c.slot c.running1 with state := 6 }).markArea 0
  let s2 := (s1.restart x 5).modCtrl x fun c => { c with running1 := (c.slotIn 4).getD c.running1 }
  s2.onActive fun a c => if 2 ≤ c.update.op then s2.endUpdate a 2 reason x 0 else s2

/-- A controller on trial in a sequence that has not yet ended, and that does not hold the tether. -/
def State.tadpole (s : State) (x : Side) : Bool :=
  match s.active with
  | some a => (s.ctrl a).update.op == 2 && x == a.other && (s.ctrl x).onTrial && decide ((s.ctrl a).update.phase < 6)
  | none => false

/-- TAIL_DROP. -/
def execTailDrop (x : Side) (reason : Nat) (s : State) : Host.Outcome State Fault Refusal :=
  if s.tadpole x && decide (1 ≤ reason) && decide (reason ≤ 6) then .next (s.tailDrop x reason) else .next s

/-- TADPOLE_TIMEOUT: not STANDBY within 10 s of its restart. -/
def execTadpoleTimeout (x : Side) (s : State) : Host.Outcome State Fault Refusal :=
  .next (s.onActive fun _ c =>
    if s.tadpole x && !s.isStandby x && decide (c.update.since + ms 10000 ≤ s.now) then s.tailDrop x 6 else s)

/-- CLAIM_TIMEOUT: 600 s without the claim; the swap ends and P restarts into its frog. -/
def execClaimTimeout (s : State) : Host.Outcome State Fault Refusal :=
  .next (s.onActive fun x c =>
    if c.update.phase = 8 ∧ c.update.claimAt + ms 600000 ≤ s.now then
      let s1 := (s.modCtrl x fun c => { c.unpause with yieldSet := false }).endUpdate x 4 0 x.other 0
      (s1.restart x.other 5).modCtrl x.other fun c => { c with running1 := (c.slotIn 4).getD c.running1 }
    else s)

/-- SOAK_END: both controllers accept. -/
def execSoakEnd (s : State) : Host.Outcome State Fault Refusal :=
  .next (s.onActive fun x c =>
    if c.update.op = 2 ∧ c.update.phase = 6 ∧ c.update.soakEnd ≤ s.now ∧ s.ctrlA.onTrial = true ∧ s.ctrlB.onTrial = true then
      (s.modBoth Ctrl.accept).endUpdate x 1 0 x 0
    else s)

/-- The partner has its copy again: after the second restart a swap soaks, and a rollback is complete (R390, R395). -/
def State.seqCopied (s : State) (x : Side) : State :=
  s.onActive fun a c =>
    let u := c.update
    if u.phase = 5 ∧ x = a.other then
      if u.op = 2 then
        (s.modCtrl a fun c => { c with update := { c.update with soakEnd := s.now + ms (1000 * u.soak) } }).fwPhase a 6 a u.soak
      else if u.op = 3 then
        let back := fun (c : Ctrl) =>
          let f := fun (one : Bool) (sl : Slot) =>
            if c.running1 = one then { sl with state := 4 } else if sl.state = 4 ∨ sl.state = 3 then { sl with state := 2 } else sl
          { c with slot0 := f false c.slot0, slot1 := f true c.slot1, trial := false }.markArea 1
        (s.modBoth back).endUpdate a 1 0 a 0
      else s
    else s

end Sys2Proof.Machine
end

