-- ==== Sys2Proof/Machine/Modes.lean ====
section
/-! DEFINITION. Module modes (chapter 02): the transitions of R44, entry into a mode, MODE_REQUEST (R49 to R51), escalation
(R448) and the end of CALIBRATE (R44, R45). -/

namespace Sys2Proof.Machine

/-! ## The transitions that MODE_REQUEST may ask for (R44) -/

/-- A transition of the table of R44 with the trigger `MODE_REQUEST`. -/
def canChange : Mode → Mode → Bool
  | .commission, .service | .commission, .maintain | .commission, .safeHold => true
  | .service, .commission | .service, .safeHold => true
  | .recovery, .service | .recovery, .commission | .recovery, .safeHold => true
  | .safeHold, .maintain | .safeHold, .recovery => true
  | .maintain, .commission | .maintain, .safeHold => true
  | _, _ => false

/-- The guard "no fault episode open". -/
def guardEpisode : Mode → Mode → Bool
  | .safeHold, .recovery | .recovery, .service | .recovery, .commission => true
  | _, _ => false

/-- The guard "no `TEST_DRIVE` active". -/
def guardTest : Mode → Mode → Bool
  | .commission, .service | .maintain, .commission => true
  | _, _ => false

/-- The mode left by every change committed so far (R51). -/
def Ctrl.modeLeft (c : Ctrl) : Mode := match c.modeNext with | some m => m.target | none => c.mode

/-- Another mode change, a firmware swap or a sleep agreement is in progress. -/
def Ctrl.modeBusy (c : Ctrl) : Bool := c.changing || c.update.op == 2

/-- The mode code a MODE_REQUEST names. -/
def mrMode (p : List Word) : Nat := fld (wordAt p 0) 127 124

/-- The checks of MODE_REQUEST, in order (R49). -/
def checkModeRequest (p : List Word) (c : Ctrl) : Nat :=
  if p.length ≠ 1 then stRange
  else
    match modeOf (mrMode p) with
    | none => stRange
    | some n =>
      let m := c.modeLeft
      if n = m then stOk
      else firstFail [
        (n == .boot || n == .calibrate || n == .dormant, stModeForbids),
        (!canChange m n, stModeForbids),
        (guardEpisode m n && c.faults.episode.isOpen, stModeForbids),
        (c.modeBusy, stBusy),
        (guardTest m n && c.anyTest, stBusy)]

/-! ## Entry into a mode -/

/-- Running duties are suspended, their state kept (R48). An execution in progress runs to its release first, and no point fires
meanwhile (R139). A firing that waits creates no execution (DESIGN CHOICE, log entry 99). -/
def Ctrl.suspendDuties (c : Ctrl) : Ctrl :=
  c.runningDuties.foldl (fun c p => c.modDuty p.1 fun d =>
    if d.busy then { d with drain := true, waiting := none } else { d with st := 3, waiting := none }) c

/-- Suspended duties run again at their next angle point (R48). -/
def Ctrl.resumeDuties (c : Ctrl) : Ctrl :=
  (c.duties.filter fun p => p.2.st == 3 || p.2.drain).foldl (fun c p => c.modDuty p.1 fun d => { d with st := 2, drain := false }) c

/-- Every downlink sends its output image (R39, R270). -/
def Ctrl.markAll (c : Ctrl) : Ctrl :=
  (List.range 96).foldl (fun c l => { c with down := tmod {} c.down l fun d => { d with outNew := true, outSent := [] } }) c

/-- The outputs of the module on entry into SAFE_HOLD or DORMANT: tests end, and every output takes its safe value (R39,
R317). -/
def State.goSafe (s : State) (c : Ctrl) : Ctrl := ((s.endTests c 2 fun _ => true).allSafe s.now).markAll

/-- Duties and outputs of the ACTIVE controller as a mode begins (R37, R39, R48). -/
def State.enterDuties (s : State) (before n : Mode) (c : Ctrl) : Ctrl :=
  let c1 := if before = .dormant then c.resumeDuties else c
  match n with
  | .safeHold => s.goSafe (s.safeStops c1)
  | .dormant => (s.goSafe c1).suspendDuties
  | _ => c1

/-- The host watchdogs stop in DORMANT and start again after it (R442). -/
def State.hostDogsIn (s : State) (x : Side) (before n : Mode) : State :=
  let run := ((s.ctrl x).hostDogs.filter fun p => p.2.state == 1).map fun p => p.1
  if n = .dormant then
    s.modCtrl x fun c => run.foldl (fun c i =>
      let d := c.hostDog i
      c.setHostDog i { d with dog := { d.dog with st := 3, isPending := false } }) c
  else if before = .dormant then run.foldl (fun s i => s.startHostDog x i) s
  else s

/-- The supervisor watchdog served by a host is STOPPED in DORMANT, and starts on leaving CALIBRATE or DORMANT (R437). -/
def State.servedDogIn (s : State) (x : Side) (before n : Mode) : State :=
  let c := s.ctrl x
  if !c.hostServed || c.dog.st == 1 then s
  else if n = .dormant then s.modCtrl x fun c => { c with dog := { c.dog with st := 3 } }
  else if before = .calibrate ∨ before = .dormant then s.startDog x
  else s

/-- The watchdogs as a mode begins: disabled ones run again outside COMMISSION and MAINTAIN (R439). -/
def State.dogsIn (s : State) (x : Side) (before n : Mode) : State :=
  let s1 := if n = .commission ∨ n = .maintain then s else s.enableDogs
  (s1.servedDogIn x before n).hostDogsIn x before n

/-- Queued sends that end as a mode begins (R228). -/
def State.fskIn (s : State) (x : Side) (n : Mode) : State :=
  match n with
  | .safeHold => s.fskAborts x (s.ctrl x).multidrop
  | .dormant => s.fskAborts x fun _ => true
  | _ => s

/-- The ACTIVE controller changes the module mode: what ends with the mode it leaves, what begins with the new one, and the
MODE event to every open session (R36 to R39, R50, R219, R320). -/
def State.enterMode (s : State) (x : Side) (n : Mode) (cause tag session : Nat) : State :=
  let before := (s.ctrl x).mode
  let s1 := (s.endArm x 5).fskIn x n
  let s2 := s1.modCtrl x fun c =>
    s1.enterDuties before n { c with mode := n, modeBefore := if n = .dormant then before else c.modeBefore }
  let s3 := s2.dogsIn x before n
  let s4 := if n = .safeHold ∨ n = .recovery then s3.endStaging x else s3
  let s5 := s4.modCtrl x fun c => s4.eventAll c 0x01 0 [modeWord before n cause tag session]
  (s5.syncImage x).syncDuties x ((s5.ctrl x).duties.map fun p => p.1)

/-- A change without a message: its HW_MODE entry, then the mode (R298). -/
def State.hwEnter (s : State) (x : Side) (n : Mode) (cause : Nat) : State :=
  (s.hwMode x (s.ctrl x).mode n cause).enterMode x n cause 0xFFF 0

/-! ## MODE_REQUEST (R50, R51) -/

/-- The reply word of R311. -/
def modeReply (before after : Mode) (at_ : Nat) : Word := mkw [(127, 124, modeCode before), (123, 120, modeCode after), (63, 0, at_)]

/-- The change committed, here and in the mirrored data set. -/
def State.setModeNext (s : State) (x : Side) (m : Option ModeChange) : State :=
  let s1 := s.modCtrl x fun c => { c with modeNext := m }
  if s.isStandby x.other then s1.modCtrl x.other fun d => { d with modeNext := m } else s1

/-- The effect of MODE_REQUEST at its commit: naming the current mode answers at once; another waits for the next downlink
frame boundary. -/
def effectModeRequest (x : Side) (q : Req) (p : List Word) (s : State) : State × Option (List Word) :=
  let m := (s.ctrl x).modeLeft
  match modeOf (mrMode p) with
  | none => (s, none)
  | some n =>
    if n = m then (s, some [modeReply m m 0])
    else (s.setModeNext x (some { target := n, tag := q.tag, session := q.session }), none)

/-- The committed change takes effect, with its reply and then its events (R50); `safe` that SAFE_HOLD follows it at once (R51). -/
def State.takeModeNext (s : State) (x : Side) (safe : Bool) : State :=
  match (s.ctrl x).modeNext with
  | none => s
  | some m =>
    let after := if safe then .safeHold else m.target
    let s1 := (s.setModeNext x none).modCtrl x fun c => c.finish m.tag stOk [modeReply c.mode after (mtimeOf s c).toNat]
    (s1.enterMode x m.target 0 m.tag m.session).syncTags x

/-! ## Escalation (R448) -/

/-- The module enters SAFE_HOLD by hardware: at once in the running modes, after a committed change of mode; at the end of
CALIBRATE, and through the wake from DORMANT. -/
def State.escalateMode (s : State) (x : Side) : State :=
  let s1 := s.takeModeNext x true
  match (s1.ctrl x).mode with
  | .commission | .service | .recovery | .maintain => s1.hwEnter x .safeHold 1
  | .calibrate => s1.modCtrl x fun c => { c with escPending := true }
  | .dormant => s1.modCtrl x fun c => { c with escPending := true, rope := { c.rope with wakeSeen := true } }
  | .boot | .safeHold => s1

/-- The first source lies inside a controller, and that controller holds the tether. -/
def State.failsOver (s : State) (x : Side) : Bool :=
  let e := (s.ctrl x).faults.episode
  e.inside && e.side == x && s.holder == some x

/-- The episode is marked as escalated. -/
def Ctrl.markEscalated (c : Ctrl) (failover : Bool) : Ctrl :=
  let e := c.faults.episode
  { c with
    failReq := c.failReq || failover,
    faults := { c.faults with episode := { e with escalated := true, failover := failover } } }

/-- The reaction timer expires with the episode open. A soak ends with the escalation (R394). -/
def State.escalate (s : State) (x : Side) : State :=
  let f := s.failsOver x
  let s1 := (s.modCtrl x fun c => c.markEscalated f).escalateMode x
  let c := s1.ctrl x
  let s2 := ((s1.setCtrl x (s1.faultEvent c 1 c.faults.episode.side c.faults.episode.first c.faults.episode.first)).syncEpisode x).syncImage x
  if c.update.op = 2 ∧ c.update.phase = 6 then s2.endUpdate x 3 0 x 0 else s2

/-- The episode is open, not yet escalated, and its timer has expired. -/
def Ctrl.reactOver (c : Ctrl) (now : Nat) : Bool :=
  let e := c.faults.episode
  e.isOpen && !e.escalated && decide (e.started + ticksNs (32 * e.react) ≤ now)

/-! ## The end of CALIBRATE (R44, R45) -/

/-- Every powered loop pod has finished a self-calibration begun since entry, or 1,300 ms have passed since entry. -/
def State.calOver (s : State) (c : Ctrl) : Bool :=
  decide (c.calEnter + ms 1300 ≤ s.now) ||
    (List.range 32).all fun n =>
      let l := 64 + n
      !(s.pod l).powered || ((s.pod l).calPhase == 0 && decide (c.calEnter ≤ (s.pod l).calStart) && ((linkChans l).all fun ch => decide (2 ≤ (s.loop ch).calState)) &&
        !(tget {} c.down l).items.any fun i => i.request && i.sub == 3)

/-- The module leaves CALIBRATE: the start-up hold path releases FAULT_N and the conversion grid takes its origin (R238). -/
def State.leaveCalibrate (s : State) (x : Side) (n : Mode) (cause : Nat) : State :=
  let g := s.clock (s.ctrl x)
  let s1 := { s with startHold := false }.modCtrl x fun c => { c with escPending := false, time := { c.time with grid := g } }
  s1.hwEnter x n cause

/-- The rows of R44 that start in CALIBRATE. -/
def State.endCalibrate (s : State) (x : Side) : State :=
  let c := s.ctrl x
  if c.mode ≠ .calibrate ∨ s.calOver c = false then s
  else if c.escPending then s.leaveCalibrate x .safeHold 1
  else if c.faults.episode.isOpen then s
  else s.leaveCalibrate x (if s.safeBoot then .maintain else c.startMode) 2

/-- CALIBRATE_END. -/
def execCalibrateEnd (s : State) : Host.Outcome State Fault Refusal := .next (s.onActive fun x _ => s.endCalibrate x)

end Sys2Proof.Machine
end

