-- ==== Sys2Proof/Machine/Faults.lean ====
section
/-! DEFINITION. Faults (R445 to R456): FAULT_READ, FAULT_ACK, FAULT_PIN_RELEASE, raises, the reaction timer, the hold of
FAULT_N, resets that follow a raise, the logline's failure (R301), and injection. -/

namespace Sys2Proof.Machine

/-! ## FAULT_READ (R451) -/

/-- The episode word. -/
def Collector.episodeWord (f : Collector) : Word :=
  let e := f.episode
  mkw [(127, 127, b2n e.isOpen), (126, 126, b2n e.escalated), (125, 125, b2n e.overflow), (124, 124, b2n e.injected),
    (123, 118, e.first), (117, 117, sideCode e.side), (116, 116, b2n e.failover), (115, 106, e.react),
    (105, 105, b2n f.pinHeld), (95, 64, e.number.toNat), (63, 0, e.openTime.toNat)]

/-- The controller word of `y`; an unreachable one reads 0 but for its side. -/
def State.faultCtrlWord (s : State) (y : Side) (reachable : Bool) : Word :=
  let c := s.ctrl y
  if reachable then
    mkw [(127, 127, sideCode y), (126, 126, 1), (125, 124, c.dog.st), (123, 123, b2n c.clkInUse), (122, 122, b2n c.lock),
      (121, 116, c.faults.last), (115, 112, c.resetCause), (111, 96, fld (c.keepWord 1) 15 0),
      (95, 80, c.dog.badWindows), (79, 64, c.dog.suspends)]
  else mkw [(127, 127, sideCode y)]

/-- The partner of `x` is reachable: out of reset, and the splice is up. -/
def State.partnerSeen (s : State) (x : Side) : Bool :=
  !(s.ctrl x.other).inReset && (s.ctrl x).spliceUp && (s.ctrl x.other).spliceUp

/-- FAULT_READ. -/
def answerFaultRead (x : Side) (p : List Word) (s : State) : Nat × List Word :=
  if p.length ≠ 0 then (stRange, [])
  else
    (stOk, [(s.ctrl x).faults.episodeWord, s.faultCtrlWord .a (x == .a || s.partnerSeen x),
      s.faultCtrlWord .b (x == .b || s.partnerSeen x)])

/-! ## FAULT_ACK and FAULT_PIN_RELEASE (R448 to R450, R452) -/

def faSource (p : List Word) : Nat := fld (wordAt p 0) 127 122

/-- The checks of FAULT_ACK. -/
def checkFaultAck (p : List Word) (c : Ctrl) : Nat :=
  if p.length ≠ 1 ∨ c.faults.episode.isOpen = false ∨ faSource p ≠ c.faults.episode.first then stRange else stOk

/-- The hold of the pin after a close: `PIN_AUTO` releases it, but not within its 10 ms. -/
def Ctrl.autoPin (c : Ctrl) : Ctrl :=
  if bitOf c.faultCfg 117 && !c.faults.pinMin && !c.faults.episode.isOpen then
    { c with faults := { c.faults with pinHeld := false } }
  else c

/-- The close of an episode. -/
def Ctrl.closeEpisode (c : Ctrl) (now : Nat) : Ctrl :=
  { c with faults := { c.faults with episode := { c.faults.episode with isOpen := false, closedAt := now } } }.autoPin

/-- The effect of FAULT_ACK. An episode whose timer has expired by now escalates first; the end of a stay in CALIBRATE may
follow. -/
def effectFaultAck (x : Side) (s : State) : State × List Word :=
  let s0 := if (s.ctrl x).reactOver s.now then s.escalate x else s
  let c := (s0.ctrl x).closeEpisode s.now
  let e := c.faults.episode
  let s1 := (s0.setCtrl x (s0.faultEvent c 2 e.side e.first e.first)).syncEpisode x
  (s1.endCalibrate x, [c.faults.episodeWord])

/-- The checks of FAULT_PIN_RELEASE. -/
def checkPinRelease (now : Nat) (p : List Word) (c : Ctrl) : Nat :=
  firstFail [
    (p.length != 0, stRange),
    (c.faults.episode.isOpen || (c.faults.episode.number != 0 && decide (now < c.faults.pinAt + ms 10)), stBusy)]

/-- The effect of FAULT_PIN_RELEASE. -/
def effectPinRelease (x : Side) (s : State) : State :=
  s.modCtrl x fun c => { c with faults := { c.faults with pinHeld := false, pinMin := false } }

/-- FAULT_PIN_MIN_HOLD: 10 ms after the assertion. -/
def execFaultPinMinHold (s : State) : Host.Outcome State Fault Refusal :=
  .next (s.onActive fun x c =>
    if c.faults.pinMin && decide (c.faults.pinAt + ms 10 ≤ s.now) then
      s.setCtrl x { c with faults := { c.faults with pinMin := false } }.autoPin
    else s)

/-! ## Raises, the timer and the resets that follow -/

/-- FAULT_RAISE (R445 to R447). -/
def execFaultRaise (x : Side) (source : Nat) (injected : Bool) (s : State) : Host.Outcome State Fault Refusal :=
  .next (s.raise x source injected)

/-- REACTION_TIMER_EXPIRY (R448). -/
def execReactionTimerExpiry (s : State) : Host.Outcome State Fault Refusal :=
  .next (s.onActive fun x c => if c.reactOver s.now then (s.escalate x).endCalibrate x else s)

/-- WATCHDOG_RESET (R436): 1 ms after the raise that silenced the heartbeat. -/
def execWatchdogReset (x : Side) (s : State) : Host.Outcome State Fault Refusal :=
  if (s.ctrl x).hbSilent && !(s.ctrl x).inReset then .next ((s.restart x 1).tendStaging) else .next s

/-- PARTNER_FAULT_RESET (R446): 1 ms after a raise in a controller that is not ACTIVE, or after the first grant for one
latched before it (R447). A controller held out by debug stays (R483), and one whose heartbeat a raise silenced is reset by its
watchdog (R436). -/
def execPartnerFaultReset (x : Side) (s : State) : Host.Outcome State Fault Refusal :=
  let c := s.ctrl x
  if s.firstGrant && c.running && !c.inReset && c.role != .active && !c.faults.latched.isEmpty && c.dbg.st != 1 &&
      !c.hbSilent then
    .next ((s.restart x 2).tendStaging)
  else .next s

/-- CONDITION_RERAISE (R445): a condition that persists raises again 100 ms after each close. -/
def execConditionReraise (x : Side) (source : Nat) (s : State) : Host.Outcome State Fault Refusal :=
  let c := s.ctrl x
  if c.isActive && decide (12 ≤ source) && c.faults.conds.contains source && !c.faults.episode.isOpen &&
      decide (c.faults.episode.closedAt + ms 100 ≤ s.now) then
    .next (s.raise x source false)
  else .next s

/-! ## Failure of the logline memory (R301) -/

/-- A controller goes on in SRAM, from the failing entry after a failed write. -/
def Ctrl.goVolatile (c : Ctrl) (failed : Option Word) : Ctrl :=
  let l := c.logl
  match failed with
  | some w =>
    let at_ := fld w 127 96 % 65536
    { c with logl := { l with
        entries := tset 0 l.entries at_ 0, sram := tset 0 l.sram at_ (setFld w 35 35 1), isVolatile := true,
        sound := false } }
  | none => { c with logl := { l with isVolatile := true, sound := false } }

/-- The entry that failed to write is committed under SRAM journalling, so the copy that a STANDBY controller holds is `VOLATILE` too
(R297, R301). -/
def Ctrl.mirrorVolatile (c : Ctrl) (failed : Word) : Ctrl :=
  { c with logl := { c.logl with
      entries := tmod 0 c.logl.entries (fld failed 127 96 % 65536) fun w => if w = failed then setFld w 35 35 1 else w } }

/-- The logline memory of `x` fails: after a failed write (`none`) with its newest entry, after an uncorrectable read with the
word read. A STANDBY controller raises LOGLINE on itself and sets no flag. -/
def State.loglineFails (s : State) (x : Side) (readAt : Option Word) (inj : Bool) : State :=
  let c := s.ctrl x
  let entry := c.logl.at_ c.logl.newest
  let s1 := match readAt with
    | none => s.lastGasp x entry 1
    | some w => s.lastGasp x w 2
  let s2 := if c.isActive then
      let s2 := s1.modCtrl x fun c => c.goVolatile (match readAt with | none => some entry | some _ => none)
      if readAt.isNone ∧ s.isStandby x.other = true then s2.modCtrl x.other fun d => d.mirrorVolatile entry else s2
    else s1.modCtrl x fun c => { c with logl := { c.logl with sound := false } }
  s2.raise x srcLogline inj

/-- LOGLINE_FAILURE. -/
def execLoglineFailure (x : Side) (readAt : Option Word) (s : State) : Host.Outcome State Fault Refusal :=
  if (s.ctrl x).running && !(s.ctrl x).inReset then .next (s.loglineFails x readAt false) else .next s

/-! ## Injection (R454 to R456) -/

def injChecker (w : Word) : Nat := fld w 111 109
def injSide (w : Word) : Side := sideOf (fld w 108 108)
def injTarget (w : Word) : Nat := fld w 107 96
def injCount (w : Word) : Nat := fld w 95 88
def injBits (w : Word) : Nat := fld w 87 86

/-- The target lies in the checker's range. -/
def injTargetOk (w : Word) : Bool :=
  match injChecker w with
  | 1 => decide (injTarget w < 12)
  | 2 => decide (injTarget w < 2)
  | 3 => decide (injTarget w < 96)
  | 4 => injTarget w == 0
  | _ => decide (injTarget w < 4)

/-- The bits suit the checker. -/
def injBitsOk (w : Word) : Bool := if injChecker w ≤ 2 then injBits w == 1 || injBits w == 2 else injBits w == 0

/-- The refusals of R456 for a word that carries an injection. -/
def injStatus (x : Side) (w : Word) (c : Ctrl) : Nat :=
  firstFail [
    (decide (6 ≤ injChecker w) || !injTargetOk w || injCount w == 0 || !injBitsOk w ||
      (injChecker w == 4 && injSide w != x), stRange),
    (c.faults.injOn, stBusy)]

/-- Raises of one source, one for each inverted check. -/
def State.raiseTimes : Nat → Side → Nat → State → State
  | 0, _, _, s => s
  | n + 1, y, src, s => State.raiseTimes n y src (s.raise y src true)

/-- The injection is complete: `INJECT_DONE`. -/
def State.injectDone (s : State) (x : Side) : State :=
  s.modCtrl x fun c =>
    let d := { c with faults := { c.faults with injDone := injCount c.faults.inject, injOn := false } }
    s.faultEvent d 7 (injSide c.faults.inject) 0 0

/-- One more check inverted. -/
def State.injected (s : State) (x : Side) : State :=
  let c := s.ctrl x
  let n := c.faults.injDone + 1
  if !c.faults.injOn then s
  else if injCount c.faults.inject ≤ n then s.injectDone x
  else s.setCtrl x { c with faults := { c.faults with injDone := n } }

/-- What the memory checkers report of their test rows. -/
def State.injectMemory (s : State) (w : Word) : State :=
  let y := injSide w
  match injChecker w, injBits w with
  | 1, 1 => if 16 < injCount w then s.raise y 1 true else s
  | 1, _ => State.raiseTimes (injCount w) y 0 s
  | _, 1 => s
  | _, _ =>
    if injTarget w = 0 then State.raiseTimes (injCount w) y 2 s
    else
      let (v, s1) := s.draw
      State.raiseTimes (injCount w - 1) y srcLogline (s1.loglineFails y (some (BitVec.ofNat 128 v)) true)

/-- An injection starts at its logline commit. The memory checkers read their test rows at once; the others wait for what they
check. -/
def State.startInjection (s : State) (x : Side) (w : Word) : State :=
  let s1 := s.modCtrl x fun c => { c with faults := { c.faults with inject := w, injDone := 0, injOn := true } }
  match injChecker w with
  | 1 => (s1.injectMemory w).injectDone x
  | 2 => (s1.injectMemory w).injectDone x
  | 3 => s1.modCtrl (injSide w) fun c =>
      { c with down := tmod {} c.down (injTarget w) fun d => { d with inject := injCount w } }
  | _ => s1

/-- A check of a kind and target is to be inverted now. -/
def Ctrl.injects (c : Ctrl) (checker target : Nat) : Bool :=
  c.faults.injOn && injChecker c.faults.inject == checker && injTarget c.faults.inject == target

end Sys2Proof.Machine
end

