-- ==== Sys2Proof/Machine/Journal.lean ====
section
/-! DEFINITION. JOURNAL_READ (R300), ABORT (R302, R303) and the check-value units (R323 to R325). -/

namespace Sys2Proof.Machine

/-! ## JOURNAL_READ -/

def jrFrom (w : Word) : Nat := fld w 127 96
def jrCount (w : Word) : Nat := fld w 95 88
def jrSession (w : Word) : Nat := fld w 87 80
def jrBySession (w : Word) : Bool := bitOf w 79

/-- The entry is one that a reading by session returns. -/
def jrMatches (session : Nat) (w : Word) : Bool :=
  fld w 39 37 == 5 || (decide (fld w 39 37 < 4) && fld w 87 80 == session)

/-- The oldest entry number held. -/
def Logline.oldest (l : Logline) : Nat := (l.next + 4294967296 - l.count) % 4294967296

/-- The entries examined: how many there are from the first to the newest, and whether the reading is clipped. Numbers are
compared modulo 2^32 against the newest. -/
def Logline.examined (l : Logline) (from_ : Nat) : Nat × Bool :=
  let age := (l.newest + 4294967296 - from_) % 4294967296
  if 2147483648 ≤ age then (0, false) else if l.count ≤ age then (l.count, true) else (age + 1, false)

/-- JOURNAL_READ. -/
def answerJournalRead (p : List Word) (c : Ctrl) : Nat × List Word :=
  let w := wordAt p 0
  let l := c.logl
  if p.length ≠ 1 ∨ jrCount w = 0 ∨ 254 < jrCount w then (stRange, [])
  else
    let (n, clipped) := l.examined (jrFrom w)
    let all := (List.range n).map fun i => l.at_ ((l.next + 4294967296 - n + i) % 4294967296)
    let got := (all.filter fun e => !jrBySession w || jrMatches (jrSession w) e).take (jrCount w)
    (stOk, mkw [(127, 96, l.oldest), (95, 64, l.newest), (63, 56, got.length), (55, 55, b2n l.isVolatile),
      (54, 54, b2n clipped)] :: got)

/-! ## ABORT -/

def abTarget (p : List Word) : Nat := fld (wordAt p 0) 127 116

/-- A request in flight has passed its commit point (R303). -/
def Ctrl.passedCommit (c : Ctrl) (f : Flight) : Bool :=
  if f.formed.isSome || f.passed then true
  else if !f.committed then false
  else if f.op = 0x30 then false
  else if f.op = 0x70 ∧ c.update.op = 1 ∧ c.update.erasing = true ∧ c.update.tag = some f.req.tag then false
  else true

/-- The checks of ABORT, in order. -/
def checkAbort (q : Req) (p : List Word) (c : Ctrl) : Nat :=
  if p.length ≠ 1 then stRange
  else
    match c.flight (abTarget p) with
    | none => stRange
    | some f =>
      if f.req.session ≠ q.session ∨ f.op = 0x40 then stRange
      else if f.ended ∨ c.passedCommit f = true then stTooLate
      else stOk

/-- What an abort that wins leaves of the operation: nothing of a message that waits or of a staging, and a conversion whose
result is not kept. -/
def State.endOperation (s : State) (x : Side) (f : Flight) : State :=
  let t := f.req.tag
  if !f.committed then s.modCtrl x fun c => { c with waiting := c.waiting.filter fun m => m.2.1.tag != t }
  else if f.op = 0x30 then
    let drop := fun (c : Ctrl) => { c with convs := c.convs.map fun j => if j.tag = t then { j with dropped := true } else j }
    s.modBoth drop
  else s.abortStaging x

/-- The effect of ABORT: the operation ends, an ABORTED entry follows, and the target is answered. -/
def effectAbort (x : Side) (p : List Word) (s : State) : State :=
  match (s.ctrl x).flight (abTarget p) with
  | none => s
  | some f =>
    let s1 := (s.endOperation x f).journalReq x f.req f.op 2 stAborted f.req.crc
    s1.modCtrl x fun c => (c.modFlight f.req.tag fun g => { g with ended := true }).finish f.req.tag stAborted []

/-! ## Check-value units -/

def cuUnit (w : Word) : Nat := fld w 127 124
def cuBytes (w : Word) : Nat := fld w 123 112

/-- The unit, when it is open for the session. -/
def Ctrl.crcUnit (c : Ctrl) (session n : Nat) : Option CrcUnit :=
  (tget none c.crcs n).bind fun u => if u.session = session then some u else none

/-- A unit's state replaced. -/
def Ctrl.setCrc (c : Ctrl) (n : Nat) (u : CrcUnit) : Ctrl := { c with crcs := tset none c.crcs n (some u) }

/-- The lowest free unit (DESIGN CHOICE, log entry 13). -/
def Ctrl.freeCrc (c : Ctrl) : Option Nat := (List.range 16).find? fun n => (tget none c.crcs n).isNone

/-- The running value after the fold word, if it is enabled. -/
def foldStart (poly : Nat) (en : Bool) (fold : Nat) : Nat :=
  if en then crcRun poly (crcInit poly) (numBytes 4 fold) else crcInit poly

/-- CRC_OPEN. -/
def answerCrcOpen (q : Req) (p : List Word) (c : Ctrl) : Ctrl × Nat × List Word :=
  let w := wordAt p 0
  if p.length ≠ 1 then (c, stRange, [])
  else
    match c.freeCrc with
    | none => (c, stBusy, [])
    | some n =>
      let run := foldStart (fld w 127 126) (bitOf w 125) (fld w 95 64)
      (c.setCrc n { session := q.session, poly := fld w 127 126, run := BitVec.ofNat 32 run,
                    fold := BitVec.ofNat 32 (fld w 95 64) }, stOk, [mkw [(127, 124, n), (95, 64, run)]])

/-- CRC_FEED. -/
def answerCrcFeed (q : Req) (p : List Word) (c : Ctrl) : Ctrl × Nat × List Word :=
  let w := wordAt p 0
  let n := cuBytes w
  match c.crcUnit q.session (cuUnit w) with
  | none => (c, stRange, [])
  | some u =>
    if n = 0 ∨ 4064 < n ∨ p.length ≠ 1 + (n + 15) / 16 then (c, stRange, [])
    else
      let run := crcRun u.poly u.run.toNat (((p.drop 1).flatMap wordBytes).take n)
      (c.setCrc (cuUnit w) { u with run := BitVec.ofNat 32 run }, stOk, [mkw [(95, 64, run)]])

/-- CRC_GET; a unit it releases is free once the reply has left. -/
def answerCrcGet (q : Req) (p : List Word) (c : Ctrl) : Nat × List Word :=
  let w := wordAt p 0
  match c.crcUnit q.session (cuUnit w) with
  | none => (stRange, [])
  | some u =>
    if p.length ≠ 1 then (stRange, [])
    else
      (stOk, [mkw [(127, 124, cuUnit w), (123, 122, u.poly), (95, 64, u.run.toNat), (63, 32, crcResult u.poly u.run.toNat),
        (31, 0, u.fold.toNat)]])

/-- The width of a check value. -/
def crcWidth (poly : Nat) : Nat := match poly with | 0 => 8 | 1 => 16 | _ => 32

/-- CRC_PUT. A value wider than the unit's polynomial comes from another one: what the unit then holds is free (R324). -/
def answerCrcPut (x : Side) (q : Req) (p : List Word) (s : State) : State × Nat :=
  let w := wordAt p 0
  let c := s.ctrl x
  let v := fld w 95 64
  match c.crcUnit q.session (cuUnit w) with
  | none => (s, stRange)
  | some u =>
    if p.length ≠ 1 then (s, stRange)
    else if v < 2 ^ crcWidth u.poly then (s.setCtrl x (c.setCrc (cuUnit w) { u with run := BitVec.ofNat 32 v }), stOk)
    else
      let (n, s1) := s.draw
      (s1.setCtrl x (c.setCrc (cuUnit w) { u with run := BitVec.ofNat 32 n }), stOk)

end Sys2Proof.Machine
end

