-- ==== Sys2Proof/Machine/CfgRead.lean ====
section
/-! DEFINITION. CFG_READ (R308 to R310): the word of every item as it reads (R91, R93, R174, R205, R214, R232, R255, R281, R336,
R356, R426, R441, R443, R454, R468). -/

namespace Sys2Proof.Machine

/-- The word with more fields filled in. -/
def withFlds (w : Word) (fs : List (Nat × Nat × Nat)) : Word := fs.foldl (fun w f => setFld w f.1 f.2.1 f.2.2) w

/-- The range of an item's index: first and number (R309). -/
def itemRange (item : Nat) : Option (Nat × Nat) :=
  match item with
  | 0x01 => some (0, 0x400)
  | 0x02 | 0x03 | 0x04 | 0x05 => some (0x400, 0x80)
  | 0x06 => some (0, 96)
  | 0x10 | 0x12 | 0x20 | 0x21 | 0x23 | 0x24 | 0x26 => some (0, 1)
  | 0x11 | 0x25 => some (0, 4)
  | 0x22 => some (0, 256)
  | _ => none

def cfItem (p : List Word) : Nat := fld (wordAt p 0) 127 120
def cfFirst (p : List Word) : Nat := fld (wordAt p 0) 119 108
def cfCount (p : List Word) : Nat := fld (wordAt p 0) 107 100

/-- The offset of an item in a settings area (R465). -/
def itemOffset (item i : Nat) : Nat :=
  match item with
  | 0x01 => 0x001 + i
  | 0x02 => 0x401 + (i - 0x400)
  | 0x03 => 0x481 + (i - 0x400)
  | 0x10 => 0x501
  | 0x20 => 0x502
  | 0x21 => 0x503
  | 0x22 => 0x50B + i / 4
  | 0x23 => 0x504
  | 0x24 => 0x505
  | 0x25 => 0x506 + i
  | _ => 0x50A

/-- The stored part of an item's word as CFG_READ returns it. -/
def Ctrl.stored (c : Ctrl) (item i : Nat) : Word := storedSetting (itemOffset item i) (c.setting (itemOffset item i))

/-! ## Channels -/

/-- The pod's link as the controller receives it. -/
def Ctrl.uplink (c : Ctrl) (link : Nat) : UpLink := tget {} c.up link

/-- A digital channel (R174): its state as the newest good frames give it; a channel whose pod has not received its
configuration acts as OFF (R178). -/
def State.digWord (s : State) (c : Ctrl) (ch : Nat) : Word :=
  let w := c.stored 0x01 ch
  let u := c.uplink (linkOf ch)
  let k := pinOf ch
  let d := s.dig ch
  let (drive, state) := match u.image with
    | some i => (i.drive / 4 ^ k % 4, b2n (nbit i.state k))
    | none => (0, 0)
  let eff := if (s.pod (linkOf ch)).powered && d.configured then digEffMode c.mode d.cfg else 0
  withFlds w [(127, 116, ch), (63, 61, eff), (60, 59, auxUse c.mode), (58, 57, drive),
    (56, 56, b2n d.safeApplied), (55, 55, b2n d.hold.isSome), (54, 54, state), (47, 40, (tget 0 u.temps k).toNat),
    (39, 32, (u.diag k).toNat)]

/-- The newest primary value of a channel: a readback value has `PATH` 1 (R257). -/
def Ctrl.primaryNow (c : Ctrl) (ch : Nat) : Int :=
  match (c.ringOf ch).find? fun r => recKind r == 2 && !bitOf r.word 63 with
  | some r => loopValue r
  | none => 0

/-- A loop channel (R205); one whose pod has not received its configuration acts as LOOP_OFF, with the safe value OFF (R197). -/
def State.loopWord (s : State) (c : Ctrl) (ch : Nat) : Word :=
  let w := c.stored 0x02 ch
  let u := c.uplink (linkOf ch)
  let l := s.loop ch
  let t := c.trimWord ch
  let live := (s.pod (linkOf ch)).powered && l.configured
  let eff := if live then loopEffMode c.mode l.cfg else 0
  let safe := if live then effSafe u.alm w else 3
  withFlds w [(127, 116, ch), (55, 54, eff), (53, 52, safe), (51, 50, u.alm),
    (49, 49, b2n (l.atSafe (s.pod (linkOf ch)).mode)), (48, 48, b2n l.hold.isSome), (47, 40, (u.diag (pinOf ch)).toNat),
    (39, 16, twos 24 (c.primaryNow ch)), (15, 8, (tget 0 u.temps (pinOf ch)).toNat), (7, 7, b2n (bitOf t 115)),
    (6, 6, b2n (bitOf t 114))]

/-- A conversion word (R232). -/
def State.convWord (s : State) (c : Ctrl) (ch : Nat) : Word :=
  let l := s.loop ch
  withFlds (c.stored 0x03 ch) [(127, 116, ch), (31, 28, s.convState ch), (23, 16, l.fskErrors), (15, 8, l.trigLost), (7, 0, l.aborts)]

/-- A trim word (R214). -/
def Ctrl.trimItem (c : Ctrl) (ch : Nat) : Word := setFld (keepFields (c.trimWord ch) [(115, 114), (111, 0)]) 127 116 ch

/-! ## Links, angle and time -/

/-- A link status word (R281). -/
def Ctrl.linkWord (c : Ctrl) (link : Nat) : Word :=
  let u := c.uplink link
  mkw [(127, 121, link), (120, 119, rxCode u.rx.st), (118, 117, u.downA), (116, 115, u.downB), (114, 111, u.podState),
    (110, 110, b2n u.refFb), (95, 64, u.bad), (63, 48, u.degraded), (47, 32, u.hunts), (31, 0, u.lastGood.toNat)]

/-- `ANGLE_STATUS` of a source (R93). -/
def State.angleStatus (s : State) (c : Ctrl) (src : Nat) : Word :=
  let t := c.tracker src
  mkw [(127, 124, trackCode t.st), (123, 122, src), (121, 112, satAt 1023 t.glitches),
    (111, 96, s.angleAt c src (mtimeOf s c).toNat), (95, 64, t.cycle.toNat), (63, 32, t.period), (31, 0, t.t0.toNat)]

/-- `TIME_STATUS` (R93). -/
def State.timeStatus (s : State) (c : Ctrl) : Word :=
  mkw [(127, 64, (mtimeOf s c).toNat), (63, 60, c.time.state), (59, 58, c.time.inUse),
    (31, 0, twos 32 (clampI (-2147483648) 2147483647 c.time.offset))]

/-! ## Settings of the module -/

/-- `WDOG_CFG` (R441). -/
def Ctrl.wdogItem (c : Ctrl) : Word :=
  withFlds (storedSetting 0x503 c.wdogCfg) [(127, 127, b2n (!c.dogsOff)), (126, 126, b2n c.lock), (31, 30, c.dog.st)]

/-- `HOST_WDOG_CFG` of a session (R443). -/
def Ctrl.hostDogItem (c : Ctrl) (i : Nat) : Word :=
  let d := c.hostDog i
  mkw [(127, 127, b2n (d.state == 1)), (119, 106, d.openE), (105, 92, d.close), (91, 89, d.limit), (63, 32, c.hwSeed i),
    (31, 30, d.state), (29, 27, d.bad)]

/-- `FAULT_CFG` (R454). -/
def Ctrl.faultItem (c : Ctrl) : Word :=
  let j := c.faults.inject
  withFlds (storedSetting 0x504 c.faultCfg) [(111, 109, injChecker j), (108, 108, fld j 108 108), (107, 96, injTarget j), (95, 88, injCount j),
    (87, 86, injBits j), (63, 56, c.faults.injDone)]

/-- `ROPE_CFG` (R426). -/
def State.ropeItem (s : State) (c : Ctrl) : Word :=
  withFlds (storedSetting 0x505 c.ropeCfg) [(111, 108, s.knotId), (107, 76, Config.serialNumber.toNat)]

/-- The state of a port as the ACTIVE controller `x` reports it, and the counters it shows. The other controller's Ethernet port reads
down while that controller is in reset or the splice is down, and its counters as last reported (R356). -/
def State.portLink (s : State) (x : Side) (i : Nat) : Nat × Tab Nat :=
  let c := s.ctrl x
  if i = 0 then (b2n (c.ports.lane0 && c.ports.lane1), c.ports.cnt)
  else if i = 3 then (if s.attached then s.usbLink else 0, c.ports.cnt)
  else
    let y := if i = 1 then Side.a else Side.b
    (if y = x ∨ s.partnerSeen x = true then (s.ctrl y).ports.ethLink else 0,
      if y = x ∨ c.spliceUp = true then (s.ctrl y).ports.cnt else c.ports.peer)

/-- `PORT_CFG` of a port (R356). -/
def State.portItem (s : State) (x : Side) (i : Nat) : Word :=
  let (link, cnt) := s.portLink x i
  let n := fun k => tget 0 cnt (4 * i + k)
  withFlds (storedSetting (0x506 + i) ((s.ctrl x).portCfg i)) [(121, 120, link), (63, 48, n 0), (47, 32, n 1), (31, 16, n 2), (15, 0, n 3)]

/-- `SPI_WINDOW` (R336). -/
def Ctrl.spiItem (c : Ctrl) : Word :=
  withFlds (storedSetting 0x50A c.spiCfg) [(111, 96, c.spi.crcErr), (95, 80, c.spi.refused), (79, 64, c.spi.drops)]

/-- `START_MODE`: a stored value that is no start mode is read as COMMISSION (R468). -/
def Ctrl.startItem (c : Ctrl) : Word := mkw [(127, 124, modeCode c.startMode)]

/-! ## CFG_READ -/

/-- The word of an item at an index. -/
def State.itemWord (s : State) (x : Side) (item i : Nat) : Word :=
  let c := s.ctrl x
  match item with
  | 0x01 => s.digWord c i
  | 0x02 => s.loopWord c i
  | 0x03 => s.convWord c i
  | 0x04 => c.trimItem i
  | 0x05 => s.calWord i
  | 0x06 => c.linkWord i
  | 0x10 => c.stored 0x10 i
  | 0x11 => s.angleStatus c i
  | 0x12 => s.timeStatus c
  | 0x20 => c.startItem
  | 0x21 => c.wdogItem
  | 0x22 => c.hostDogItem i
  | 0x23 => c.faultItem
  | 0x24 => s.ropeItem c
  | 0x25 => s.portItem x i
  | _ => c.spiItem

/-- The indices lie within the item's range. -/
def indexOk (item first count : Nat) : Bool :=
  match itemRange item with
  | some (b, n) => decide (b ≤ first) && decide (first + count ≤ b + n)
  | none => false

/-- CFG_READ. -/
def answerCfgRead (x : Side) (p : List Word) (s : State) : Nat × List Word :=
  let n := cfCount p
  if p.length ≠ 1 ∨ n = 0 ∨ 254 < n ∨ indexOk (cfItem p) (cfFirst p) n = false then (stRange, [])
  else (stOk, (List.range n).map fun i => s.itemWord x (cfItem p) (cfFirst p + i))

end Sys2Proof.Machine
end

