-- ==== Sys2Proof/Machine/Angle.lean ====
section
/-! DEFINITION. The angle timebase (chapter 03): the advance of the trackers, firing of points (R70 to R72, R85 to R87), tracker
states (R80, R81), errors and steps (R83, R510), and the rate and steps of MTIME (R94 to R97). -/

namespace Sys2Proof.Machine

/-! ## Fields of `ANGLE_CFG` (R91) -/
def acFreq (w : Word) : Nat := fld w 127 96
def acFallback (w : Word) (src : Nat) : Nat := if src = 0 then fld w 95 94 else if src = 1 then fld w 93 92 else 0
def acEdge (w : Word) : Bool := bitOf w 91
def acFlywheel (w : Word) : Nat := fld w 87 84
def acRope (w : Word) : Nat := fld w 83 82
def acTime (w : Word) : Nat := fld w 79 78
def acDomain (w : Word) : Nat := fld w 71 64
def acOffset (w : Word) (src : Nat) : Nat := if src = 0 then fld w 63 48 else if src = 1 then fld w 47 32 else 0

/-! ## Events -/

/-- An ANGLE event of the ACTIVE controller (R84). -/
def State.angleEvent (s : State) (x : Side) (src : Nat) (old new : TrackSt) (step : Int) : State :=
  let c := s.ctrl x
  if c.isActive then
    s.setCtrl x (s.eventAll c 0x03 src [mkw [(127, 124, trackCode old), (123, 120, trackCode new), (119, 104, twos 16 step)]])
  else s

/-- The history of a source brought up to date: a stretch begins where the one before no longer gives the state and, to 1 unit,
the tracked angle (R102). -/
def Tracker.note (t : Tracker) (mt : Nat) : Tracker :=
  let g : Stretch := { mt, angle := t.angle.toNat, period := t.period, st := t.st, fly := t.flagged }
  match t.hist with
  | h :: _ =>
    if h.st = t.st ∧ h.fly = t.flagged ∧ h.cut = none ∧ (h.angleAt mt + 65537 - t.field.toNat) % 65536 ≤ 2 then t
    else { t with hist := g :: t.hist }
  | [] => { t with hist := [g] }

def State.noteTrack (s : State) (x : Side) (src : Nat) : State :=
  s.modCtrl x fun c => c.setTracker src ((c.tracker src).note (mtimeOf s c).toNat)

/-- A step of MTIME ends the stretches that its readings before it belong to. -/
def Tracker.cutHist (t : Tracker) (mt : Nat) : Tracker :=
  match t.hist with
  | h :: hs => { t with hist := { h with cut := h.cut <|> some mt } :: hs }
  | [] => t

/-- A source enters a state; the states of R84 are published. -/
def State.trackEnter (s : State) (x : Side) (src : Nat) (st : TrackSt) (step : Int) : State :=
  let old := ((s.ctrl x).tracker src).st
  let s1 := (s.modCtrl x fun c => c.setTracker src { c.tracker src with st }).noteTrack x src
  match st with
  | .noSignal | .acquire => s1
  | _ => s1.angleEvent x src old st step

/-! ## Firing of points -/

/-- How far ahead of angle `a` a point lies, 1 to 65,536. -/
def pointAhead (a p : Nat) : Nat := (p + 65535 - a) % 65536 + 1

/-- The first cycle that starts after the commit is c0 (R71). -/
def CycleRef.start (r : CycleRef) (cyc : BitVec 32) : CycleRef := if r.begun then r else { c0 := cyc, begun := true }

/-- The cycle c0 is over, so the divider counts on whatever the cycle number does. -/
def CycleRef.pass (r : CycleRef) (cyc : BitVec 32) : CycleRef :=
  let k := (cyc - r.c0).toNat
  if r.begun ∧ 1 ≤ k ∧ k < 2147483648 then { r with crossed := true } else r

/-- A point reached in cycle `cyc`, which starts on the way to it when `starts`. -/
def CycleRef.reach (r : CycleRef) (starts : Bool) (cyc : BitVec 32) : CycleRef := (if starts then r.start cyc else r).pass cyc

/-- Points fire in cycle `cyc` under a divider (R71). -/
def CycleRef.qualifies (r : CycleRef) (cyc : BitVec 32) (divider : Nat) : Bool :=
  let k := (cyc - r.c0).toNat
  r.begun && (r.crossed || decide (k < 2147483648)) && k % divider == 0

def Duty.ref (d : Duty) : CycleRef := { c0 := d.c0, begun := d.begun, crossed := d.crossed }
def Duty.setRef (d : Duty) (r : CycleRef) : Duty := { d with c0 := r.c0, begun := r.begun, crossed := r.crossed }

/-- A due point put at its place: by distance along the path, then by duty and point (R70). -/
def insertDue (e : Nat × Nat × Nat) : List (Nat × Nat × Nat) → List (Nat × Nat × Nat)
  | [] => [e]
  | f :: t => if e.1 < f.1 then e :: f :: t else f :: insertDue e t

/-- The points of running duties on a source that lie within `d` units ahead of `a`, in the order of R70. -/
def Ctrl.duePoints (c : Ctrl) (src a d : Nat) : List (Nat × Nat × Nat) :=
  let all := (c.runningDuties.filter fun p => !p.2.drain && hSource p.2.header == src).flatMap fun p =>
    ((List.range (hPoints p.2.header)).map fun k => (pointAhead a (pointAt p.2.points k), p.1, k)).filter fun e =>
      decide (e.1 ≤ d)
  all.foldl (fun acc e => insertDue e acc) []

/-- The cycle a point lies in that a move from angle `a` in cycle `cyc` reaches `ahead` units on; a cycle that starts on the way
is `next`. -/
def cycleOn (a ahead : Nat) (cyc next : BitVec 32) : BitVec 32 := if 65536 ≤ a + ahead then next else cyc

/-- One point fires, if its cycle qualifies and it has not fired in it (R72). -/
def State.firePoint (s : State) (src a : Nat) (cyc next : BitVec 32) (skipped : Bool) (c : Ctrl) (e : Nat × Nat × Nat) : Ctrl :=
  let (ahead, n, k) := e
  let at_ := cycleOn a ahead cyc next
  let d0 := c.duty n
  let d := d0.setRef (d0.ref.reach (decide (65536 ≤ a + ahead)) at_)
  if d.ref.qualifies at_ (hDivider d.header) && tget none d.marks k != some at_ then
    let t := c.tracker src
    let f : Firing :=
      { point := k, mtime := mtimeOf s c, at_ := s.clock c, angle := t.angle, skipped, flywheel := t.flagged, order := 0
        inst := s.now }
    (c.setDuty n { d with marks := tset none d.marks k (some at_) }).fire n f
  else c.setDuty n d

/-- The angle trigger of a channel in TRIG on a source (R234, R243): its point lies within `d` ahead of `a`, in a qualifying cycle,
and has not fired in it. -/
def Ctrl.trigDue (c : Ctrl) (src a d : Nat) (cyc next : BitVec 32) (ch : Nat) : Option (BitVec 32) :=
  let w := c.convCfg ch
  let ahead := pointAhead a (fld w 98 83)
  let at_ := cycleOn a ahead cyc next
  let r := (tget {} c.trigC0 ch).reach (decide (65536 ≤ a + ahead)) at_
  if loopMode (c.loopCfg ch) != 0 && convKind w == 2 && fld w 101 99 == src + 1 && decide (ahead ≤ d) &&
      r.qualifies at_ (fld w 82 67) && tget none c.trigMarks ch != some at_ then some at_
  else none

/-- A trigger sent to the pods of its channels, one request per link; a request that a forward step fired is noted (R243). -/
def Ctrl.sendTriggers (c : Ctrl) (chs : List Nat) (groups mtime : Nat) (skipped : Bool) : Ctrl :=
  (linksOf chs).foldl (fun c l =>
    let c2 := c.sendRequest l 2 (posMask l chs) groups mtime
    if skipped then { c2 with skipReqs := (l, (tget {} c2.down l).reqNo) :: c2.skipReqs } else c2) c

/-- The angle triggers that fire. -/
def State.fireTriggers (s : State) (src a d : Nat) (cyc next : BitVec 32) (skipped : Bool) (c : Ctrl) : Ctrl :=
  let hit := ((List.range 128).map fun i => 0x400 + i).filterMap fun ch =>
    (c.trigDue src a d cyc next ch).map fun at_ => (ch, at_)
  let c1 := { c with trigMarks := hit.foldl (fun t (e : Nat × BitVec 32) => tset none t e.1 (some e.2)) c.trigMarks }
  c1.sendTriggers (hit.map Prod.fst) 0 (mtimeOf s c).toNat skipped

/-- A cycle of a source starts: it is c0 of every duty and angle trigger on it whose c0 had not come (R71, R234). -/
def Ctrl.beginCycle (c : Ctrl) (src : Nat) (cyc : BitVec 32) : Ctrl :=
  { c with
    duties := c.duties.foldl (fun t p =>
      if hSource p.2.header = src ∧ 2 ≤ p.2.st then tset {} t p.1 (p.2.setRef (p.2.ref.reach true cyc)) else t) c.duties
    trigC0 := c.trigC0.foldl (fun t p =>
      if fld (c.convCfg p.1) 101 99 = src + 1 then tset {} t p.1 (p.2.reach true cyc) else t) c.trigC0 }

/-- A move of `d` units ahead from angle `a` in cycle `cyc`, into cycle `next` if it passes 0: while the source's state fires (R80) the
ACTIVE controller fires the points and triggers passed, and a cycle that starts is counted from. -/
def State.fireAll (s : State) (x : Side) (src a d : Nat) (cyc next : BitVec 32) (skipped : Bool) : State :=
  let c := s.ctrl x
  let c1 := if c.isActive && (c.tracker src).st.fires && d != 0 then
      s.fireTriggers src a d cyc next skipped ((c.duePoints src a d).foldl (s.firePoint src a cyc next skipped) c)
    else c
  if 65536 ≤ a + d then s.setCtrl x (c1.beginCycle src next) else s.setCtrl x c1

/-! ## Advance (R69, R79, R80) -/

/-- The part of a correction of MTIME that one update makes: at most 200 ppm (R96). -/
def slewPart (ps : Int) : Int := clampI (-200) 200 ps

/-- The angle moved ahead by `d` units; passing 0 counts a cycle and stamps T0. -/
def Tracker.ahead (t : Tracker) (mt : Nat) (d : Nat) : Tracker :=
  let b := t.angle.toNat + d
  if 65536 ≤ b then
    { t with
      angle := BitVec.ofNat 16 (b - 65536), cycle := t.cycle + 1
      t0 := BitVec.ofInt 32 ((mt : Int) - ((b - 65536) * t.period / 262144 : Nat)) }
  else { t with angle := BitVec.ofNat 16 b }

/-- The units one update of 1 µs moves the angle at its rate, with the remainder kept: `num` and `den` give units per µs. -/
def Tracker.rate (t : Tracker) (num den : Nat) : Nat × Tracker :=
  if den = 0 then (0, t)
  else
    let n := t.rem + num
    (satAt 65535 (n / den), { t with rem := n % den })

/-- An error being removed by rate: one unit an update, and never backward (R83; DESIGN CHOICE, log entry 36). -/
def Tracker.trimRate (t : Tracker) (d : Nat) : Nat × Tracker :=
  if 0 < t.slew then (satAt 65535 (d + 1), { t with slew := t.slew - 1 })
  else if t.slew < 0 ∧ 0 < d then (d - 1, { t with slew := t.slew + 1 })
  else (d, t)

/-- A frequency in nHz and a period in units of 0.25 ns give each other. -/
def reciprocal (n : Nat) : Nat := 4000000000000000000 / n

/-- The frequency of one update later: in FALLBACK it moves toward `AS3_FREQ` at 1 Hz/s, that is 1,000 nHz per µs, and in a live
lock by the estimated slope (R75, R80). -/
def Tracker.nextFreq (t : Tracker) (w : Word) : Nat :=
  match t.st with
  | .fallback =>
    let goal := acFreq w * 1000000
    if t.freq ≤ goal then min goal (t.freq + 1000) else max goal (t.freq - 1000)
  | .locked | .relock => ((t.freq : Int) + t.slope).toNat
  | _ => t.freq

/-- The period follows the frequency where that moves. -/
def Tracker.moveFreq (t : Tracker) (w : Word) : Tracker :=
  let f := t.nextFreq w
  if f = t.freq ∨ f = 0 then t else { t with freq := f, period := reciprocal f }

/-- One source advanced by one update; `rate` is the change of MTIME in ps in this µs. -/
def Tracker.update (t : Tracker) (src mt : Nat) (w : Word) (rate : Int) : Nat × Tracker :=
  let scale := (1000000 + rate).toNat
  if src = 3 then
    let t1 := { t with period := if acFreq w = 0 then 0 else 4000000000000 / acFreq w }
    let (d, t2) := t1.rate (65536 * acFreq w * scale) 1000000000000000
    (d, t2.ahead mt d)
  else
    match t.st with
    | .noSignal | .acquire | .lost => (0, t)
    | _ =>
      let t1 := t.moveFreq w
      let (d, t2) := t1.rate (262144000 * scale) (t1.period * 1000000)
      let (e, t3) := t2.trimRate d
      (e, t3.ahead mt e)

/-- The rate correction of one update in ps: the rate held, with the part of an offset still to be removed, at most 200 ppm
together (R96, R97). -/
def TimeKeep.ratePart (t : TimeKeep) : Int := slewPart (t.rate + t.slewPs)

/-- MTIME's correction by rate in one update. -/
def Ctrl.slewTime (c : Ctrl) : Ctrl :=
  let p := c.time.ratePart
  { c with time := { c.time with
      offPs := c.time.offPs + p, ratePs := c.time.ratePs + p, slewPs := c.time.slewPs - (p - c.time.rate) } }

/-- One source of a controller, and what it fires. -/
def State.trackOne (rate : Int) (x : Side) (s : State) (src : Nat) : State :=
  let c := s.ctrl x
  let t := c.tracker src
  let (d, t1) := t.update src (mtimeOf s c).toNat c.angleCfg rate
  ((s.setCtrl x (c.setTracker src t1)).noteTrack x src).fireAll x src t.angle.toNat d t.cycle t1.cycle false

/-! ## Errors and steps (R83, R510) -/

/-- The source that stands for the rope angle: AS2 on a member, else `ROPE_SOURCE`. -/
def Ctrl.ropeSource (c : Ctrl) : Nat := if c.rope.role = 1 then 2 else acRope c.angleCfg

/-- The point of a snapshot has come: the tracked position is at or past it. -/
def Snap.due (n : Snap) (t : Tracker) : Bool :=
  let k := (t.cycle - n.cycle).toNat
  (k == 0 && decide (n.angle.toNat ≤ t.angle.toNat)) || (k != 0 && decide (k < 2147483648))

/-- A forward step of the rope angle passes over the points of snapshots, which carry `SKIPPED_ANGLE` (R85, R419). -/
def Ctrl.skipSnaps (c : Ctrl) (src : Nat) (from_ to_ : Tracker) : Ctrl :=
  if src ≠ c.ropeSource then c
  else { c with rope := { c.rope with
      snaps := c.rope.snaps.map fun n => if !n.latched && !n.due from_ && n.due to_ then { n with skipped := true } else n } }

/-- The error of a measured angle against the tracked one, in −32,768 to +32,767. -/
def angleError (measured tracked : Nat) : Int := sext 16 ((measured + 65536 - tracked) % 65536)

/-- A step of AS0 is pending on every downlink (R270). -/
def Ctrl.markStep (c : Ctrl) : Ctrl :=
  (List.range 96).foldl (fun c l => { c with down := tmod {} c.down l fun d => { d with stepNew := true } }) c

/-- The angle stepped by `e` (R69, R85, R86). -/
def Tracker.step (t : Tracker) (mt : Nat) (e : Int) : Tracker :=
  if 0 ≤ e then { t with slew := 0, bigErr := 0 }.ahead mt e.toNat
  else
    let b := (t.angle.toNat : Int) + e
    { t with slew := 0, bigErr := 0, angle := BitVec.ofInt 16 b, cycle := if b < 0 then t.cycle - 1 else t.cycle }

/-- A source steps by `e`, and enters or stays in a state: points that a forward step passes fire, marked as skipped, and the
event gives the step. `num` is the cycle number that the samples name for the angle stepped to (R90). -/
def State.stepSource (s : State) (x : Side) (src : Nat) (e : Int) (st : TrackSt) (num : Option (BitVec 32)) : State :=
  let c := s.ctrl x
  let t := c.tracker src
  let t1 := t.step (mtimeOf s c).toNat e
  let t2 := { t1 with st, since := if st = .relock then s.clock c else t.since, cycle := num.getD t1.cycle }
  let s1 := (s.modCtrl x fun c =>
    let d := if 0 < e then c.skipSnaps src t t2 else c
    if src = 0 then (d.setTracker src t2).markStep else d.setTracker src t2).noteTrack x src
  let from_ := if t1.cycle = t.cycle then t2.cycle else t.cycle
  (s1.fireAll x src t.angle.toNat e.toNat from_ t2.cycle true).angleEvent x src t.st st e

/-- A commanded step, by the state of the source (R510). -/
def State.commandStep (s : State) (x : Side) (src : Nat) (e : Int) (num : Option (BitVec 32)) : State :=
  match ((s.ctrl x).tracker src).st with
  | .locked | .relock => s.stepSource x src e .relock num
  | .flywheel => s.stepSource x src e .flywheel num
  | .fallback => s.stepSource x src e .fallback num
  | .noSignal | .acquire | .lost => s

/-- The cycle number that the angle `e` units from the tracked one lies in, as the source counts. -/
def Tracker.cycleAt (t : Tracker) (e : Int) : BitVec 32 :=
  let b := (t.angle.toNat : Int) + e
  if b < 0 then t.cycle - 1 else if 65536 ≤ b then t.cycle + 1 else t.cycle

/-- A measured angle needs no step: its error is at most 2,048 units, and its samples name no other cycle number (R83, R90). -/
def Tracker.agrees (t : Tracker) (e : Int) (num : Option (BitVec 32)) : Bool :=
  decide (e.natAbs ≤ 2048) && (match num with | some n => n == t.cycleAt e | none => true)

/-- A measured angle of a source in LOCKED or RELOCK: a small error is removed by rate, and another one steps at its second
measurement. -/
def State.measure (s : State) (x : Side) (src measured : Nat) (num : Option (BitVec 32)) : State :=
  let t := (s.ctrl x).tracker src
  let e := angleError measured t.angle.toNat
  match t.st with
  | .locked | .relock =>
    if t.agrees e num then s.modCtrl x fun c => c.setTracker src { t with slew := e, bigErr := 0 }
    else if 1 ≤ t.bigErr then s.stepSource x src e .relock num
    else s.modCtrl x fun c => c.setTracker src { t with bigErr := 1 }
  | _ => s

/-- A change of the running controllers that is the same for each. -/
def State.onRunning (s : State) (f : Side → State → State) : State :=
  let go := fun (x : Side) (s : State) => if (s.ctrl x).running && !(s.ctrl x).inReset then f x s else s
  go .b (go .a s)

/-- The tracked range of a source, as periods in units of 0.25 ns (R73). -/
def inRange (src period : Nat) : Bool :=
  if src = 0 then decide (64516130 ≤ period) && decide (period ≤ 285714285)
  else if src = 1 then decide (800000 ≤ period) && decide (period ≤ 80000000)
  else decide (800000 ≤ period) && decide (period ≤ 4000000000)

/-- A new period estimate while the input is being tracked or acquired; AS0's estimate of its rate of change is the change of frequency
since the estimate before, at most 5 Hz/s (R73, R75; DESIGN CHOICE, log entry 85). -/
def Tracker.estimate (t : Tracker) (src period dt : Nat) : Tracker :=
  let f := reciprocal period
  let slope : Int :=
    if src = 0 ∧ t.freq ≠ 0 ∧ dt ≠ 0 ∧ t.st ≠ .acquire then clampI (-5000) 5000 (((f : Int) - t.freq) * 1000 / dt) else 0
  { t with period, freq := f, slope }

/-- A period measured over the `dt` ns since the measurement before; one outside the tracked range is counted and not used. -/
def State.setPeriod (s : State) (x : Side) (src period dt : Nat) : State :=
  s.modCtrl x fun c =>
    let t := c.tracker src
    if period = 0 then c
    else if !inRange src period then c.setTracker src { t with outOf := t.outOf + 1 }
    else
      let t1 := { t with outOf := 0 }
      match t.st with
      | .acquire | .locked | .relock => c.setTracker src (t1.estimate src period dt)
      | _ => c.setTracker src t1

/-! ## The rows of the trackers -/

/-- AS0_ZERO_CROSSING: the line crosses zero, where the tracked angle should be the offset (R68, R83); a crossing of a line outside the
tracked range is not followed. -/
def execAs0ZeroCrossing (period : Nat) (s : State) : Host.Outcome State Fault Refusal :=
  .next (s.onRunning fun x s =>
    let c := s.ctrl x
    let s1 := (s.setPeriod x 0 period (s.clock c - c.as0.lastEdge)).modCtrl x fun c =>
      { c with as0 := { c.as0 with lastEdge := s.clock c } }
    if inRange 0 period then s1.measure x 0 (acOffset c.angleCfg 0) none else s1)

/-- An accepted edge of CARRIER_SYNC. The interval since the edge before is the period estimate (DESIGN CHOICE, log entry 85). -/
def State.carrierEdge (s : State) (x : Side) : State :=
  let c := s.ctrl x
  let t := c.as1
  let now := s.clock c
  let s1 := if t.edges = 0 then s else s.setPeriod x 1 (4 * (now - t.lastEdge)) (now - t.lastEdge)
  let s2 := s1.modCtrl x fun c => { c with as1 := { c.as1 with edges := t.edges + 1, lastEdge := now } }
  if (s2.ctrl x).as1.outOf = 0 then s2.measure x 1 (acOffset c.angleCfg 1) none else s2

/-- CARRIER_SYNC_EDGE: narrow pulses and the other edge are ignored, and an early edge is a glitch (R76). -/
def execCarrierSyncEdge (width : Nat) (rising : Bool) (s : State) : Host.Outcome State Fault Refusal :=
  .next (s.onRunning fun x s =>
    let c := s.ctrl x
    let t := c.as1
    if width < 1000 ∨ rising = acEdge c.angleCfg then s
    else if t.edges ≠ 0 ∧ (s.clock c - t.lastEdge) * 8 < t.period then
      s.setCtrl x { c with as1 := { t with glitches := satAt 1023 (t.glitches + 1) } }
    else s.carrierEdge x)

/-- The loss of a source's input is due (R73, R78). What AS0 loses by, amplitude or frequency, is sensed by the event itself; AS1 loses
by 2 predicted periods without an accepted edge or 4 periods outside its range, AS2 by 4 expected intervals or 2 ms without a word,
and on a rope member by 3 cycles. -/
def Tracker.lossDue (t : Tracker) (src now : Nat) (isMember : Bool) : Bool :=
  match src with
  | 0 => true
  | 1 => decide (t.lastEdge + t.period / 2 ≤ now) || decide (4 ≤ t.outOf)
  | 2 => decide (t.seenAt + (if isMember then us 750 else max (4 * t.gap) (ms 2)) ≤ now)
  | _ => false

/-- A source in LOCKED or RELOCK loses its input: it holds its frequency, and what it was removing by rate stays (R75, R80, R81). -/
def State.loseSource (s : State) (x : Side) (src : Nat) : State :=
  (s.modCtrl x fun c =>
    c.setTracker src { c.tracker src with since := s.clock c, bigErr := 0, edges := 0, slew := 0, slope := 0 }).trackEnter x src
      .flywheel 0

/-- SOURCE_LOSS: LOCKED or RELOCK to FLYWHEEL. AS3 is never lost. -/
def execSourceLoss (src : Nat) (s : State) : Host.Outcome State Fault Refusal :=
  .next (s.onRunning fun x s =>
    let c := s.ctrl x
    let t := c.tracker src
    match t.st with
    | .locked | .relock => if src < 3 ∧ t.lossDue src (s.clock c) (c.rope.role == 1) = true then s.loseSource x src else s
    | _ => s)

/-- The position, in units, that AS2's samples give for an instant of MTIME. -/
def Tracker.sampledPos (t : Tracker) (mt : Nat) : Int :=
  if t.period = 0 then (t.lastPos : Int) else (t.lastPos : Int) + ((mt : Int) - t.lastEdge) * 262144 / (t.period : Int)

/-- The cycle number that AS2's samples name for an angle measured at an instant: those of the rope under R90, and those of the
Frame port's angle words alike (DESIGN CHOICE, log entry 86). -/
def Tracker.numberAt (t : Tracker) (mt angle : Nat) : Option (BitVec 32) :=
  t.given.map fun _ => BitVec.ofInt 32 ((t.sampledPos mt - angle + 32768) / 65536)

/-- ACQUIRE_LOCK: the angle is the measured one, and the cycle number counts one, or is the one the samples name (R81, R90). The
cycle locked into has started, and its points passed over do not fire. -/
def execAcquireLock (src : Nat) (angle : BitVec 16) (s : State) : Host.Outcome State Fault Refusal :=
  .next (s.onRunning fun x s =>
    let c := s.ctrl x
    let t := c.tracker src
    if src < 3 ∧ t.st = .acquire then
      let mt := (mtimeOf s c).toNat
      let t1 := { t with
        angle, rem := 0, slew := 0, bigErr := 0, cycle := (t.numberAt mt angle.toNat).getD (t.cycle + 1)
        t0 := BitVec.ofInt 32 (mt - (angle.toNat * t.period / 262144 : Nat)) }
      (s.setCtrl x ((c.setTracker src t1).beginCycle src t1.cycle)).trackEnter x src .locked 0
    else s)

/-- ACQUIRE_INPUT_INVALID: back to the state ACQUIRE came from. -/
def execAcquireInputInvalid (src : Nat) (s : State) : Host.Outcome State Fault Refusal :=
  .next (s.onRunning fun x s =>
    let t := (s.ctrl x).tracker src
    if src < 3 ∧ t.st = .acquire then
      (s.modCtrl x fun c => c.setTracker src { t with edges := 0 }).trackEnter x src t.from_ 0
    else s)

/-- RELOCK_COMPLETE: the residual error is at most 64 units. -/
def execRelockComplete (src : Nat) (s : State) : Host.Outcome State Fault Refusal :=
  .next (s.onRunning fun x s =>
    let t := (s.ctrl x).tracker src
    if src < 3 ∧ t.st = .relock ∧ t.slew.natAbs ≤ 64 then s.trackEnter x src .locked 0 else s)

/-- The flywheel limit of a source in ns (R73). -/
def flywheelLimit (w : Word) (src : Nat) (t : Tracker) : Nat :=
  if src = 0 then ms (1000 * acFlywheel w) else if src = 1 then 64 * t.period / 4 else ms 1000

/-- A source in FLYWHEEL at or past its limit goes to FALLBACK or LOST. AS2 has no fallback setting and is frozen (DEDUCED, log
entry 38). -/
def State.endFlywheel (s : State) (x : Side) (src : Nat) : State :=
  let c := s.ctrl x
  let t := c.tracker src
  if src < 3 ∧ t.st = .flywheel ∧ t.since + flywheelLimit c.angleCfg src t ≤ s.clock c then
    if acFallback c.angleCfg src = 1 then s.trackEnter x src .fallback 0
    else s.trackEnter x src .lost 0
  else s

/-- FLYWHEEL_LIMIT. -/
def execFlywheelLimit (src : Nat) (s : State) : Host.Outcome State Fault Refusal :=
  .next (s.onRunning fun x s => s.endFlywheel x src)

/-- The input of a source is valid again: ACQUIRE from NO_SIGNAL and LOST; from FLYWHEEL and FALLBACK by its error. -/
def State.validAgain (s : State) (x : Side) (src : Nat) (angle : BitVec 16) : State :=
  let c := s.ctrl x
  let t := c.tracker src
  match t.st with
  | .noSignal | .lost => (s.modCtrl x fun c => c.setTracker src { t with from_ := t.st }).trackEnter x src .acquire 0
  | .flywheel | .fallback =>
    let e := angleError angle.toNat t.angle.toNat
    let num := t.numberAt (mtimeOf s c).toNat angle.toNat
    if t.agrees e num then
      (s.modCtrl x fun c => c.setTracker src { t with slew := e, bigErr := 0 }).trackEnter x src .locked 0
    else s.stepSource x src e .relock num
  | _ => s

/-- INPUT_VALID_AGAIN. -/
def execInputValidAgain (src : Nat) (angle : BitVec 16) (s : State) : Host.Outcome State Fault Refusal :=
  .next (s.onRunning fun x s => if src < 3 then s.validAgain x src angle else s)

/-! ## AS2 samples (R77, R78, R90, R345) -/

/-- The period that two samples give, in units of 0.25 ns. -/
def samplePeriod (t : Tracker) (pos mt : Nat) : Nat :=
  let moved := (pos + 281474976710656 - t.lastPos) % 281474976710656
  if t.edges = 0 ∨ moved = 0 ∨ 140737488355328 ≤ moved ∨ mt ≤ t.lastEdge then 0
  else 4 * (mt - t.lastEdge) * 65536 / moved

/-- An AS2 sample: its angle and cycle number at an instant of MTIME. The newest two samples give the period (DESIGN CHOICE, log
entry 85). A sample with a change of the rope master's source is a commanded step by the difference it carries (R510). -/
def State.as2Sample (s : State) (x : Side) (mt angle : Nat) (cyc : BitVec 32) (change : Bool) : State :=
  let c := s.ctrl x
  let t := c.as2
  let now := s.clock c
  let pos := cyc.toNat * 65536 + angle
  let s1 := if change then s else s.setPeriod x 2 (samplePeriod t pos mt) 0
  let s2 := s1.modCtrl x fun c =>
    { c with as2 := { c.as2 with
        edges := t.edges + 1, lastEdge := mt, lastPos := pos, given := some cyc, seenAt := now
        gap := if t.edges = 0 then 0 else now - t.seenAt } }
  let u := (s2.ctrl x).as2
  let at_ := (mtimeOf s2 (s2.ctrl x)).toNat
  let measured := (u.sampledPos at_ % 65536).toNat
  let num := u.numberAt at_ measured
  if change then s2.commandStep x 2 (angleError measured u.angle.toNat) num else s2.measure x 2 measured num

/-- A discarded angle word. -/
def Ctrl.dropAngle (c : Ctrl) : Ctrl :=
  (c.countPort 0 3).setTracker 2 { c.as2 with glitches := satAt 1023 (c.as2.glitches + 1) }

/-- ANGLE_WORD: taken, or discarded and counted (R346). -/
def execAngleWord (w : Word) (atMtime : Nat) (s : State) : Host.Outcome State Fault Refusal :=
  .next (s.onRunning fun x s =>
    let c := s.ctrl x
    let seq := fld w 75 64
    if bitOf (c.portCfg 0) 119 = false ∨ c.rope.role = 1 then s.setCtrl x c.dropAngle
    else
      let c1 := { c with ports := { c.ports with aseq := some seq } }
      if bitOf w 79 = false ∨ c.ports.aseq = some seq then s.setCtrl x c1.dropAngle
      else (s.setCtrl x c1).as2Sample x atMtime (fld w 127 112) (BitVec.ofNat 32 (fld w 111 80)) false)

/-! ## A write of `ANGLE_CFG` (R92, R510) -/

/-- A write of `ANGLE_CFG` acts at the next 1 µs update: until then the controllers go on with the word before it. -/
def State.angleWritten (s : State) (old : Word) : State :=
  s.onRunning fun x s => s.modCtrl x fun c => { c with angleOld := some (c.angleOld.getD old) }

/-! ## Discipline of MTIME (R95 to R101) -/

/-- The discipline in effect: 1 PTP, 2 ROPE, 3 FREE. -/
def Ctrl.timeInUse (c : Ctrl) : Nat :=
  if c.rope.role = 1 then 2
  else
    match acTime c.angleCfg with
    | 0 => if c.time.master.isSome then 1 else 3
    | 1 => 1
    | _ => 3

/-- The state while nothing disciplines: HOLDOVER under PTP after a discipline since reset, else FREE (R95; DEDUCED, log entry
37). -/
def Ctrl.idleTime (c : Ctrl) : Nat := if c.time.everDisc && acTime c.angleCfg == 1 then 3 else 0

/-- Module time runs free: no rate correction stands (R95). -/
def TimeKeep.runFree (t : TimeKeep) : TimeKeep := { t with state := 0, rate := 0, slewPs := 0, measAt := none }

/-- The status of R93 follows the discipline in effect. HOLDOVER keeps the last rate correction (R97). -/
def Ctrl.disciplined (c : Ctrl) : Ctrl :=
  let u := c.timeInUse
  let quiet := u == 3 || (u == 1 && c.time.master.isNone)
  let t := { c.time with inUse := u }
  { c with time :=
      if quiet then (if c.idleTime = 0 then t.runFree else { t with state := c.idleTime, measAt := none })
      else { t with state := if t.state = 0 ∨ t.state = 3 then 1 else t.state } }

/-- The rate correction after a measured offset: what MTIME has gained against the master since the measurement before, beyond the
part that was being removed, is taken from the rate (DESIGN CHOICE, log entry 87). -/
def TimeKeep.newRate (t : TimeKeep) (now : Nat) (offset : Int) : Int :=
  match t.measAt with
  | some p => if p + 1000 ≤ now then slewPart (t.rate - (offset * 1000 + t.slewPs) / (((now - p) / 1000 : Nat) : Int)) else t.rate
  | none => t.rate

/-- MTIME corrected by a measured offset from the master: by rate up to 1 ms, else by one step, which is published (R96). It is
LOCKED within 1 µs (R100; DESIGN CHOICE, log entry 41). -/
def State.correctTime (s : State) (x : Side) (offset : Int) : State :=
  let c := s.ctrl x
  let st := if offset.natAbs ≤ 1000 then 2 else 1
  let t := { c.time with
    offset, everDisc := true, state := st, measAt := some (s.clock c), rate := c.time.newRate (s.clock c) offset }
  if offset.natAbs ≤ 1000000 then s.setCtrl x { c with time := { t with slewPs := -offset * 1000 } }
  else
    let mt := (mtimeOf s c).toNat
    let c1 := [0, 1, 2, 3].foldl (fun c i => c.setTracker i ((c.tracker i).cutHist mt)) c
    let d := { c1 with time := { t with slewPs := 0, offPs := t.offPs - offset * 1000 } }
    let w := mkw [(127, 64, mt), (63, 0, (mtimeOf s d).toNat)]
    if c.isActive then s.setCtrl x (s.eventAll d 0x04 0 [w]) else s.setCtrl x d

/-! ## One update of a running controller -/

/-- A write of `ANGLE_CFG` takes effect (R92): offsets step their sources, a flywheel past its new limit ends, and `TIME_SOURCE` and
`PTP_DOMAIN` choose the discipline and the masters anew. -/
def State.takeAngleCfg (s : State) (x : Side) : State :=
  match (s.ctrl x).angleOld with
  | none => s
  | some old =>
    let s1 := s.modCtrl x fun c => { c with angleOld := none }
    let new := (s1.ctrl x).angleCfg
    let e := fun src => angleError (acOffset new src) (acOffset old src)
    let s2 := if e 0 = 0 then s1 else s1.commandStep x 0 (e 0) none
    let s3 := if e 1 = 0 then s2 else s2.commandStep x 1 (e 1) none
    ((s3.endFlywheel x 0).endFlywheel x 1).modCtrl x fun c =>
      (if acDomain new = acDomain old then c else { c with time := { c.time with masters := [], master := none } }).disciplined

/-- The update of a running controller. -/
def State.trackAll (s : State) (x : Side) : State :=
  let c := s.ctrl x
  if c.running && !c.inReset then
    let rate := c.time.ratePart
    [0, 1, 2, 3].foldl (State.trackOne rate x) ((s.takeAngleCfg x).modCtrl x Ctrl.slewTime)
  else s

end Sys2Proof.Machine
end

