-- ==== Sys2Proof/Machine/Ptp.lean ====
section
/-! DEFINITION. IEEE 1588 (R95 to R101): the selection of a master, offsets and delays at each controller's own port. -/

namespace Sys2Proof.Machine

/-- A controller that runs and exchanges PTP messages on its own port (R101). -/
def State.runsPtp (s : State) (x : Side) : Bool := (s.ctrl x).running && !(s.ctrl x).inReset

/-- An interval of 2^n seconds in ns. -/
def logNs (n : Int) : Nat := if n < 0 then 1000000000 / 2 ^ n.natAbs else 1000000000 * 2 ^ n.toNat

/-- The better of two masters by the best master clock algorithm: the better dataset, and between equal ones the lower identity, which
IEEE 1588 compares last (R98; PRESUMED, log entry 88). -/
def betterMaster (a b : Master) : Bool := decide (a.quality < b.quality) || (a.quality == b.quality && decide (a.ident < b.ident))

/-- The best of the masters heard. -/
def bestMaster : List Master → Option Master
  | [] => none
  | m :: ms =>
    match bestMaster ms with
    | none => some m
    | some n => some (if betterMaster n m then n else m)

/-- The master is selected among those heard; a change of master starts the measurement anew. -/
def Ctrl.selectMaster (c : Ctrl) : Ctrl :=
  let best := (bestMaster c.time.masters).map fun m => m.ident
  let t := c.time
  { c with time := if best = t.master then t else { t with master := best, ownOffset := none, delay := 0, delayAt := none, measAt := none } }.disciplined

/-- The dataset of the selected master. -/
def TimeKeep.selected (t : TimeKeep) : Option Master := t.masters.find? fun m => some m.ident == t.master

/-- `currentUtcOffset` of the selected master is followed only to report it, by the ACTIVE controller (R99). -/
def State.reportUtc (s : State) (x : Side) : State :=
  let c := s.ctrl x
  match c.time.selected with
  | none => s
  | some m =>
    if m.utcOffset = c.time.utcOffset then s
    else
      let d := { c with time := { c.time with utcOffset := m.utcOffset } }
      s.setCtrl x (if c.isActive then s.eventAll d 0x04 1 [mkw [(127, 112, m.utcOffset)]] else d)

/-- PTP_ANNOUNCE: a master of the domain is heard, its dataset takes the place of its earlier one, and the best is selected (R98). -/
def execPtpAnnounce (x : Side) (domain : Nat) (a : Announce) (utcOffset : Nat) (s : State) : Host.Outcome State Fault Refusal :=
  let c := s.ctrl x
  if s.runsPtp x && domain == acDomain c.angleCfg then
    let m : Master := { ident := a.ident, quality := a.quality, heardAt := s.clock c, logInt := a.logInt, utcOffset }
    let masters := m :: c.time.masters.filter fun n => n.ident != a.ident
    .next ((s.modCtrl x fun c => { c with time := { c.time with masters } }.selectMaster).reportUtc x)
  else .next s

/-- An announce receipt timeout: 3 intervals without an Announce of that master. -/
def Master.timedOut (m : Master) (now : Nat) : Bool := decide (m.heardAt + 3 * logNs m.logInt ≤ now)

/-- PTP_ANNOUNCE_TIMEOUT: the masters that have timed out are forgotten, and the best of the others is selected. -/
def execPtpAnnounceTimeout (x : Side) (s : State) : Host.Outcome State Fault Refusal :=
  if s.runsPtp x then
    .next ((s.modCtrl x fun c =>
      { c with time := { c.time with masters := c.time.masters.filter fun m => !m.timedOut (s.clock c) } }.selectMaster).reportUtc x)
  else .next s

/-- A Sync of a master counts: of the domain, of the selected master, at a log interval of −7 to +1 (R98). -/
def Ctrl.takesSync (c : Ctrl) (domain ident : Nat) (logInterval : Int) : Bool :=
  domain == acDomain c.angleCfg && c.time.master == some ident && decide (-7 ≤ logInterval) && decide (logInterval ≤ 1)

/-- PTP_SYNC: the controller measures its own offset, MTIME at the receipt less the time the master sent and less the path delay
(PRESUMED, log entry 116); it applies it unless it stands by or PTP is not in effect (R96, R101). -/
def execPtpSync (x : Side) (domain : Nat) (y : Sync) (s : State) : Host.Outcome State Fault Refusal :=
  let c := s.ctrl x
  if s.runsPtp x && c.takesSync domain y.ident y.logInt then
    let own := y.offset - c.time.delay
    let s1 := s.setCtrl x { c with time := { c.time with ownOffset := some own } }
    if c.role != .standby && c.timeInUse == 1 then .next (s1.correctTime x own) else .next s1
  else .next s

/-- The next Delay_Req is due: the first at once, and each at the interval that the master's Delay_Resp names (R98). -/
def TimeKeep.delayDue (t : TimeKeep) (now : Nat) : Bool :=
  t.master.isSome && (match t.delayAt with | some p => decide (p + logNs t.delayInt ≤ now) | none => true)

/-- PTP_DELAY_REQ_SEND: while a master is selected. -/
def execPtpDelayReqSend (x : Side) (s : State) : Host.Outcome State Fault Refusal :=
  let c := s.ctrl x
  if s.runsPtp x && c.time.delayDue (s.clock c) then
    .next ((s.emit (.delayReq x)).modCtrl x fun c => { c with time := { c.time with delayAt := some (s.clock c) } })
  else .next s

/-- PTP_DELAY_RESP: the path delay, and the interval of the next Delay_Req. -/
def execPtpDelayResp (x : Side) (delay : Nat) (logInterval : Int) (s : State) : Host.Outcome State Fault Refusal :=
  if s.runsPtp x && (s.ctrl x).time.master.isSome then
    .next (s.modCtrl x fun c => { c with time := { c.time with delay, delayInt := logInterval } })
  else .next s

end Sys2Proof.Machine
end

