-- ==== Sys2Proof/Machine/RopeState.lean ====
section
/-! DEFINITION. The rope as both controllers of a knot hold it: its state, its role and its events (R22, R26, R416, R428), and what a wake
leaves (R423, R424). -/

namespace Sys2Proof.Machine

/-! ## The rope of the module -/

/-- Two entries stand for one snapshot. -/
def Snap.same (a b : Snap) : Bool := a.origin == b.origin && a.angle == b.angle && a.cycle == b.cycle && a.tag == b.tag

/-- A snapshot as the other controller holds it: with the records that its own links gave it, but for those sent meanwhile (R26). -/
def Snap.held (n : Snap) (held before : List Snap) : Snap :=
  match held.find? n.same with
  | some k =>
    let sent := ((before.find? n.same).map fun m => m.recs.length).getD 0 - n.recs.length
    { n with recs := k.recs.drop sent, awaits := k.awaits }
  | none => { n with recs := [] }

/-- The rope as the ACTIVE controller leaves it; the other one, which receives ROPE_IN by fan-out, holds the same but for the records of
its own links (R22, R26, R416). -/
def State.setRope (s : State) (x : Side) (r : Rope) : State :=
  let o := s.ctrl x.other
  let before := (s.ctrl x).rope.snaps
  let s1 := s.modCtrl x fun c => { c with rope := r }
  if o.running && !o.inReset then
    s1.modCtrl x.other fun c => { c with rope := { r with snaps := r.snaps.map fun n => n.held c.rope.snaps before } }
  else s1

/-- What the controller sends on ROPE_OUT leaves the module while the port-steer output names it (R22, R416). -/
def State.emitRope (s : State) (x : Side) (o : Out) : State := if s.arb.steer == some x then s.emit o else s

def State.modRope (s : State) (x : Side) (f : Rope → Rope) : State := s.setRope x (f (s.ctrl x).rope)

/-- The ROPE word (R428). -/
def ropeWord (ev role who detail : Nat) (cycle : BitVec 32) : Word :=
  mkw [(127, 124, ev), (123, 122, role), (121, 118, who), (117, 114, detail), (95, 64, cycle.toNat)]

/-- A ROPE event for every open session. -/
def State.ropeEvent (s : State) (x : Side) (ev who detail : Nat) : State :=
  s.modCtrl x fun c => s.eventAll c 0x10 who [ropeWord ev c.rope.role who detail c.rope.cycle]

/-- The knot takes a role; a change is published. -/
def State.ropeRole (s : State) (x : Side) (role : Nat) : State :=
  if (s.ctrl x).rope.role = role then s
  else
    (s.modRope x fun r => { r with role }).ropeEvent x 0 s.knotId 0 |>.modCtrl x Ctrl.disciplined

/-- The rope as a knot leaves DORMANT: it listens anew, sends its wake frames if it saw the wake itself, and a former master's cycle number
goes on by the cycles its time counted (R423, R424). -/
def Rope.awake (r : Rope) (now clock : Nat) : Rope :=
  { r with
    wakeSeen := false, woke := !r.bypass && r.wakeBy == 0 && decide (r.wakeSent < 4), listenAt := now
    cycle := if r.role = 0 then r.cycle + BitVec.ofNat 32 ((clock - r.sleptAt) / us 250) else r.cycle, noReturn := 0 }

/-- The rope of a module that leaves DORMANT: a member joins again. -/
def State.awaken (s : State) (x : Side) : State :=
  let s1 := s.modRope x fun r => r.awake s.now (s.clock (s.ctrl x))
  if (s1.ctrl x).rope.role = 1 then s1.ropeRole x 2 else s1

end Sys2Proof.Machine
end

