-- ==== Sys2Proof/Machine/CfgWrite.lean ====
section
/-! DEFINITION. CFG_WRITE (R308 to R310): the checks of every item (R62 b and c, R92, R175, R206, R233, R337, R338, R357, R426,
R441, R443, R454, R456, R467, R468), its keep-bank group, and its effect. -/

namespace Sys2Proof.Machine

/-! ## The message -/

/-- Items that carry their channel in the word. -/
def channelItem (item : Nat) : Bool := item == 1 || item == 2 || item == 3

/-- Items that CFG_WRITE writes (R309). -/
def writtenItem (item : Nat) : Bool :=
  channelItem item || [0x10, 0x20, 0x21, 0x22, 0x23, 0x24, 0x25, 0x26].contains item

/-- The words of a CFG_WRITE with their indices. -/
def cfWords (p : List Word) : List (Nat × Word) :=
  if channelItem (cfItem p) then (p.drop 1).map fun w => (fld w 127 116, w)
  else (List.range (p.length - 1)).map fun i => (cfFirst p + i, wordAt p (i + 1))

/-- The refusals of R310. -/
def cfgShape (p : List Word) : Bool :=
  let n := cfCount p
  writtenItem (cfItem p) && decide (1 ≤ n) && decide (n ≤ 254) && p.length == n + 1 &&
    (if channelItem (cfItem p) then
      (cfWords p).all (fun e => indexOk (cfItem p) e.1 1) && distinct ((cfWords p).map fun e => e.1)
    else indexOk (cfItem p) (cfFirst p) n)

/-! ## The checks of a word -/

/-- R62 for a channel setting: none in CALIBRATE, b in SERVICE, c in SAFE_HOLD. -/
def Ctrl.channelMode (c : Ctrl) (m : Mode) (item ch : Nat) (w : Word) : Nat :=
  let off := (item == 1 && digMode w == 0) || (item == 2 && loopMode w == 0)
  firstFail [
    (m == .calibrate, stModeForbids),
    (m == .service && c.namedByRunning ch, stBusy),
    (m == .safeHold && !off, stModeForbids)]

/-- R175. -/
def digBad (w : Word) : Bool :=
  decide (5 ≤ digMode w) || (bitOf w 112 && digIsOut w) || decide (500 < digHold w) || (bitOf w 80 && !digIsIn w)

/-- R206, first row. -/
def loopBad (w : Word) : Bool :=
  loopMode w == 3 || loopFsk w == 3 || decide (500 < loopHold w) || decide (fld w 94 90 < 5) || decide (20 < fld w 94 90) ||
    decide (fld w 87 80 < 5) || decide (12000000 < fld w 79 56) || (bitOf w 98 && loopMode w != 1)

/-- R206, second row, and R67. -/
def loopForbidden (w : Word) : Bool :=
  (fld w 113 112 != 0 && loopMode w != 2) || (loopFsk w != 0 && loopMode w == 0)

/-- R233. -/
def convBad (w : Word) : Bool := convKind w == 3 || decide (13 ≤ fld w 113 110) || decide (5 ≤ fld w 101 99) || fld w 82 67 == 0

/-- R92. -/
def angleBad (w : Word) : Bool :=
  decide (acFreq w < 1000) || decide (5000000 < acFreq w) || decide (2 ≤ acFallback w 0) || decide (2 ≤ acFallback w 1) ||
    acFlywheel w == 0 || decide (127 < acDomain w)

/-- Edges of a watchdog window outside their range (R441, R443). -/
def edgesBad (o c : Nat) : Bool :=
  decide (o < 32) || decide (8192 < o) || decide (c < 32) || decide (8192 < c) || decide (c < o + 32)

/-- Fields of `HOST_WDOG_CFG` (R443). -/
def hwEn (w : Word) : Bool := bitOf w 127
def hwOpen (w : Word) : Nat := fld w 119 106
def hwClose (w : Word) : Nat := fld w 105 92
def hwLimit (w : Word) : Nat := fld w 91 89

/-- The checks of R443. -/
def Ctrl.hostDogStatus (c : Ctrl) (i : Nat) (w : Word) : Nat :=
  firstFail [
    (hwEn w && (edgesBad (hwOpen w) (hwClose w) || hwLimit w == 0), stRange),
    (!(c.session i).isOpen, stNoSession),
    (!hwEn w && c.runningDuties.any fun d => hGuarded d.2.header && hGuard d.2.header == i, stBusy)]

/-- The checks of `FAULT_CFG`. A write made while an injection runs is refused (R456). -/
def Ctrl.faultStatus (c : Ctrl) (x : Side) (w : Word) : Nat :=
  firstFail [
    (fld w 127 118 == 0 || decide (1000 < fld w 127 118), stRange),
    (injChecker w != 0 && injStatus x w c == stRange, stRange),
    (c.faults.injOn, stBusy)]

/-- The address that a port would hold after the write. -/
def Ctrl.addressAfter (c : Ctrl) (p : List Word) (i : Nat) : Nat :=
  match (cfWords p).find? fun e => e.1 == i with
  | some e => fld e.2 119 88
  | none => fld (c.setting (0x506 + i)) 119 88

/-- R357. -/
def Ctrl.portBad (c : Ctrl) (p : List Word) (i : Nat) (w : Word) : Bool :=
  if i = 0 then false
  else if i = 3 then !bitOf w 127
  else
    let port := fld w 79 64
    decide (fld w 87 82 < 8) || decide (30 < fld w 87 82) || fld w 81 80 == 3 || port == 0 || port == 319 || port == 320 ||
      c.addressAfter p 1 == c.addressAfter p 2

/-- The status of one word under the rules of its item; `m` is the mode left by every change committed before. -/
def Ctrl.wordStatus (c : Ctrl) (x : Side) (m : Mode) (p : List Word) (e : Nat × Word) : Nat :=
  let (i, w) := e
  match cfItem p with
  | 0x01 => if digBad w then stRange else c.channelMode m 1 i w
  | 0x02 => if loopBad w then stRange else if loopForbidden w then stModeForbids else c.channelMode m 2 i w
  | 0x03 => if convBad w then stRange else c.channelMode m 3 i w
  | 0x10 => if angleBad w then stRange else stOk
  | 0x20 => if fld w 127 124 = 2 ∨ fld w 127 124 = 3 then stOk else stRange
  | 0x21 => if edgesBad (wdOpen w) (wdClose w) || !bitOf w 127 then stRange else stOk
  | 0x22 => c.hostDogStatus i w
  | 0x23 => c.faultStatus x w
  | 0x24 => if 1000 < fld w 121 112 then stRange else stOk
  | 0x25 => if c.portBad p i w then stRange else stOk
  | _ => stOk

/-! ## The keep-bank group -/

/-- One item word put into a group. Four sessions' seeds share a word. -/
def Ctrl.groupWord (c : Ctrl) (item : Nat) (g : List (Nat × Word)) (e : Nat × Word) : List (Nat × Word) :=
  let a := c.areaAt (itemOffset item e.1)
  if item = 0x22 then
    let old := match g.find? fun q => q.1 == a with | some q => q.2 | none => c.setting (itemOffset item e.1)
    let k := 32 * (e.1 % 4)
    (g.filter fun q => q.1 != a) ++ [(a, setFld old (k + 31) k (fld e.2 63 32))]
  else g ++ [(a, storedSetting (itemOffset item e.1) e.2)]

/-- The words a CFG_WRITE stores. -/
def Ctrl.cfgGroup (c : Ctrl) (p : List Word) : List (Nat × Word) := (cfWords p).foldl (c.groupWord (cfItem p)) []

/-- The checks of CFG_WRITE: its shape, its words in payload order, then wear (R310, R467). -/
def checkCfgWrite (x : Side) (m : Mode) (p : List Word) (c : Ctrl) : Nat :=
  if !cfgShape p then stRange
  else
    let st := firstBad ((cfWords p).map (c.wordStatus x m p))
    if st != stOk then st else if c.settled.wouldWear (c.cfgGroup p) then stWorn else stOk

/-- The ports of the Trela-3 generation: Ethernet and USB (R283). -/
def isTrela3 (p : Port) : Bool := portClass p == 1 || portClass p == 2

/-- R338: Trela-3 configuration, which comes over Ethernet or USB, of a pod that Trela-1 has written since the last
rebalance. -/
def Ctrl.cfgMixes (c : Ctrl) (q : Req) (p : List Word) : Bool :=
  channelItem (cfItem p) && isTrela3 q.port &&
    (cfWords p).any fun e => tget 0 c.podSpi (linkOf e.1) == 1 + c.sched.rebalances

/-! ## Effects -/

/-- A channel word in force: what the pod, the image, the tests and the trim of the channel do (R176, R177, R207, R219, R234,
R317). `old` is the word before. -/
def State.channelWritten (s : State) (x : Side) (item ch : Nat) (old new : Word) : State :=
  let armed := match (s.ctrl x).arm with | some a => a.ch == ch | none => false
  let s1 := if armed then s.endArm x 5 else s
  let wasOut := if item = 1 then digIsOut old else item == 2 && loopMode old == 2
  let isOut := if item = 1 then digIsOut new else item == 2 && loopMode new == 2
  let drops := (wasOut && !isOut) || (item == 2 && isOut && loopFsk new == 2 && loopFsk old != 2)
  let s2 := s1.modCtrl x fun c =>
    let c1 := s1.endTest c ch 3
    (if drops then c1.clearCmd ch else c1).sendConfig ch (item - 1)
  let s3 := if item = 2 ∧ (loopFsk new = 0 ∨ loopMode new = 0) then s2.fskAbort x ch else s2
  match item with
  | 2 => s3.modBoth fun c => { c with valueSince := tset 0 c.valueSince ch (mtimeOf s (s.ctrl x)).toNat }
  | 3 =>
    let src := fld new 101 99
    if fld old 101 67 = fld new 101 67 ∧ convKind old = convKind new then s3
    else
      s3.modBoth fun c => { c with
        trigC0 := tset {} c.trigC0 ch { c0 := ((s.ctrl x).tracker (src - 1)).cycle + 1 }, trigMarks := tset none c.trigMarks ch none }
  | _ => s3

/-- Configuration of a pod since the last rebalance, noted for R338. -/
def Ctrl.noteCfg (c : Ctrl) (q : Req) (link : Nat) : Ctrl :=
  if isTrela3 q.port then { c with podCfg := tset 0 c.podCfg link (1 + c.sched.rebalances) } else c

/-- `WDOG_CFG` written: `LOCK` is sticky, disabled watchdogs run again, and a change of server restarts the window (R439,
R441). -/
def State.wdogWritten (s : State) (x : Side) (old new : Word) : State :=
  let s1 := if bitOf new 126 then s.modBoth fun c => { c with lock := true } else s
  let s2 := s1.enableDogs
  if wdHost old = wdHost new then s2 else s2.resumeDog x

/-- `HOST_WDOG_CFG` written (R443). -/
def State.hostDogWritten (s : State) (x : Side) (i : Nat) (w : Word) : State :=
  let was := ((s.ctrl x).hostDog i).state
  let s1 := s.modCtrl x fun c =>
    c.setHostDog i { c.hostDog i with openE := hwOpen w, close := hwClose w, limit := hwLimit w }
  if hwEn w then (if was = 1 then s1 else s1.startHostDog x i)
  else s1.modCtrl x fun c =>
    let d := c.hostDog i
    c.setHostDog i { d with state := 0, bad := 0, dog := { d.dog with st := 3, isPending := false } }

/-- `FAULT_CFG` written: an injection starts (R455). -/
def State.faultWritten (s : State) (x : Side) (w : Word) : State :=
  if injChecker w = 0 then s.modCtrl x fun c => { c with faults := { c.faults with inject := w, injDone := 0 } }
  else s.startInjection x w

/-- A rope-wide reset asked of the master: its next CSF, or a request in the knot's next slot (R420). -/
def State.askRopeReset (s : State) (x : Side) : State :=
  let w := mkw [(127, 124, 5), (123, 120, s.knotId)]
  s.modRope x fun r => if r.role = 0 then { r with cmds := r.cmds ++ [w] } else { r with requests := r.requests ++ [w] }

/-- `PORT_CFG` written: the change waits until the reply has left (R357). -/
def Ctrl.portWritten (c : Ctrl) (tag i : Nat) (old : Word) : Ctrl :=
  { c with ports := { c.ports with waitCfg := c.ports.waitCfg ++ [(tag, i, old)] } }

/-- `STATUS` bit 12, `WIN_CHANGED`, as bit 0 of the flags. -/
def spiWin : BitVec 4 := 1

/-- `SPI_WINDOW` written (R337). -/
def Ctrl.windowWritten (c : Ctrl) (old new : Word) : Ctrl :=
  if fld old 127 122 = fld new 127 122 then c else { c with spi := { c.spi with flags := c.spi.flags ||| spiWin } }

/-- The effect of one word, its settings being in force; `old` is the word they replace. -/
def State.wordWritten (s : State) (x : Side) (q : Req) (item i : Nat) (old new : Word) : State :=
  match item with
  | 0x10 => s.angleWritten old
  | 0x21 => s.wdogWritten x old new
  | 0x22 => s.hostDogWritten x i new
  | 0x23 => s.faultWritten x new
  | 0x24 => if bitOf new 126 then s.askRopeReset x else s
  | 0x25 => s.modCtrl x fun c => c.portWritten q.tag i old
  | 0x26 => s.modBoth fun c => c.windowWritten old new
  | _ => if channelItem item then (s.channelWritten x item i old new).modCtrl x fun c => c.noteCfg q (linkOf i) else s

/-- The effect of an accepted CFG_WRITE: one group, and all its words at the one commit. -/
def effectCfgWrite (x : Side) (q : Req) (p : List Word) (s : State) : State × Option (List Word) :=
  let c := s.ctrl x
  let item := cfItem p
  let olds := (cfWords p).map fun e => (e.1, c.setting (itemOffset item e.1), e.2)
  let (s1, r) := s.postGroup x q.tag (c.cfgGroup p) []
  ((olds.foldl (fun s e => s.wordWritten x q item e.1 e.2.1 e.2.2) s1).syncImage x, r)

end Sys2Proof.Machine
end

