-- ==== Sys2Proof/Machine/Pods.lean ====
section
/-! DEFINITION. A pod as its links and its supply drive it: receive states (R263, R264), the tether and claim rules (R366 to R369,
R381), the mode and the reference it takes (R43, R65, R184, R280), and its holds (R193, R212, R275, R279). -/

namespace Sys2Proof.Machine

/-! ## Receivers (R263, R264) -/

/-- A sequence that the reconstruction of R263 can give after `s`. -/
def seqFollows (s seq : Nat) : Bool :=
  let d := (seq + 4096 - s) % 4096
  decide (1 ≤ d) && decide (d ≤ 16)

/-- A bad frame: 3 in a row degrade a good end, and 16 in a row lose the link. -/
def Rx.takeBad (r : Rx) : Rx :=
  match r.st with
  | .hunt => { r with good := 0, bad := 0 }
  | st =>
    let n := r.bad + 1
    if 16 ≤ n then { r with st := .hunt, good := 0, bad := 0 }
    else { r with st := if 3 ≤ n then .degraded else st, good := 0, bad := n }

/-- A frame that checks, with its sequence, and whether the receiver uses it. Two with consecutive sequences end HUNT; a
sequence that R263 cannot give is a bad frame. Only a frame that is used becomes the last good one (R264, R272; DEDUCED, log entry
104). -/
def Rx.takeGood (r : Rx) (seq : Nat) : Rx × Bool :=
  match r.st with
  | .hunt =>
    if r.good = 1 ∧ seq = (r.seq + 1) % 4096 then ({ r with st := .good, good := 0, bad := 0, seq }, false)
    else ({ r with good := 1, bad := 0, seq }, false)
  | .good => if seqFollows r.seq seq then ({ r with good := 0, bad := 0, seq, last := seq }, true) else (r.takeBad, false)
  | .degraded =>
    if seqFollows r.seq seq then
      if 16 ≤ r.good + 1 then ({ st := .good, good := 0, bad := 0, seq, last := seq }, true)
      else ({ r with good := r.good + 1, bad := 0, seq, last := seq }, true)
    else (r.takeBad, false)

def Pod.rx (p : Pod) : Side → Rx
  | .a => p.rxA
  | .b => p.rxB

def Pod.setRx (p : Pod) (x : Side) (r : Rx) : Pod :=
  match x with
  | .a => { p with rxA := r }
  | .b => { p with rxB := r }

/-- The end of the last good frame of a link. -/
def Pod.lastGood (p : Pod) : Side → Nat
  | .a => p.lastGoodA
  | .b => p.lastGoodB

def Pod.setGood (p : Pod) (x : Side) (now : Nat) : Pod :=
  match x with
  | .a => { p with lastGoodA := now, quiet := false }
  | .b => { p with lastGoodB := now, quiet := false }

/-! ## The tether word (R366) -/

def tetherKind (t : BitVec 48) : Nat := nfld t.toNat 47 46
def tetherSide (t : BitVec 48) : Side := sideOf (nfld t.toNat 45 45)
def tetherEpoch (t : BitVec 48) : BitVec 32 := BitVec.ofNat 32 (nfld t.toNat 44 13)
def tetherClaim (t : BitVec 48) : Nat := nfld t.toNat 44 37
def tetherRenew (t : BitVec 48) : Nat := nfld t.toNat 12 9
/-- `T_CHK` holds. -/
def tetherOk (t : BitVec 48) : Bool := crcOf 0 (numBytes 5 (t.toNat / 256)) == nfld t.toNat 7 0

/-- A tether word with its check value. -/
def tetherWord (kind side body : Nat) : BitVec 48 :=
  let n := kind * 2 ^ 38 + side * 2 ^ 37 + body
  BitVec.ofNat 48 (n * 256 + crcOf 0 (numBytes 5 n))

/-- The word of a grant. -/
def grantWord (kind : Nat) (x : Side) (epoch : BitVec 32) (renew : Nat) : BitVec 48 :=
  tetherWord kind (sideCode x) (epoch.toNat * 2 ^ 5 + renew % 16 * 2)

/-- The word of a claim (R381). -/
def claimWord (x : Side) (claim : Nat) : BitVec 48 := tetherWord 2 (sideCode x) (claim % 256 * 2 ^ 29)

/-- `e` is at least `p` in serial arithmetic (R363). -/
def epochGe (e p : BitVec 32) : Bool := decide ((e - p).toNat < 2 ^ 31)

/-- The pod's lease timer runs (R368). -/
def Pod.leaseRuns (p : Pod) (now : Nat) : Bool := p.lease && decide (now < p.leaseEnd)

/-- The checks of R367 and R369. -/
def Pod.grantPasses (p : Pod) (now : Nat) (x : Side) (t : BitVec 48) : Bool :=
  let e := tetherEpoch t
  tetherOk t && tetherKind t == 1 && tetherSide t == x &&
    (p.acceptAny || (e == p.epoch && p.leaseRuns now) || (e != p.epoch && epochGe e p.epoch))

/-- A passed word: a new epoch is taken and starts the lease, and a new renewal restarts it (R367, R368). -/
def Pod.takeGrant (p : Pod) (now : Nat) (x : Side) (t : BitVec 48) : Pod :=
  let p1 := { p with refSide := x, lastPass := now }
  let r := tetherRenew t
  if tetherEpoch t != p.epoch || p.acceptAny then
    { p1 with
      epoch := tetherEpoch t, lease := true, acceptAny := false, leaseEnd := now + ms 20, renew := r }
  else if r != p.renew then { p1 with leaseEnd := now + ms 20, renew := r }
  else p1

/-- The claim a frame of a link carries, if its word is one of that side. -/
def claimIn (x : Side) (t : BitVec 48) : Option Nat :=
  if tetherOk t && tetherKind t == 2 && tetherSide t == x then some (tetherClaim t) else none

def Pod.claim (p : Pod) : Side → Option Nat
  | .a => p.claimA
  | .b => p.claimB

def Pod.setClaim (p : Pod) (x : Side) (c : Option Nat) : Pod :=
  match x with
  | .a => { p with claimA := c }
  | .b => { p with claimB := c }

/-- The claim of a link prevails: a link in HUNT does not count, and equal claims go to link A (R381). -/
def Pod.claimPrevails (p : Pod) (x : Side) : Bool :=
  match p.claim x with
  | none => false
  | some c =>
    match (if (p.rx x.other).st = .hunt then none else p.claim x.other) with
    | none => true
    | some d => decide (d < c) || (c == d && x == .a)

/-! ## Stamps (R29, R273) -/

/-- An instant as `REF_SEQ` and `TICK`. -/
def Pod.stamp (p : Pod) (now : Nat) : Nat × Nat := (p.refSeq, (now - p.refStart) / 25 % 1024)

/-- The link the pod counts from (R184). -/
def Pod.counts (p : Pod) : Side := if p.refFallback then p.refSide.other else p.refSide

/-- A frame of a link ends now: its first bit stands 2 µs before (R259). -/
def frameStart (now : Nat) : Nat := now - 2000

/-- A good frame of link `x` as the pod's reference, and the reference back on its own link. -/
def Pod.refer (p : Pod) (now : Nat) (x : Side) (seq ftime : Nat) : Pod :=
  let p1 := if x = p.refSide then { p with refFallback := false } else p
  if x = p1.counts then
    { p1 with
      refSeq := seq, refStart := frameStart now,
      mtime := p1.mtime + (ftime + 16777216 - p1.mtime % 16777216) % 16777216 }
  else p1

/-- The angle of AS0, advanced at `PERIOD0` from the newest TIME frame (R269). -/
def Pod.angleNow (p : Pod) (now : Nat) : Nat :=
  if p.period0 = 0 then p.angle0.toNat else (p.angle0.toNat + (now - p.timeAt) * 262144 / p.period0) % 65536

/-- AS0 is tracked, as the newest TIME frame gives its state (R241). -/
def Pod.tracked (p : Pod) : Bool := decide (2 ≤ p.state0) && decide (p.state0 ≤ 5)

/-! ## Channels of a pod -/

/-- The L1 field of a kind 3 record with `SUB` 0 (R258). -/
def diagField (temp : Nat) (old new : BitVec 8) (isPending : Bool) : Nat :=
  fld (mkw [(63, 56, temp), (55, 48, new.toNat), (47, 40, (old ^^^ new).toNat), (39, 39, b2n isPending)]) 63 32

/-- An item that is no value. -/
def UpItem.ahead : UpItem → Bool
  | .value .. => false
  | _ => true

/-- A loop channel changed: a change of `DIAG` or `PENDING` makes a kind 3 record, and the fast flag goes ahead of any value
(R258, R276). The front-end temperature it carries is a free value, but saturates at 127 while a front end too hot to drive has not
cooled below 135 °C (R203, R511). -/
def State.putLoop (s : State) (ch : Nat) (l : LoopCh) : State :=
  let old := s.loop ch
  let s1 := s.setLoop ch l
  if old.diag = l.diag ∧ old.pending = l.pending then s1
  else
    let (t, s2) := s1.draw
    let p := s2.pod (linkOf ch)
    let (r, k) := p.stamp s.now
    let i := UpItem.diag (pinOf ch) (diagField (if l.hot then 127 else t % 256) old.diag l.diag l.pending) r k
    let q := if l.pending && !old.pending then p.items.takeWhile UpItem.ahead ++ [i] ++ p.items.dropWhile UpItem.ahead
      else p.items ++ [i]
    s2.setPod (linkOf ch) { p with items := q }

/-- The loop output follows its command, mode and strap. -/
def State.regulate (s : State) (ch : Nat) (l : LoopCh) : State :=
  let p := s.pod (linkOf ch)
  s.putLoop ch (l.regulate p.mode p.alm s.now)

/-- A requested conversion that cannot give a result gives no record (R234, R314). -/
def State.dropConvs (s : State) (ch : Nat) (l : LoopCh) : State :=
  let s1 := if l.trigRun then s.convLost ch false else s
  if l.urgent then s1.convLost ch true else s1

/-- The modulators of a channel powered down, with what they were doing. -/
def LoopCh.powerDown (l : LoopCh) : LoopCh :=
  { l with
    powered := false, starting := false, trigRun := false, urgent := false, skipFirst := false, segs := [], mark := none
    relock := false }

/-- The time since the origin of the conversion grid, on the rate-corrected timebase of the ACTIVE controller (R238). -/
def State.gridTime (s : State) : Option Nat := s.active.map fun x => s.clock (s.ctrl x) - (s.ctrl x).time.grid

/-- The number of the newest grid instant `k × P` at or before a time, each rounded down to the ns; a window ends at the modulator
clock nearest its instant, up to 244 ns before it (R238). -/
def gridIndex (rate t : Nat) : Nat := ((t + 245) * 32 - 1) / (decimation rate * 15625)

/-- The number of the newest instant of a channel's grid. While no controller is ACTIVE the pods carry their windows on, and each
window that ends is taken as the next (log entry 105). -/
def State.gridNow (s : State) (l : LoopCh) : Nat :=
  match s.gridTime with
  | some t => gridIndex (fld l.conv 113 110) t
  | none => l.gridNo + 1

/-- The primary decimator restarted: the results that follow carry `SETTLING`, and the next one in CONT stands at the grid instant
after `grid` (R246, R247). -/
def LoopCh.restart (grid : Nat) (l : LoopCh) : LoopCh :=
  { l with
    segs := [], gridNo := grid
    settle :=
      if convKind l.conv = 2 then 0 else if convKind l.conv = 1 ∧ bitOf l.conv 107 = false then convK l.conv + 2 else 3 }

/-- The auxiliary comparator in a mode: outside WB use the wire-break watch is suspended and `OPEN` clears, and the verdict starts
from zero as WB use begins (R43, R189). -/
def DigCh.useAux (m : Mode) (now : Nat) (d : DigCh) : DigCh :=
  let watch := d.configured && digMode d.cfg == 2
  let off := auxUse m != 1
  let d1 := { d with
    diag := putBit d.diag dSuspended (watch && off)
    openFrom := if dbit d.diag dSuspended && !off then now else d.openFrom }
  if watch && !off then d1 else { d1 with diag := putBit d1.diag dOpen false }

/-- A digital channel as a mode begins. -/
def State.digIn (s : State) (m : Mode) (ch : Nat) : State := s.setDig ch ((s.dig ch).useAux m s.now |>.settle m s.now)

/-- A loop channel as a mode begins: DORMANT powers every modulator down, and the wake powers them up (R48, R65, R244). -/
def State.loopIn (s : State) (before m : Mode) (ch : Nat) : State :=
  let l := s.loop ch
  if m = .dormant then
    (s.dropConvs ch l).regulate ch { l.powerDown with sending := false, txBytes := [] }
  else if before = .dormant ∧ l.configured ∧ loopMode l.cfg ≠ 0 then s.regulate ch { l with starting := true }
  else s.regulate ch l

/-- The pod takes a mode (R280). -/
def State.podMode (s : State) (link : Nat) (m : Mode) : State :=
  let p := s.pod link
  if p.mode = m then s
  else
    let s1 := s.setPod link { p with mode := m }
    (linkChans link).foldl (fun s ch => if link < 64 then s.digIn m ch else s.loopIn p.mode m ch) s1

/-! ## Holds and the state of the pod (R275, R279) -/

/-- A channel is a configured output. -/
def State.podOut (s : State) (ch : Nat) : Bool :=
  if isDigital ch then (s.dig ch).configured && digIsOut (s.dig ch).cfg
  else (s.loop ch).configured && loopMode (s.loop ch).cfg == 2

def State.anyOut (s : State) (link : Nat) : Bool := (linkChans link).any s.podOut

/-- A channel has not been configured since power-up. -/
def State.isStarting (s : State) (link : Nat) : Bool :=
  (linkChans link).any fun ch => if isDigital ch then !(s.dig ch).configured else !(s.loop ch).configured

def holdCounts (h : Option Hold) : Bool :=
  match h with
  | some h => h.counts
  | none => false

/-- A hold that the pod's LEASE_HOLD or LINK_HOLD counts runs on some channel. -/
def State.holding (s : State) (link : Nat) : Bool :=
  (linkChans link).any fun ch => holdCounts (if isDigital ch then (s.dig ch).hold else (s.loop ch).hold)

/-- The modems of a loop pod stop: each finishes its character, turns its carrier off and drops the rest (R228). -/
def State.stopModems (s : State) (link : Nat) : State :=
  if link < 64 then s
  else
    (linkChans link).foldl (fun s ch =>
      let l := s.loop ch
      if l.sending || !l.txBytes.isEmpty then s.regulate ch { l with sending := false, txBytes := [] } else s) s

/-- The tether changes holder from `x` to `y`, as the pod sees it (R228). -/
def State.changeHolder (s : State) (link : Nat) (x y : Side) : State := if x = y then s else s.stopModems link

/-- The pod's hold is over once no channel holds; `expired` that safe values came of it. A pod without outputs holds until its
next accepted frame (DESIGN CHOICE, log entry 42). -/
def State.endHolds (s : State) (link : Nat) (expired : Bool) : State :=
  let p := s.pod link
  let p1 := { p with safe := p.safe || expired }
  if s.anyOut link && !s.holding link then s.setPod link { p1 with leaseHold := false, linkHold := false }
  else s.setPod link p1

/-- A hold begins on every output that holds none, and the modems stop (R193, R212, R228, R279). A pod in STARTING with no output
configured has nothing to hold and goes on reporting STARTING. -/
def State.startHolds (s0 : State) (link : Nat) (k : HoldKind) : State :=
  let s := s0.stopModems link
  let p := s.pod link
  if s.isStarting link && !s.anyOut link then s else
  let first := if p.leaseHold || p.linkHold then p.holdFirst else k
  let p1 := { p with
    holdFirst := first, leaseHold := p.leaseHold || k == .lease, linkHold := p.linkHold || k == .auto }
  let s1 := (linkChans link).foldl (fun s ch =>
    if link < 64 then s.setDig ch ((s.dig ch).startHold p.mode s.now k)
    else s.putLoop ch ((s.loop ch).startHold p.mode p.alm s.now k)) (s.setPod link p1)
  s1.endHolds link (s1.anyOut link && !s1.holding link)

/-- The tether lapses: the pod reports LEASE_HOLD and holds (R368). -/
def State.lapse (s : State) (link : Nat) : State :=
  (s.setPod link { s.pod link with lease := false, acceptAny := false, lastPass := s.now }).startHolds link .lease

/-- `POD_STATE` (R275). -/
def State.podState (s : State) (link : Nat) : Nat :=
  let p := s.pod link
  if p.leaseHold || p.linkHold then (if p.holdFirst = .auto then 3 else 2)
  else if s.isStarting link then 0
  else if p.safe then 4
  else 1

/-! ## A good downlink frame at a pod -/

/-- A frame whose word passes: its mode is taken (R280); a pod without outputs ends its hold. -/
def State.podPass (s : State) (link : Nat) (h : DownHdr) : State :=
  let s1 := if s.anyOut link then s else s.setPod link { s.pod link with leaseHold := false, linkHold := false }
  match modeOf h.mode with
  | some m => s1.podMode link m
  | none => s1

/-- A frame in use: the reference, the tether checks and the mode. The answer is whether the pod acts on the frame's commands. -/
def State.podUse (s : State) (link : Nat) (h : DownHdr) (p : Pod) : State × Bool :=
  let p1 := (p.setGood h.side s.now).setClaim h.side (claimIn h.side h.tether)
  if s.compat then
    if p1.claimPrevails h.side then
      (((s.setPod link ({ p1 with refSide := h.side }.refer s.now h.side h.seq h.ftime)).changeHolder link p.refSide
        h.side).podPass link h, true)
    else (s.setPod link (p1.refer s.now h.side h.seq h.ftime), false)
  else if p1.grantPasses s.now h.side h.tether then
    (((s.setPod link ((p1.takeGrant s.now h.side h.tether).refer s.now h.side h.seq h.ftime)).changeHolder link p.refSide
      h.side).podPass link h, true)
  else
    let s1 := s.setPod link (p1.refer s.now h.side h.seq h.ftime)
    if tetherOk h.tether && tetherKind h.tether == 0 && tetherEpoch h.tether == p1.epoch && p1.lease then
      (s1.lapse link, false)
    else (s1, false)

/-- A good frame on a link of a pod: the state, whether the frame is used, and whether the pod acts on its commands. -/
def State.podFrame (s : State) (link : Nat) (h : DownHdr) : State × Bool × Bool :=
  let p := s.pod link
  if !p.powered || decide (96 ≤ link) then (s, false, false)
  else
    let (r, used) := (p.rx h.side).takeGood h.seq
    let p1 := p.setRx h.side r
    if used then
      let (s1, act) := s.podUse link h p1
      (s1, true, act)
    else if r.st = .hunt then (s.setPod link (p1.setClaim h.side none), false, false)
    else if (p.rx h.side).st = .hunt then (s.setPod link (p1.setGood h.side s.now), false, false)
    else (s.setPod link p1, false, false)

/-- POD_IDLE_FRAME. -/
def execPodIdleFrame (link : Nat) (h : DownHdr) (s : State) : Host.Outcome State Fault Refusal :=
  .next (s.podFrame link h).1

/-- POD_BAD_FRAME: also an empty slot (R262). -/
def execPodBadFrame (link : Nat) (x : Side) (s : State) : Host.Outcome State Fault Refusal :=
  let p := s.pod link
  if !p.powered || decide (96 ≤ link) then .next s
  else
    let r := (p.rx x).takeBad
    let p1 := p.setRx x r
    .next (s.setPod link (if r.st = .hunt then p1.setClaim x none else p1))

/-! ## Timers of a pod -/

/-- AUTONOMOUS_HOLD_START: no good frame on either link for 250 µs (R279). A pod in STARTING holds only what is configured as an
output. -/
def execAutonomousHoldStart (link : Nat) (s : State) : Host.Outcome State Fault Refusal :=
  let p := s.pod link
  if p.powered && !p.quiet && decide (p.lastGoodA + us 250 ≤ s.now) && decide (p.lastGoodB + us 250 ≤ s.now) &&
      (!s.isStarting link || s.anyOut link) then
    .next ((s.setPod link { p with quiet := true }).startHolds link .auto)
  else .next s

/-- LEASE_LAPSE: 20 ms after the last restart of the lease (R368). Under COMPAT no lease lapses (R381). -/
def execLeaseLapse (link : Nat) (s : State) : Host.Outcome State Fault Refusal :=
  let p := s.pod link
  if p.powered && p.lease && decide (p.leaseEnd ≤ s.now) && !s.compat then .next (s.lapse link) else .next s

/-- HOLD_EXPIRY: the safe value applies (R193, R212). The pod reports SAFE after a hold that it counts (R275). -/
def execHoldExpiry (ch : Nat) (s : State) : Host.Outcome State Fault Refusal :=
  let p := s.pod (linkOf ch)
  let h := if isDigital ch then (s.dig ch).hold else if isLoop ch then (s.loop ch).hold else none
  match h with
  | none => .next s
  | some h =>
    if !p.powered || decide (s.now < h.ends) then .next s
    else
      let s1 := if isDigital ch then s.setDig ch ((s.dig ch).endHold p.mode s.now)
        else s.putLoop ch ((s.loop ch).endHold p.mode p.alm s.now)
      .next (s1.endHolds (linkOf ch) h.counts)

/-- POD_TETHER_ACCEPT_ANY: no word has passed for 1 s since the power-up or the last lapse (R369). -/
def execPodTetherAcceptAny (link : Nat) (s : State) : Host.Outcome State Fault Refusal :=
  let p := s.pod link
  if p.powered && !p.lease && decide (p.lastPass + ms 1000 ≤ s.now) then .next (s.setPod link { p with acceptAny := true })
  else .next s

/-- REFERENCE_FALLBACK: the reference link has been silent for more than 10 µs (R184). -/
def execReferenceFallback (link : Nat) (s : State) : Host.Outcome State Fault Refusal :=
  let p := s.pod link
  let y := p.refSide.other
  if p.powered && !p.refFallback && decide (p.lastGood p.refSide + us 10 < s.now) then
    .next (s.setPod link { p with refFallback := true, refSeq := (p.rx y).seq, refStart := frameStart (p.lastGood y) })
  else .next s

/-! ## Power (R278, R506) -/

/-- A pod that has started: outputs off, nothing configured (R178, R197, R278). -/
def State.podUp (s : State) (link : Nat) : State :=
  if (s.pod link).powered then s
  else
    let s1 := s.setPod link { powered := true, lastPass := s.now, lastGoodA := s.now, lastGoodB := s.now }
    (linkChans link).foldl (fun s ch =>
      if link < 64 then s.setDig ch {}
      else
        (s.setLoop ch {}).modBoth fun c => { c with valueSince := tset 0 c.valueSince ch (mtimeOf s c).toNat }) s1

/-- A pod that has stopped: what it was converting gives no record, and a calibration it was running is reported as skipped
(DESIGN CHOICE, log entry 43). -/
def State.podDown (s : State) (link : Nat) : State :=
  if !(s.pod link).powered then s
  else
    let s1 := (linkChans link).foldl (fun s ch =>
      if link < 64 then s.setDig ch {} else (s.dropConvs ch (s.loop ch)).setLoop ch {}) (s.setPod link {})
    s1.onActive fun x c =>
      let n := tget 0 c.calJobs link
      if n = 0 then s1
      else s1.setCtrl x (s.eventTo { c with calJobs := tset 0 c.calJobs link 0 } (n - 1) 0x0A (link - 64)
        ((linkChans link).map skippedWord))

/-- POD_POWER_UP. -/
def execPodPowerUp (bay : Nat) (s : State) : Host.Outcome State Fault Refusal :=
  if 32 ≤ bay then .next s else .next ((bayLinks bay).foldl State.podUp s)

/-- POD_POWER_DOWN. -/
def execPodPowerDown (bay : Nat) (s : State) : Host.Outcome State Fault Refusal :=
  if 32 ≤ bay then .next s else .next ((bayLinks bay).foldl State.podDown s)

end Sys2Proof.Machine
end

