-- ==== Sys2Proof/Machine/Loops.lean ====
section
/-! DEFINITION. Loop channels at their pod: results of conversions (R229 to R257), wire break (R249, R250), verification (R208),
temperature and supply (R203, R209), the ALM strap (R211), self-calibration (R251 to R253), the diagnostic inputs (R256) and
received FSK characters (R227). -/

namespace Sys2Proof.Machine

/-! ## Results -/

/-- A channel converts: its primary modulator is powered in LOOP_IN or LOOP_OUT, in a mode in which conversion runs (R36, R65). -/
def State.converts (s : State) (ch : Nat) : Bool :=
  let l := s.loop ch
  let p := s.pod (linkOf ch)
  isLoop ch && p.powered && !loopHeld p.mode && l.configured && loopMode l.cfg != 0 && l.powered && !l.starting

/-- A window is in progress: always in CONT and LOCKED, and in TRIG from the start that a trigger has set. -/
def LoopCh.inWindow (now : Nat) (l : LoopCh) : Bool := l.urgent || convKind l.conv != 2 || (l.trigRun && decide (l.trigStart ≤ now))

/-- The boundaries follow the angle of AS0: LOCKED with AS0 tracked (R239, R241). -/
def Pod.locks (p : Pod) (l : LoopCh) : Bool := convKind l.conv == 1 && p.tracked

/-- The position of AS0 in angle units, counted from cycle 0 of the 12-bit cycle number that TIME frames carry (R269). -/
def Pod.position (p : Pod) (now : Nat) : Nat :=
  p.cycle0 * 65536 + p.angle0.toNat + (if p.period0 = 0 then 0 else (now - p.timeAt) * 262144 / p.period0)

/-- The number of a boundary: the nearest, or after a forward step the last at or before the position (R239, R242). -/
def Pod.boundary (p : Pod) (now : Nat) (l : LoopCh) : Nat :=
  let b := 65536 / convK l.conv
  (p.position now + (if l.trigSkip then 0 else b / 2)) / b % (4096 * convK l.conv)

/-- A boundary comes after the newest one that made a result: none makes a result twice (R242). -/
def LoopCh.isNew (l : LoopCh) (n : Nat) : Bool :=
  let all := 4096 * convK l.conv
  match l.mark with
  | none => true
  | some m =>
    let d := (n + all - m % all) % all
    decide (0 < d) && decide (d < all / 2)

/-- `INDEX` of the window that ends now: the boundary while AS0 is tracked, else the count (R239, R241, R257). -/
def Pod.indexNow (p : Pod) (now : Nat) (l : LoopCh) : Nat :=
  if convKind l.conv = 2 then 0 else if p.locks l then p.boundary now l % convK l.conv else l.index

/-- `INDEX` of the window in progress: that of the boundary at which it is to end (R247, R249). -/
def Pod.windowIndex (p : Pod) (now : Nat) (l : LoopCh) : Nat :=
  if convKind l.conv = 2 then 0
  else if p.locks l then
    let n := p.position now / (65536 / convK l.conv) + 1
    (if l.isNew n then n else l.mark.getD 0 + 1) % convK l.conv
  else l.index

/-- A window of CONT or LOCKED can end now: at a grid instant, or a boundary, that no window has ended at yet; a forward step closes
the sub-window in progress (R238, R239, R242). -/
def State.windowEnds (s : State) (ch : Nat) : Bool :=
  let l := s.loop ch
  let p := s.pod (linkOf ch)
  if convKind l.conv = 0 then s.gridNow l != l.gridNo else !p.locks l || l.trigSkip || l.isNew (p.boundary s.now l)

/-- The window closed: its grid instant or its boundary is over. -/
def State.closeWindow (s : State) (ch : Nat) : LoopCh :=
  let l := s.loop ch
  let p := s.pod (linkOf ch)
  if convKind l.conv = 0 then { l with gridNo := s.gridNow l }
  else if p.locks l then { l with mark := some (p.boundary s.now l) }
  else l

/-- The length of a channel's window in ns: 3 output periods, or K + 2 sub-windows in CYCLE form (R230, R240). -/
def State.windowNs (s : State) (ch : Nat) : Nat :=
  let l := s.loop ch
  if convKind l.conv = 1 then
    let sub := (s.pod (linkOf ch)).period0 / 4 / convK l.conv
    if bitOf l.conv 107 then 3 * sub else (convK l.conv + 2) * sub
  else 3 * gridPeriod (fld l.conv 113 110)

/-- A result as the factors of self-calibration give it, to the nearest LSB (R253; log entry 102). Offsets count in units of 4 nA. -/
def factored (off gain : BitVec 16) (raw : Int) : Int :=
  roundDiv ((raw - 2 * sext 16 off.toNat) * (1048576 + sext 16 gain.toNat)) 1048576

/-- A primary result of the modulator with its factors. -/
def LoopCh.priRaw (l : LoopCh) (raw : Int) : Int := factored l.priOff l.priGain raw

/-- A window of some ns that ends now overlaps the last clamp of a surge (R213). -/
def LoopCh.clamped (l : LoopCh) (now win : Nat) : Bool :=
  match l.clampAt with
  | some t => decide (now ≤ t + win)
  | none => false

/-- The count after a window with an index. -/
def LoopCh.nextIndex (l : LoopCh) (i : Nat) : Nat :=
  if convKind l.conv = 2 then 0 else (i + 1) % (if convKind l.conv = 1 then convK l.conv else 64)

/-- Flags of a value slot, bits [27:22] (R276). -/
def slotFlags (valid settling interrupted isOpen overload skipped : Bool) : Nat :=
  b2n valid * 32 + b2n settling * 16 + b2n interrupted * 8 + b2n isOpen * 4 + b2n overload * 2 + b2n skipped

/-- A value in the failure range of NE 43 (R201). -/
def ne43 (w : Word) (v : Int) : Bool := bitOf w 96 && (decide (v ≤ 1800000) || decide (10500000 ≤ v))

/-- A value item queued: the reported range saturates (R198, R257), and during calibration the value is 0 and not `VALID`
(R252). `VALID` falls with `UNCAL` (R236) and with the diagnostic inputs (R256), and a window of `win` ns that overlaps a clamp
carries `OVERLOAD` (R213). -/
def State.putValue (s : State) (ch path index win : Nat) (v : Int) (valid settling interrupted skipped : Bool) : State :=
  let p := s.pod (linkOf ch)
  let l := s.loop ch
  let cal := p.calPhase != 0
  let sat := !cal && (decide (v < -500000) || decide (12500000 < v) || dbit l.diag lOverload || l.clamped s.now win)
  let ok := valid && !cal && !dbit l.diag lUncal && p.refBad == 0 && !p.supplyBad
  let (r, k) := p.stamp s.now
  s.setPod (linkOf ch) { p with
    items := p.items ++ [.value (pinOf ch) path index (if cal then 0 else clampI (-500000) 12500000 v)
      (slotFlags ok (settling || cal) interrupted (dbit l.diag lOpen) sat skipped) r k] }

/-- `ALARM` of a LOOP_IN channel follows its newest value (R201, R209). -/
def State.markAlarm (s : State) (ch : Nat) (v : Int) : State :=
  let l := s.loop ch
  if loopMode l.cfg = 1 ∧ (s.pod (linkOf ch)).calPhase = 0 then
    s.putLoop ch { l with diag := putBit l.diag lAlarm (ne43 l.cfg v) }
  else s

/-- A primary result of a window of `win` ns that ends now, before trim (R215). -/
def State.primary (s : State) (ch index win : Nat) (raw : Int) (valid settling interrupted skipped : Bool) : State :=
  let v := clampI (-500000) 12500000 (trimIn (s.loop ch).trim raw)
  (s.markAlarm ch v).putValue ch 0 index win (trimIn (s.loop ch).trim raw) valid settling interrupted skipped

/-- A result in CYCLE form is the mean of the last K, or of those after the restart (R230, R240). -/
def LoopCh.addSegment (l : LoopCh) (raw : Int) : Int × LoopCh :=
  if convKind l.conv = 1 ∧ bitOf l.conv 107 = false then
    let g := (raw :: l.segs).take (convK l.conv)
    (roundDiv g.sum g.length, { l with segs := g })
  else (raw, l)

/-- CONVERSION_RESULT: a window of CONT or LOCKED ends. An urgent window in its place, or an interrupted result that stands for
it, leaves it without one (R247, R249); so does the first boundary after a lock of AS0, where the decimator restarts (R241). -/
def execConversionResult (ch : Nat) (raw : Int) (s : State) : Host.Outcome State Fault Refusal :=
  let l := s.loop ch
  let p := s.pod (linkOf ch)
  let l0 := s.closeWindow ch
  if !s.converts ch || convKind l.conv == 2 || l.urgent || !s.windowEnds ch then .next s
  else if l.relock && p.locks l then
    .next (s.setLoop ch ({ l0 with relock := false, trigSkip := false, aborts := satAt 255 (l.aborts + 1) }.restart l.gridNo))
  else if l.skipFirst && p.calPhase == 0 then .next (s.setLoop ch { l0 with skipFirst := false })
  else
    let i := p.indexNow s.now l
    let (v, l1) := l0.addSegment (l.priRaw raw)
    let l2 := { l1 with
      index := l.nextIndex i, settle := l.settle - 1, trigSkip := false, skipFirst := false, lastResult := s.now }
    .next ((s.setLoop ch l2).primary ch i (s.windowNs ch) v true (l.settle != 0) false l.trigSkip)

/-- Output verification is paused for 10 ms after a clamp (R213). -/
def LoopCh.verPaused (l : LoopCh) (now : Nat) : Bool := l.clamped now (ms 10 - 1)

/-- READBACK_RESULT: at 200 S/s it feeds `VER_READBACK`, and is a record with `RB_REC` (R208, R229). -/
def execReadbackResult (ch : Nat) (raw : Int) (s : State) : Host.Outcome State Fault Refusal :=
  let l := s.loop ch
  let p := s.pod (linkOf ch)
  if !isLoop ch || !p.powered || !l.configured || loopMode l.cfg == 0 || loopHeld p.mode then .next s
  else
    let v := factored l.rbOff l.rbGain raw
    let watch := loopMode l.cfg == 2 && decide (2 ≤ fld l.cfg 113 112) && p.calPhase == 0 && !l.verPaused s.now &&
      decide (l.setAt + ms (if loopFsk l.cfg = 0 then 2 else 50) ≤ s.now)
    let wrong := watch && decide (fld l.cfg 87 80 * 5000 < (v - (l.source : Int)).natAbs)
    let n := if wrong then satAt 3 (l.rbBad + 1) else if watch then 0 else l.rbBad
    let s1 := s.putLoop ch { l with
      rbBad := n, rbIndex := (l.rbIndex + 1) % 64, diag := if n = 3 then putBit l.diag lMismatch true else l.diag }
    .next (if bitOf l.conv 106 then s1.putValue ch 1 l.rbIndex (ms 15) v true false false false else s1)

/-- TRIGGERED_CONVERSION_END: the window of 3 periods from its start is over, to the nearest modulator clock: one result, never
`SETTLING` (R243, R245); its write is the commit point of its request (R248). -/
def execTriggeredConversionEnd (ch : Nat) (raw : Int) (s : State) : Host.Outcome State Fault Refusal :=
  let l := s.loop ch
  if !s.converts ch || convKind l.conv != 2 || !l.trigRun || decide (s.now + 488 < l.trigStart + s.windowNs ch) then .next s
  else
    let s1 := s.setLoop ch { l with trigRun := false, trigSkip := false, lastResult := s.now }
    .next ((s1.primary ch 0 (s.windowNs ch) (l.priRaw raw) true false false l.trigSkip).convWritten ch false)

/-- An urgent window lasts 1.875 ms (R247). -/
def urgentNs : Nat := 1875000

/-- URGENT_CONVERSION_END: the result stands in place of the aborted window's, with its `INDEX`, and the channel restarts (R247). -/
def execUrgentConversionEnd (ch : Nat) (raw : Int) (s : State) : Host.Outcome State Fault Refusal :=
  let l := s.loop ch
  let p := s.pod (linkOf ch)
  if !s.converts ch || !l.urgent || p.calPhase != 0 then .next s
  else
    let i := l.urgentIndex
    let l1 := { l with urgent := false, index := l.nextIndex i, lastResult := s.now, trigSkip := false }.restart (s.gridNow l)
    .next (((s.setLoop ch l1).primary ch i urgentNs (l.priRaw raw) true false false false).convWritten ch true)

/-! ## Power of the modulators (R244) -/

/-- MODULATOR_POWER_DOWN. -/
def execModulatorPowerDown (ch : Nat) (s : State) : Host.Outcome State Fault Refusal :=
  let l := s.loop ch
  let idle := fld l.conv 66 59
  if s.converts ch && loopMode l.cfg == 1 && convKind l.conv == 2 && idle != 0 && !l.trigRun && !l.urgent &&
      decide (l.lastResult + ms (10 * idle) ≤ s.now) then .next (s.setLoop ch { l with powered := false })
  else .next s

/-- MODULATOR_START_UP_END: 250 µs after the modulator was started, the decimator restarts (R246). -/
def execModulatorStartUpEnd (ch : Nat) (s : State) : Host.Outcome State Fault Refusal :=
  let l := s.loop ch
  if isLoop ch && l.starting then .next (s.setLoop ch ({ l with starting := false, powered := true }.restart (s.gridNow l))) else .next s

/-! ## Wire break (R249, R250) -/

/-- The rules of a break apply: LOOP_IN in effect, with `OPEN_DET` (R65, R200). -/
def State.watchesBreak (s : State) (ch : Nat) : Bool :=
  let l := s.loop ch
  isLoop ch && (s.pod (linkOf ch)).powered && l.configured && loopMode l.cfg == 1 && bitOf l.cfg 97 &&
    !loopHeld (s.pod (linkOf ch)).mode

/-- The interrupted result of the window in progress, with its `INDEX`, and the restart. It ends a triggered window, and it answers
an urgent request. -/
def State.interrupt (s : State) (ch : Nat) (raw : Int) : State :=
  let l := s.loop ch
  let p := s.pod (linkOf ch)
  if !s.converts ch || !l.inWindow s.now || p.calPhase != 0 then s
  else
    let i := if l.urgent then l.urgentIndex else p.windowIndex s.now l
    let l1 := { l with
      trigRun := false, urgent := false, trigSkip := false, lastResult := s.now, index := l.nextIndex i,
      skipFirst := convKind l.conv != 2 }.restart (s.gridNow l)
    let s1 := (s.setLoop ch l1).primary ch i (if l.urgent then urgentNs else s.windowNs ch) (l.priRaw raw) false false true l.trigSkip
    let s2 := if l.trigRun then s1.convWritten ch false else s1
    if l.urgent then s2.convWritten ch true else s2

/-- LOOP_BREAK_TRIP: the interrupted result, the restart and the fast flag. -/
def execLoopBreakTrip (ch : Nat) (raw : Int) (s : State) : Host.Outcome State Fault Refusal :=
  if !s.watchesBreak ch || (s.loop ch).tripped then .next s
  else
    let s1 := s.interrupt ch raw
    .next (s1.putLoop ch { s1.loop ch with tripped := true, tripAt := s.now, pending := true })

/-- LOOP_BREAK_CONFIRM: tripped for 1.5 ms without release. -/
def execLoopBreakConfirm (ch : Nat) (s : State) : Host.Outcome State Fault Refusal :=
  let l := s.loop ch
  if s.watchesBreak ch && l.tripped && decide (l.tripAt + us 1500 ≤ s.now) then
    .next (s.putLoop ch { l with diag := putBit l.diag lOpen true })
  else .next s

/-- LOOP_BREAK_RELEASE: the current returns. A confirmed break ends with a restart and an interrupted result; one that was not
confirmed clears `PENDING` alone (DEDUCED, log entry 44). -/
def execLoopBreakRelease (ch : Nat) (raw : Int) (s : State) : Host.Outcome State Fault Refusal :=
  let l := s.loop ch
  if !isLoop ch || !l.tripped then .next s
  else
    let s1 := if dbit l.diag lOpen then s.interrupt ch raw else s
    let l1 := s1.loop ch
    .next (s1.putLoop ch { l1 with tripped := false, pending := false, diag := putBit l1.diag lOpen false })

/-! ## Output verification (R208) and diagnostic bits (R203, R209) -/

/-- A powered channel, configured and not in LOOP_OFF. -/
def State.loopLive (s : State) (ch : Nat) : Bool :=
  isLoop ch && (s.pod (linkOf ch)).powered && (s.loop ch).configured && loopMode (s.loop ch).cfg != 0

/-- A bit of `DIAG` changed. -/
def State.setDiag (s : State) (ch bit : Nat) (v : Bool) : State :=
  s.putLoop ch { s.loop ch with diag := putBit (s.loop ch).diag bit v }

/-- `VER_COMPLIANCE` watches the source: LOOP_OUT, and a setpoint of at least 1.0 mA, outside the pause of R213. -/
def State.watchesSource (s : State) (ch : Nat) : Bool :=
  let l := s.loop ch
  s.loopLive ch && loopMode l.cfg == 2 && (fld l.cfg 113 112 == 1 || fld l.cfg 113 112 == 3) && decide (500000 ≤ l.source) &&
    !l.verPaused s.now

/-- VERIFY_OPEN_LOOP. -/
def execVerifyOpenLoop (ch : Nat) (s : State) : Host.Outcome State Fault Refusal :=
  if s.watchesSource ch then .next (s.setDiag ch lOpen true) else .next s

/-- VERIFY_COMPLIANCE. -/
def execVerifyCompliance (ch : Nat) (s : State) : Host.Outcome State Fault Refusal :=
  if s.watchesSource ch then .next (s.setDiag ch lCompliance true) else .next s

/-- VERIFY_CLEAR: the condition has been absent for 10 ms. -/
def execVerifyClear (ch bit : Nat) (s : State) : Host.Outcome State Fault Refusal :=
  if s.loopLive ch && loopMode (s.loop ch).cfg == 2 && (bit == lOpen || bit == lCompliance || bit == lMismatch) then
    let s1 := if bit = lMismatch then s.setLoop ch { s.loop ch with rbBad := 0 } else s
    .next (s1.setDiag ch bit false)
  else .next s

/-- SUPPLY_VERDICT. -/
def execSupplyVerdict (ch : Nat) (bad : Bool) (s : State) : Host.Outcome State Fault Refusal :=
  if s.loopLive ch then .next (s.setDiag ch lSupply bad) else .next s

/-- LOOP_OVERLOAD_VERDICT. On a LOOP_OUT channel, which has no verdict of its own, the current past the threshold is the clamp of a
surge, which marks the results it overlaps and pauses verification (R213; DESIGN CHOICE, log entry 103). -/
def execLoopOverloadVerdict (ch : Nat) (exceeds : Bool) (s : State) : Host.Outcome State Fault Refusal :=
  if !s.loopLive ch then .next s
  else if loopMode (s.loop ch).cfg = 1 then .next (s.setDiag ch lOverload exceeds)
  else if exceeds then .next (s.setLoop ch { s.loop ch with clampAt := some s.now })
  else .next s

/-- LOOP_OVERTEMP: at 150 °C the source stops, below 135 °C it resumes (R203). -/
def execLoopOvertemp (ch : Nat) (hot : Bool) (s : State) : Host.Outcome State Fault Refusal :=
  let l := s.loop ch
  if !s.loopLive ch || l.hot == hot then .next s
  else if hot then .next (s.regulate ch { l with hot := true, diag := putBit l.diag lOvertemp true })
  else .next (s.regulate ch { l with hot := false, coolAt := s.now })

/-- LOOP_OVERTEMP_FLAG_CLEAR: 10 ms after the current resumed. -/
def execLoopOvertempFlagClear (ch : Nat) (s : State) : Host.Outcome State Fault Refusal :=
  let l := s.loop ch
  if s.loopLive ch && !l.hot && decide (l.coolAt + ms 10 ≤ s.now) then .next (s.setDiag ch lOvertemp false) else .next s

/-- ALM_CHANGE: a level that has stood for 20 ms (R211). -/
def execAlmChange (pod level : Nat) (s : State) : Host.Outcome State Fault Refusal :=
  let link := 64 + pod
  let p := s.pod link
  if 32 ≤ pod || !p.powered || decide (4 ≤ level) then .next s
  else
    let s1 := (linkChans link).foldl (fun s ch => s.regulate ch (s.loop ch))
      (s.setPod link { p with alm := level, almRead := true })
    let tell := if p.almRead then p.alm != level else level == 3
    .next (if tell then s1.publish 0x0C pod [mkw [(127, 126, level)]] else s1)

/-! ## Self-calibration (R251 to R255) -/

/-- A pod starts to calibrate. An urgent conversion that runs is made when the calibration ends (R247). -/
def State.startCal (s : State) (link : Nat) : State :=
  let p := s.pod link
  if p.calPhase ≠ 0 then s
  else
    let waits := (List.range 4).filter fun i => (s.loop (chanAt link i)).urgent
    (linkChans link).foldl (fun s ch => s.setLoop ch { s.loop ch with calState := 1, urgent := false })
      (s.setPod link { p with calPhase := 1, calStart := s.now, urgentAfter := waits })

/-- SELF_CAL_PHASE_END. -/
def execSelfCalPhaseEnd (pod : Nat) (s : State) : Host.Outcome State Fault Refusal :=
  let link := 64 + pod
  let p := s.pod link
  if decide (pod < 32) && p.powered && decide (1 ≤ p.calPhase) && decide (p.calPhase ≤ 7) &&
      decide (p.calStart + ms (160 * p.calPhase) ≤ s.now) then
    .next (s.setPod link { p with calPhase := p.calPhase + 1 })
  else .next s

/-- The measures of one channel at the end of its calibration. -/
structure CalData where
  temp    : Int
  priOff  : Int
  rbOff   : Int
  priGain : Int
  rbGain  : Int
  diff    : Int
  current : Int
  refDev  : Int

/-- `CAL_RESULT`: the first refusal of R253. Offsets count in units of 4 nA. -/
def CalData.result (d : CalData) : Nat :=
  let bad := fun (off gain : Int) => decide (60000 < (2 * off).natAbs) || decide (10486 < gain.natAbs)
  if bad d.priOff d.priGain then 1
  else if bad d.rbOff d.rbGain then 2
  else if decide (500000 ≤ d.current) && decide (12000 < d.diff.natAbs) then 3
  else if 500 < d.refDev.natAbs then 4
  else 0

/-- The factors of a channel, or its failure; the previous factors stay after a failure. Completed calibrations count
(DESIGN CHOICE, log entry 43). -/
def LoopCh.calibrated (l : LoopCh) (now : Nat) (d : CalData) : LoopCh :=
  if d.result = 0 then
    { l with
      calState := 2, calResult := 0, calTemp := tempField d.temp, priOff := BitVec.ofInt 16 d.priOff,
      rbOff := BitVec.ofInt 16 d.rbOff, priGain := BitVec.ofInt 16 d.priGain, rbGain := BitVec.ofInt 16 d.rbGain,
      calCount := satAt 65535 (l.calCount + 1), calAt := now, departed := false, diag := putBit l.diag lUncal false }
  else { l with calState := 3, calResult := d.result }

/-- An urgent conversion starts: the window in progress is aborted, and a powered-down modulator starts up first (R247). -/
def State.startUrgent (s : State) (ch : Nat) : State :=
  let l := s.loop ch
  let p := s.pod (linkOf ch)
  if !l.configured || loopMode l.cfg == 0 || loopHeld p.mode then s.convLost ch true
  else if p.calPhase ≠ 0 then
    s.setPod (linkOf ch) { p with urgentAfter := insertOnce (pinOf ch) p.urgentAfter }
  else if l.urgent then s
  else
    let s1 := if l.trigRun then s.convLost ch false else s
    s1.setLoop ch { l with
      urgent := true, urgentIndex := p.windowIndex s.now l, trigRun := false, starting := l.starting || !l.powered }

/-- The event that reports a calibration: to the session that asked for it, else to every open session (R253, R254). -/
def State.tellCal (s : State) (link : Nat) : State :=
  s.onActive fun x c =>
    let ws := (linkChans link).map s.calWord
    let n := tget 0 c.calJobs link
    if n = 0 then s.setCtrl x (s.eventAll c 0x0A (link - 64) ws)
    else s.setCtrl x (s.eventTo { c with calJobs := tset 0 c.calJobs link 0 } (n - 1) 0x0A (link - 64) ws)

/-- The restart of a channel at the end of its pod's self-calibration: the window in progress makes no result, a triggered one
included (R246). -/
def State.calRestart (s : State) (ch : Nat) (d : CalData) : State :=
  let l := s.loop ch
  let s1 := if l.trigRun then s.convLost ch false else s
  let lost := s.converts ch && l.inWindow s.now
  s1.putLoop ch ({ l.calibrated s.now d with
    trigRun := false, trigSkip := false, aborts := if lost then satAt 255 (l.aborts + 1) else l.aborts }.restart (s.gridNow l))

/-- SELF_CAL_END: factors are checked and written, and every channel restarts. -/
def execSelfCalEnd (pod : Nat) (temp priOff rbOff priGain rbGain diff current refDev : List Int) (s : State) :
    Host.Outcome State Fault Refusal :=
  let link := 64 + pod
  let p := s.pod link
  if 32 ≤ pod || !p.powered || p.calPhase == 0 || decide (s.now < p.calStart + ms 1280) then .next s
  else
    let s1 := (List.range 4).foldl (fun s i =>
      let d : CalData :=
        { temp := temp.getD i 0, priOff := priOff.getD i 0, rbOff := rbOff.getD i 0, priGain := priGain.getD i 0,
          rbGain := rbGain.getD i 0, diff := diff.getD i 0, current := current.getD i 0, refDev := refDev.getD i 0 }
      s.calRestart (chanAt link i) d) (s.setPod link { p with calPhase := 0, urgentAfter := [] })
    .next ((p.urgentAfter.foldl (fun s i => s.startUrgent (chanAt link i)) s1).tellCal link)

/-- CAL_TEMP_DEPARTURE: more than 20 °C from `CAL_TEMP`, published once (R256). -/
def execCalTempDeparture (ch : Nat) (temp : Int) (s : State) : Host.Outcome State Fault Refusal :=
  let l := s.loop ch
  if isLoop ch && (s.pod (linkOf ch)).powered && l.calCount != 0 && !l.departed &&
      decide (20 < (temp - sext 8 l.calTemp.toNat).natAbs) then
    let s1 := s.setLoop ch { l with departed := true }
    .next (s1.onActive fun x c =>
      let v := fld (mkw [(63, 56, (tempField temp).toNat), (55, 48, l.diag.toNat), (39, 39, b2n l.pending)]) 63 32
      let (r, c1) := s1.form c c.defaultSource ch 3 (mtimeOf s1 c).toNat v ((fValid, true) :: loopFlags l.diag)
      s1.setCtrl x (s1.eventAll c1 0x0B (linkOf ch - 64) [leaving r.word]))
  else .next s

/-! ## Diagnostic inputs and FSK characters -/

/-- A measurement out of its limit (R256). -/
def outOfLimit (sub : Nat) (v : Int) : Bool :=
  match sub with
  | 1 => decide (500 < v.natAbs)
  | 2 => decide (v < 16500) || decide (38000 < v)
  | _ => decide (12500 < v)

/-- DIAG_INPUT_MEASUREMENT: the next input of the rotation, as a kind 3 record of position 0 (R256, R258). -/
def execDiagInputMeasurement (pod : Nat) (value : Int) (s : State) : Host.Outcome State Fault Refusal :=
  let link := 64 + pod
  let p := s.pod link
  if 32 ≤ pod || !p.powered then .next s
  else
    let sub := p.diagNext
    let bad := outOfLimit sub value
    let l1 := fld (mkw [(63, 40, twos 24 value), (39, 39, b2n bad), (38, 36, sub)]) 63 32
    let (r, k) := p.stamp s.now
    .next (s.setPod link { p with
      diagNext := if sub = 3 then 1 else sub + 1
      refBad := if sub = 1 then (if bad then 2 else p.refBad - 1) else p.refBad
      supplyBad := if sub = 2 then bad else p.supplyBad
      items := p.items ++ [.diag 0 l1 r k] })

/-- FSK_CHARACTER: up to 3 received characters as a kind 4 record; nothing is received where the modem is idle (R36, R65, R227). -/
def execFskCharacter (ch : Nat) (bytes : List Byte) (first last parityErr : Bool) (s : State) :
    Host.Outcome State Fault Refusal :=
  let p := s.pod (linkOf ch)
  let l := s.loop ch
  if !s.loopLive ch || !fskActs p.mode l.cfg || bytes.isEmpty || decide (3 < bytes.length) then .next s
  else
    let b := fun i => (bytes.getD i 0).toNat
    let l1 := fld (mkw [(63, 56, b 0), (55, 48, b 1), (47, 40, b 2), (39, 38, bytes.length), (37, 37, b2n first),
      (36, 36, b2n last), (35, 35, b2n parityErr)]) 63 32
    let (r, k) := p.stamp s.now
    .next (s.setPod (linkOf ch) { p with items := p.items ++ [.fsk (pinOf ch) l1 r k] })

end Sys2Proof.Machine
end

