-- ==== Sys2Proof/Machine/Digital.lean ====
section
/-! DEFINITION. Digital channels at their pod: the debounced state (R170, R179, R182), edge captures (R184), wire-break verdicts
(R185), protection and its retries (R187, R188), verdicts on outputs (R189) and deferred level changes (R172). -/

namespace Sys2Proof.Machine

/-- A digital channel of a powered pod, configured and not OFF. -/
def State.digLive (s : State) (ch : Nat) : Bool :=
  isDigital ch && (s.pod (linkOf ch)).powered && (s.dig ch).configured && digMode (s.dig ch).cfg != 0

/-- A configured output of a powered pod. -/
def State.digDrives (s : State) (ch : Nat) : Bool := s.digLive ch && digIsOut (s.dig ch).cfg

/-- The pod's mode as a channel sees it. -/
def State.modeAt (s : State) (ch : Nat) : Mode := (s.pod (linkOf ch)).mode

/-! ## Inputs -/

/-- A wake, in DORMANT (R182). -/
def State.signalWake (s : State) : State :=
  s.onActive fun x c => if c.mode = .dormant ∨ c.rope.sleepSt ≠ 0 then s.setCtrl x { c with rope := { c.rope with wakeSeen := true } } else s

/-- `EDGE_REC` selects an edge: rising 1, falling 2. -/
def selectsEdge (w : Word) (level : Bool) : Bool := nbit (fld w 95 94) (if level then 0 else 1)

/-- An edge at the capture register of an input: the first that `EDGE_REC` selects since the last readout is latched with its tick,
and a later one is counted as lost (R184). -/
def State.latchEdge (s : State) (ch : Nat) (level raw : Bool) (tick : Nat) : State :=
  let d := s.dig ch
  let p := s.pod (linkOf ch)
  if !digIsIn d.cfg || !selectsEdge d.cfg level then s
  else
    match d.capture with
    | some _ => s.setDig ch { d with lost := satAt 255 (d.lost + 1) }
    | none =>
      let k : Capture := { level, raw, refSeq := p.refSeq, tick := tick % 1024, order := p.captures, lost := d.lost }
      (s.setDig ch { d with capture := some k, lost := 0 }).setPod (linkOf ch) { p with captures := p.captures + 1 }

/-- The debounce window of a channel in ns: `DEBOUNCE`, and for an input in DORMANT at least 1,000 µs (R179, R182). -/
def debounceNs (m : Mode) (w : Word) : Nat :=
  us (if digIsIn w && m == .dormant then max (fld w 111 96) 1000 else fld w 111 96)

/-- DEBOUNCE_CHANGE: the raw samples of an input, or of an output's pin, have differed from the debounced state for the window in
force, which cannot have begun before the last change or the discarding of a window (R170, R177, R179). Outside EDGE use the change is
what the capture register sees (R42; DEDUCED for idle use, log entry 112). -/
def execDebounceChange (ch : Nat) (s : State) : Host.Outcome State Fault Refusal :=
  let d := s.dig ch
  let p := s.pod (linkOf ch)
  if !s.digLive ch || decide (s.now < d.since + debounceNs p.mode d.cfg) then .next s
  else
    let s1 := s.setDig ch { d with state := !d.state, since := s.now }
    let s2 := if auxUse p.mode = 2 then s1 else s1.latchEdge ch (!d.state) false (p.stamp s.now).2
    .next (if digIsIn d.cfg && bitOf d.cfg 80 then s2.signalWake else s2)

/-- EDGE_CAPTURE: with EDGE in use, an edge at the auxiliary comparator (R42). -/
def execEdgeCapture (ch : Nat) (level : Bool) (tick : Nat) (s : State) : Host.Outcome State Fault Refusal :=
  if s.digLive ch && auxUse (s.modeAt ch) == 2 then .next (s.latchEdge ch level true tick) else .next s

/-- OPEN_VERDICT: IN_WB with the auxiliary comparator in WB use, the current having stood for 4 ms since the last verdict, or since
the watch began anew (R43, R177, R185). -/
def execOpenVerdict (ch : Nat) (isOpen : Bool) (s : State) : Host.Outcome State Fault Refusal :=
  let d := s.dig ch
  if s.digLive ch && digMode d.cfg == 2 && auxUse (s.modeAt ch) == 1 && dbit d.diag dOpen != isOpen &&
      decide (d.openFrom + ms 4 ≤ s.now) then
    .next (s.setDig ch { d with diag := putBit d.diag dOpen isOpen, openFrom := s.now })
  else .next s

/-! ## Protection (R187, R188) -/

/-- Protection switches a channel off, and with it a hold of the channel ends (R187, R194). -/
def State.protect (s : State) (ch : Nat) (thermal : Bool) (d : DigCh) : State :=
  (s.setDig ch (d.switchOff s.now thermal)).endHolds (linkOf ch) false

/-- OVERLOAD_TRIP: the high side has been in current limit for 50 µs. -/
def execOverloadTrip (ch : Nat) (s : State) : Host.Outcome State Fault Refusal :=
  let d := s.dig ch
  if s.digDrives ch && d.drive == 2 then
    .next (s.protect ch false { d with diag := putBit d.diag dOverload true })
  else .next s

/-- SHORT_TRIP: the low side has been in current limit for 50 µs. -/
def execShortTrip (ch : Nat) (s : State) : Host.Outcome State Fault Refusal :=
  let d := s.dig ch
  if s.digDrives ch && d.drive == 1 then
    .next (s.protect ch false { d with diag := putBit d.diag dShort true })
  else .next s

/-- OVERTEMP_TRIP: at 165 °C; an output is switched off. -/
def execOvertempTrip (ch : Nat) (temp : Int) (s : State) : Host.Outcome State Fault Refusal :=
  let d := s.dig ch
  let d1 := { d with diag := putBit d.diag dOvertemp true }
  if !s.digLive ch || decide (temp < 165) then .next s
  else if digIsOut d.cfg then .next (s.protect ch true d1)
  else .next (s.setDig ch d1)

/-- POD_ILIM_TRIP: of the high sides that share the largest current, the lowest pin is switched off. -/
def execPodIlimTrip (pod : Nat) (largest : List Nat) (s : State) : Host.Outcome State Fault Refusal :=
  let on := (largest.foldr insertOnce []).filter fun k =>
    decide (k < 16) && s.digDrives (chanAt pod k) && (s.dig (chanAt pod k)).drive == 2
  match on with
  | [] => .next s
  | k :: _ =>
    if 64 ≤ pod then .next s
    else
      let d := s.dig (chanAt pod k)
      let d1 := { d with diag := putBit (putBit d.diag dOverload true) dIlim true }
      .next (s.protect (chanAt pod k) false d1)

/-- PROTECTION_RETRY: 100 ms after a switch-off for current, or once the junction is below 150 °C, without `OVL_LATCH`; an
input that has cooled loses `OVERTEMP`. -/
def execProtectionRetry (ch : Nat) (s : State) : Host.Outcome State Fault Refusal :=
  let d := s.dig ch
  if !s.digLive ch then .next s
  else
    match d.prot with
    | none => .next (if digIsOut d.cfg then s else s.setDig ch { d with diag := putBit d.diag dOvertemp false })
    | some p =>
      if ovlLatch d.cfg || (!p.thermal && decide (s.now < p.since + ms 100)) then .next s
      else .next (s.setDig ch ({ d.release with drivingAt := s.now }.settle (s.modeAt ch) s.now))

/-- PROTECTION_CLEAR: the channel has driven its commanded level for 10 ms without protection. A `SHORT` of the off state has its own
verdict while the channel is off. -/
def execProtectionClear (ch : Nat) (s : State) : Host.Outcome State Fault Refusal :=
  let d := s.dig ch
  if s.digDrives ch && d.prot.isNone && d.drive == d.wanted (s.modeAt ch) && decide (d.drivingAt + ms 10 ≤ s.now) then
    let e := putBit (putBit (putBit (putBit d.diag dOverload false) dIlim false) dOvertemp false) dShort false
    .next (s.setDig ch { d with diag := e, offShort := d.offShort && d.drive == 0 })
  else .next s

/-! ## Verdicts on outputs (R189) -/

/-- MISMATCH_VERDICT: OUT_PP_RB, driving, the level having stood for 30 µs. -/
def execMismatchVerdict (ch : Nat) (differs : Bool) (s : State) : Host.Outcome State Fault Refusal :=
  let d := s.dig ch
  let stood := match d.lastChange with | some t => decide (t + us 30 ≤ s.now) | none => true
  if s.digDrives ch && digMode d.cfg == 4 && d.drive != 0 && (stood || !differs) then
    .next (s.setDig ch { d with diag := putBit d.diag dMismatch differs })
  else .next s

/-- OFF_STATE_SHORT_VERDICT: OUT_PP_RB with the drive state off for 1 ms; what protection raised stays under R188. -/
def execOffStateShortVerdict (ch : Nat) (high : Bool) (s : State) : Host.Outcome State Fault Refusal :=
  let d := s.dig ch
  let stood := match d.lastChange with | some t => decide (t + ms 1 ≤ s.now) | none => true
  if s.digDrives ch && digMode d.cfg == 4 && d.drive == 0 && stood then .next (s.setDig ch { d with offShort := high })
  else .next s

/-- LEVEL_CHANGE_DEFERRED: 25 µs after the last level change the newest held level applies (R172). -/
def execLevelChangeDeferred (ch : Nat) (s : State) : Host.Outcome State Fault Refusal :=
  let d := s.dig ch
  let due := match d.lastChange with | some t => decide (t + us 25 ≤ s.now) | none => true
  match d.held with
  | some l => if s.digLive ch && due then .next (s.setDig ch (d.setDrive s.now l)) else .next s
  | none => .next s

end Sys2Proof.Machine
end

