-- ==== Sys2Proof/Machine/PodFrames.lean ====
section
/-! DEFINITION. Downlink frames as a pod acts on them (R267 to R271): OUTPUT, CONFIG (R176 to R178, R207, R234), REQUEST (R243,
R247, R251), TIME (R269, R242) and FSK. -/

namespace Sys2Proof.Machine

/-! ## OUTPUT (R268) -/

/-- The masked commands of a digital pod. -/
def State.digOutput (s : State) (link : Nat) (w : Word) : State :=
  (List.range 16).foldl (fun s k =>
    if bitOf w (80 + k) then
      let ch := chanAt link k
      s.setDig ch ((s.dig ch).command (s.pod link).mode s.now (fld w (97 + 2 * k) (96 + 2 * k)))
    else s) s

/-- The masked commands of a loop pod; codes 2 and 3 are reserved. -/
def State.loopOutput (s : State) (link : Nat) (w : Word) : State :=
  let p := s.pod link
  (List.range 4).foldl (fun s k =>
    let code := fld w (121 + 2 * k) (120 + 2 * k)
    if bitOf w (116 + k) && decide (code < 2) then
      let ch := chanAt link k
      s.putLoop ch ((s.loop ch).command p.mode p.alm s.now (if code = 0 then some (fld w (24 * k + 23) (24 * k)) else none))
    else s) s

/-- Accepted commands: the safe state of the pod ends, and so do the holds they end (R194, R275). -/
def State.podOutput (s : State) (link : Nat) (w : Word) : State :=
  let any := if link < 64 then fld w 95 80 != 0 else fld w 119 116 != 0
  let s1 := if any then s.setPod link { s.pod link with safe := false } else s
  (if link < 64 then s1.digOutput link w else s1.loopOutput link w).endHolds link false

/-- POD_OUTPUT_FRAME. -/
def execPodOutputFrame (link : Nat) (h : DownHdr) (payload : Word) (s : State) : Host.Outcome State Fault Refusal :=
  match s.podFrame link h with
  | (s1, _, act) => .next (if act then s1.podOutput link payload else s1)

/-! ## CONFIG -/

/-- What is left of the diagnostic bits as a channel takes a mode: output bits fall outside output modes, `MISMATCH` and an
off-state `SHORT` outside OUT_PP_RB, and all of them in OFF (R189). -/
def digKept (wasOut isOut : Bool) (w : Word) (d : BitVec 8) : BitVec 8 :=
  let outBits := fun (v : BitVec 8) =>
    putBit (putBit (putBit (putBit v dOverload false) dShort false) dIlim false) dProtect false
  let d1 := if wasOut && isOut then d else outBits d
  let d2 := if digMode w = 4 then d1 else putBit d1 dMismatch false
  if digMode w = 0 then putBit d2 dOvertemp false else d2

/-- A digital configuration word applied (R177): a window in progress is discarded as the channel goes to output, and an open-wire
verdict starts from zero with another `CLASS` or mode. A word identical to the one held has no effect (R278). -/
def DigCh.configure (m : Mode) (now : Nat) (w : Word) (d : DigCh) : DigCh :=
  if d.configured && d.cfg == w then d
  else
    let wasOut := d.configured && digIsOut d.cfg
    let isOut := digIsOut w
    let anew := !d.configured || digMode d.cfg != digMode w || bitOf d.cfg 112 != bitOf w 112
    let d1 := { d.release with
      configured := true, cfg := w, state := d.state && digMode w != 0
      since := if isOut && !wasOut then now else d.since, openFrom := if anew then now else d.openFrom
      offShort := d.offShort && digMode w == 4 }
    let d2 := { d1 with diag := digKept wasOut isOut w d1.diag }
    if !isOut then { d2 with drive := 0, target := 0, held := none, hold := none, safeApplied := false }.useAux m now
    else if !wasOut then { d2 with target := 0, hold := none, safeApplied := false }.useAux m now
    else
      let moves := d2.safeApplied && d2.hold.isNone && decide (digSafe w < 3)
      ({ d2 with target := if moves then digSafe w else d2.target }.useAux m now).settle m now

/-- The command of a loop output as its configuration changes: in FSK_MULTIDROP there is none, and a channel that leaves it stays at
4 mA (R66, R207). -/
def cmdAfter (old new : Word) (was : Bool) (c : LoopCmd) : LoopCmd :=
  if loopMode new != 2 || !(was && loopMode old == 2) then .none
  else if loopFsk new = 2 then (if loopFsk old = 2 then c else .none)
  else if c = .safe then .safe
  else if loopFsk old = 2 then .current 2000000
  else c

/-- What is left of the diagnostic bits of a loop channel as it takes a word (R207, R209). -/
def loopKept (old new : Word) (was : Bool) (d : BitVec 8) : BitVec 8 :=
  let m := loopMode new
  let same := was && loopMode old == m
  let ver := fld new 113 112
  let keep := fun (v : BitVec 8) (b : Nat) (k : Bool) => if k then v else putBit v b false
  let d1 := keep d lOpen (same && ((m == 1 && bitOf new 97) || (m == 2 && (ver == 1 || ver == 3))))
  let d2 := keep d1 lOverload (same && m == 1)
  let d3 := keep d2 lCompliance (same && m == 2 && (ver == 1 || ver == 3))
  let d4 := keep d3 lMismatch (same && m == 2 && decide (2 ≤ ver))
  let d5 := keep d4 lAlarm (same && (m == 2 || bitOf new 96))
  keep (keep d5 lOvertemp (m != 0)) lSupply (m != 0)

/-- A loop channel word applied (R207). A modulator that IDLE_OFF has powered down starts up for LOOP_OUT (R244). -/
def State.configLoop (s : State) (ch : Nat) (w : Word) : State :=
  let l := s.loop ch
  if l.configured && l.cfg == w then s
  else
    let was := l.configured
    let old := if was then loopMode l.cfg else 0
    let s1 := if loopMode w = 0 then s.dropConvs ch l else s
    let watched := was && old == 1 && loopMode w == 1 && bitOf w 97
    let stays := was && old == 2 && loopMode w == 2
    let parks := loopFsk w == 2 && loopFsk l.cfg != 2
    let l1 := { l with
      configured := true, cfg := w, cmd := cmdAfter l.cfg w was l.cmd, diag := loopKept l.cfg w was l.diag
      hold := if stays then l.hold else none
      safeApplied := stays && !parks && l.safeApplied
      tripped := l.tripped && watched, pending := l.pending && watched
      hot := l.hot && loopMode w != 0
      rbBad := if fld l.cfg 113 112 = fld w 113 112 then l.rbBad else 0 }
    let l2 := if loopMode w = 0 then l1.powerDown
      else if old = 0 then { l1 with powered := false, starting := s.modeAt ch != .dormant }
      else if loopMode w = 2 && !l.powered then { l1 with starting := s.modeAt ch != .dormant } else l1
    s1.regulate ch l2

/-- Fields whose change restarts the decimator (R234). -/
def convForm (w : Word) : Nat := fld w 115 107

/-- A conversion word applied (R234). -/
def State.configConv (s : State) (ch : Nat) (w : Word) : State :=
  let l := s.loop ch
  if convForm l.conv = convForm w then s.setLoop ch { l with conv := w }
  else
    let s1 := if l.trigRun then s.convLost ch false else s
    let lost := s.converts ch && l.inWindow s.now && !l.urgent
    let wake := loopMode l.cfg != 0 && l.configured && convKind w != 2 && !l.powered && s.modeAt ch != .dormant
    let l1 := { l with
      conv := w, trigRun := false, trigSkip := false, aborts := if lost then satAt 255 (l.aborts + 1) else l.aborts
      starting := l.starting || wake, skipFirst := false, relock := false, mark := none }
    s1.setLoop ch (if l.urgent then l1 else l1.restart (s.gridNow l1))

/-- A configuration word for a channel of the pod. -/
def State.podConfig (s : State) (link sub : Nat) (w : Word) : State :=
  let ch := fld w 127 116
  if linkOf ch ≠ link ∨ 0x480 ≤ ch then s
  else if link < 64 then
    (if sub = 0 then s.setDig ch ((s.dig ch).configure (s.pod link).mode s.now w) else s).endHolds link false
  else
    match sub with
    | 1 => (s.configLoop ch w).endHolds link false
    | 2 => s.configConv ch w
    | 3 => s.regulate ch { s.loop ch with trim := w }
    | _ => s

/-- POD_CONFIG_FRAME: applied at the end of the frame that carries it, on the terms of output commands (R176). -/
def execPodConfigFrame (link : Nat) (h : DownHdr) (sub : Nat) (payload : Word) (s : State) : Host.Outcome State Fault Refusal :=
  match s.podFrame link h with
  | (s1, _, act) => .next (if act then s1.podConfig link sub payload else s1)

/-! ## REQUEST -/

/-- The positions of a request. -/
def reqPositions (w : Word) : List Nat := (List.range 4).filter fun k => nbit (fld w 119 116) k

/-- A request of a link that the pod has not acted on: its number is noted (R271). -/
def State.newRequest (s : State) (link : Nat) (act : Bool) (w : Word) : Option State :=
  let p := s.pod link
  if !act || decide (link < 64) || p.reqNo == some (fld w 127 120) then none
  else some (s.setPod link { p with reqNo := some (fld w 127 120) })

/-- POD_REQUEST_URGENT. -/
def execPodRequestUrgent (link : Nat) (h : DownHdr) (payload : Word) (s : State) : Host.Outcome State Fault Refusal :=
  match s.podFrame link h with
  | (s1, _, act) =>
    match s1.newRequest link act payload with
    | none => .next s1
    | some s2 => .next ((reqPositions payload).foldl (fun s k => s.startUrgent (chanAt link k)) s2)

/-- MTIME as a pod knows it: that of the newest reference frame, and the ticks since (R29). -/
def Pod.mtimeNow (p : Pod) (now : Nat) : Nat := p.mtime + (now - p.refStart)

/-- An instant of MTIME on the pod's own clock; one that is over is now. -/
def Pod.instantOf (p : Pod) (now mt : Nat) : Nat := now + (mt - p.mtimeNow now)

/-- A channel that a trigger starts: of the groups it names, or for an angle trigger one with the same source, point and divider. -/
def State.inTrigger (s : State) (link : Nat) (w : Word) (ch : Nat) : Bool :=
  let l := s.loop ch
  let groups := fld w 115 100
  l.configured && loopMode l.cfg != 0 && convKind l.conv == 2 &&
    (if groups = 0 then (reqPositions w).any fun k => fld (s.loop (chanAt link k)).conv 101 67 == fld l.conv 101 67
    else nbit groups (fld l.conv 105 102))

/-- The time from a trigger to the start of its windows: the start-up delay of a powered-down channel holds them all (R245). -/
def State.trigDelay (s : State) (link : Nat) (w : Word) : Nat :=
  us (if (List.range 128).any fun i => s.inTrigger link w (0x400 + i) && !(s.loop (0x400 + i)).powered then 254 else 4)

/-- A trigger at a channel: its window starts at `start`. One that runs is not disturbed, the trigger is counted as lost, and the
running conversion answers its request, number `n` of the link (R243, R245). -/
def State.startTrigger (s : State) (link n start : Nat) (skipped : Bool) (ch : Nat) : State :=
  let l := s.loop ch
  if !l.configured || loopMode l.cfg == 0 || convKind l.conv != 2 || loopHeld (s.modeAt ch) then s.convMissed link n ch
  else if l.trigRun then (s.setLoop ch { l with trigLost := satAt 255 (l.trigLost + 1) }).convJoined link n ch
  else s.setLoop ch { l with trigRun := true, trigSkip := skipped, trigStart := start, starting := l.starting || !l.powered }

/-- POD_REQUEST_TRIGGER. -/
def execPodRequestTrigger (link : Nat) (h : DownHdr) (payload : Word) (s : State) : Host.Outcome State Fault Refusal :=
  match s.podFrame link h with
  | (s1, _, act) =>
    match s1.newRequest link act payload with
    | none => .next s1
    | some s2 =>
      let n := fld payload 127 120
      let start := (s2.pod link).instantOf s2.now (fld payload 95 32) + s2.trigDelay link payload
      let skipped := (s2.ctrl h.side).skipReqs.contains (link, n)
      .next ((reqPositions payload).foldl (fun s k => s.startTrigger link n start skipped (chanAt link k)) s2)

/-- POD_REQUEST_SELF_CAL. -/
def execPodRequestSelfCal (link : Nat) (h : DownHdr) (payload : Word) (s : State) : Host.Outcome State Fault Refusal :=
  match s.podFrame link h with
  | (s1, _, act) =>
    match s1.newRequest link act payload with
    | none => .next s1
    | some s2 => .next (s2.startCal link)

/-! ## TIME (R269) and FSK (R267) -/

/-- A step of AS0 as the pod sees it: the new angle departs from the advanced one by more than 64 units (DESIGN CHOICE, log
entry 45). Positive forward. -/
def Pod.stepOf (p : Pod) (start : Nat) (angle : BitVec 16) : Int :=
  let e := sext 16 ((angle.toNat + 65536 - p.angleNow start) % 65536)
  if p.tracked && decide (64 < e.natAbs) then e else 0

/-- A LOCKED channel at a step of AS0, or at its lock, after which the decimator restarts at the first boundary (R241, R242). -/
def LoopCh.onTime (l : LoopCh) (step : Int) (locks : Bool) : LoopCh :=
  if convKind l.conv ≠ 1 ∨ l.configured = false ∨ loopMode l.cfg = 0 then l
  else if locks then { l with relock := true, mark := none }
  else if step = 0 then l
  else { l with
    trigSkip := l.trigSkip || decide (0 < step)
    settle := if bitOf l.conv 107 then l.settle else convK l.conv + 2 }

/-- The angle and time of a TIME frame, from the link the pod counts from. -/
def State.podTime (s : State) (link : Nat) (w : Word) : State :=
  let p := s.pod link
  let start := frameStart s.now
  let angle := BitVec.ofNat 16 (fld w 63 48)
  let st := fld w 47 44
  let step := if st = 2 ∨ st = 3 ∨ st = 4 ∨ st = 5 then p.stepOf start angle else 0
  let p1 := { p with
    mtime := fld w 127 64, timeAt := start, angle0 := angle, state0 := st, cycle0 := fld w 43 32, period0 := fld w 31 0 }
  let s1 := s.setPod link p1
  if link < 64 then s1
  else
    (linkChans link).foldl (fun s ch => s.setLoop ch ((s.loop ch).onTime step (p.state0 == 1 && st == 2))) s1

/-- POD_TIME_FRAME: used whether or not the tether word passes (R367). -/
def execPodTimeFrame (link : Nat) (h : DownHdr) (payload : Word) (s : State) : Host.Outcome State Fault Refusal :=
  match s.podFrame link h with
  | (s1, used, _) => .next (if used && (s1.pod link).counts == h.side then s1.podTime link payload else s1)

/-- Bytes for a modem are sent: where FSK is in effect, and after that to the end of the frame being sent; not in DORMANT, and not in a
hold of the pod (R65, R207, R228). -/
def State.modemTakes (s : State) (link ch : Nat) : Bool :=
  let l := s.loop ch
  let p := s.pod link
  p.powered && l.configured && !p.leaseHold && !p.linkHold && !loopHeld p.mode &&
    ((loopMode l.cfg != 0 && loopFsk l.cfg != 0) || l.sending)

/-- POD_FSK_FRAME: bytes for the modem of a position. -/
def execPodFskFrame (link : Nat) (h : DownHdr) (payload : Word) (s : State) : Host.Outcome State Fault Refusal :=
  match s.podFrame link h with
  | (s1, _, act) =>
    let ch := chanAt link (fld payload 127 126)
    let n := fld payload 125 122
    if !act || decide (link < 64) || !s1.modemTakes link ch || n == 0 || decide (12 < n) then .next s1
    else
      let l := s1.loop ch
      let bytes := toBytes ((numBytes 12 (fld payload 95 0)).take n)
      .next (s1.setLoop ch { l with txBytes := l.txBytes ++ bytes, sending := true })

end Sys2Proof.Machine
end

