-- ==== Sys2Proof/Machine/SpiRegs.lean ====
section
/-! DEFINITION. The register image of the SPI legacy port (R329, R330): what each emulated ESV1-16 register reads as. -/

namespace Sys2Proof.Machine

/-- The registers of a pin as its configuration word gives them; a pin that is OFF reads as an input without `WBEN` (log entry
51). -/
def spiDir (w : Word) : Nat := b2n (digIsOut w)
def spiWben (w : Word) : Nat := b2n (digMode w == 2 || digMode w == 4)
def spiEnable (w : Word) : Nat := b2n (digMode w != 0)

/-- A per-pin register: bit n for pin n. -/
def pinBits (f : Nat → Bool) : Nat := ((List.range 16).map fun n => b2n (f n) * 2 ^ n).sum

/-- `SAFE_LO` and `SAFE_HI`: two bits per pin, for the 8 pins from `first` on. -/
def pinPairs (f : Nat → Nat) (first : Nat) : Nat := ((List.range 8).map fun n => f (first + n) % 4 * 4 ^ n).sum

/-- A register of the window whose image is refreshed at each downlink frame boundary. -/
def State.spiImage (s : State) (c : Ctrl) (a : Nat) : Nat :=
  let ch := fun n => 16 * c.window + n
  let w := fun n => c.digCfg (ch n)
  let u := c.uplink c.window
  match a with
  | 0x02 => pinBits fun n => match u.image with | some i => nbit i.state n | none => false
  | 0x03 => pinBits fun n => digIsOut (w n) && c.imageLevel s.now (ch n) == 2
  | 0x04 => pinBits fun n => spiDir (w n) == 1
  | 0x05 => pinBits fun n => spiWben (w n) == 1
  | 0x06 => pinBits fun n => spiEnable (w n) == 1
  | 0x07 => pinBits fun n => bitOf (w n) 112
  | 0x08 => pinPairs (fun n => digSafe (w n)) 0
  | 0x09 => pinPairs (fun n => digSafe (w n)) 8
  | 0x0A => if (List.range 16).all fun n => digHold (w n) == digHold (w 0) then digHold (w 0) else 0xFFFF
  | 0x0B => pinBits fun n => dbit (u.diag n) dOpen
  | 0x0C => pinBits fun n => dbit (u.diag n) dOverload || dbit (u.diag n) dShort
  | 0x0D => pinBits fun n => dbit (u.diag n) dOvertemp
  | 0x0E => pinBits fun n => dbit (u.diag n) dMismatch
  | 0x22 => c.window
  | 0x23 => c.spi.refuse.toNat
  | 0x24 => c.spi.queue.length
  | _ => if 0x10 ≤ a ∧ a ≤ 0x1F then fld (w (a - 0x10)) 111 96 else 0

/-- The registers of that image. -/
def spiImageAddrs : List Nat := (List.range 13).map (· + 2) ++ (List.range 16).map (· + 0x10) ++ [0x22, 0x23, 0x24]

/-- The image refreshed at a downlink frame boundary of the ACTIVE controller (R329). -/
def State.refreshSpi (s : State) (c : Ctrl) : Ctrl :=
  { c with spi := { c.spi with regs := spiImageAddrs.foldl (fun t a => tset 0 t a (BitVec.ofNat 16 (s.spiImage c a))) [] } }

/-- A register as it reads at a controller (R330): `DEV_ID`, `STATUS` and the claims stand in the port itself, the others in the image,
and any other address reads 0. -/
def State.spiRead (s : State) (x : Side) (a : Nat) : BitVec 16 :=
  let p := (s.ctrl x).spi
  match a with
  | 0x00 => 0x1610
  | 0x01 => BitVec.ofNat 16 (p.flags.toNat * 4096 + modeCode (s.moduleMode x) * 256 + b2n s.compat * 128 +
      b2n (s.arb.steer == some .b) * 64)
  | 0x20 => p.claimA
  | 0x21 => p.claimB
  | _ => tget 0 p.regs a

end Sys2Proof.Machine
end

