-- ==== Sys2Proof/Machine/Links.lean ====
section
/-! DEFINITION. The pod links: downlink frames as a controller assembles them (R266 to R271), uplink frames as a pod builds them
(R272 to R276), and what a controller makes of them (R180, R181, R190, R191, R257, R258, R264, R265, R273 to R278). -/

namespace Sys2Proof.Machine

/-! ## Frames -/

/-- `FCS` of a frame (R261); `dir` is 0 down and 1 up. -/
def frameFcs (dir : Nat) (x : Side) (seq : Nat) (hdr mid : BitVec 48) (payload : Word) : Nat :=
  crcOf 1 (numBytes 2 (dir * 32768 + sideCode x * 16384 + seq % 4096) ++ numBytes 6 hdr.toNat ++ numBytes 6 mid.toNat ++
    wordBytes payload)

/-- The 250 bits of a frame in the order they are sent: `SYNC` as it stands, then the fields scrambled with the register seeded with
0x7FF (R260). -/
def frameBits (hdr mid : BitVec 48) (payload : Word) (fcs : Nat) : List Bool :=
  let body := bitsOf 48 hdr.toNat ++ bitsOf 48 mid.toNat ++ bitsOf 128 payload.toNat ++ bitsOf 16 fcs
  bitsOf 10 0x305 ++ List.zipWith Bool.xor body (scrambleKey 240 0x7FF)

/-- The bits of a frame that has left on a link; an uplink frame leaves on link `x` with that link's `FCS`. -/
def Out.bits (x : Side) : Out → Option (List Bool)
  | .down _ _ _ hdr tether payload fcs => some (frameBits hdr tether payload fcs)
  | .up _ _ hdr pstat payload fcsA fcsB => some (frameBits hdr pstat payload (match x with | .a => fcsA | .b => fcsB))
  | _ => none

/-- The tether field of controller `x`'s frames (R19, R366, R381). -/
def State.tetherField (s : State) (x : Side) : BitVec 48 :=
  if s.compat then
    let c := (s.ctrl x).spi
    claimWord x ((match x with | .a => c.claimA | .b => c.claimB).toNat % 256)
  else grantWord s.arb.kind s.arb.side s.arb.epoch s.arb.renew

/-! ## The downlink -/

/-- The current of a channel armed for output trim (R218). -/
def Arm.current (a : Arm) : Nat := if a.zero then 10000000 else 2000000

/-- The command an OUTPUT frame carries for a channel, as its code and its current: the fixed 4 mA of FSK_MULTIDROP outside the modes
in which the pod itself sets another current (R66; log entry 106), the armed trim, a running test, the image, or off for a channel they
have left (R217, R268, R317). -/
def Ctrl.outCommand (c : Ctrl) (ch : Nat) : Option (Nat × Nat) :=
  let safe := if isDigital ch then 3 else 1
  let cmd := fun (act value : Nat) => if act = 3 then (safe, 0) else if act = 4 then (0, value) else (act, 0)
  if c.multidrop ch then (if loopHeld c.mode || c.mode == .safeHold then none else some (0, 2000000))
  else match (match c.arm with | some a => if a.out ∧ a.ch = ch then some a else none | none => none) with
  | some a => some (0, a.current)
  | none =>
    match c.test ch with
    | some t => some (cmd t.act t.value)
    | none =>
      match c.imageCmd ch with
      | some (.level l) => some (l, 0)
      | some (.current v) => some (0, v)
      | some (.safe _ _) => some (safe, 0)
      | none => if (tget ({} : DownLink) c.down (linkOf ch)).offs.contains (pinOf ch) then some (0, 0) else none

/-- The OUTPUT payload of a link. -/
def Ctrl.outPayload (c : Ctrl) (link : Nat) : Word :=
  mkw ((linkChans link).flatMap fun ch =>
    let k := pinOf ch
    match c.outCommand ch with
    | none => []
    | some (code, v) =>
      if link < 64 then [(97 + 2 * k, 96 + 2 * k, code), (80 + k, 80 + k, 1)]
      else [(121 + 2 * k, 120 + 2 * k, code), (116 + k, 116 + k, 1), (24 * k + 23, 24 * k, v)])

/-- The TIME payload (R269). -/
def State.timePayload (s : State) (c : Ctrl) : Word :=
  mkw [(127, 64, (mtimeOf s c).toNat), (63, 48, c.as0.angle.toNat), (47, 44, trackCode c.as0.st), (43, 32, c.as0.cycle.toNat),
    (31, 0, c.as0.period)]

/-- The frame a controller sends: type, `SUB`, payload, and its downlink end after it. Order of precedence of R270; only the
holder sends commands (R27), and at a start of the link no output command goes ahead of the configuration (R178, R197). -/
def State.chooseFrame (s : State) (c : Ctrl) (holder : Bool) (link seq : Nat) (d : DownLink) :
    Nat × Nat × Word × DownLink :=
  let time := (4, 0, s.timePayload c)
  if d.stepNew then (time.1, time.2.1, time.2.2, { d with stepNew := false })
  else if d.outNew && holder && !(d.starting && d.items.any fun i => !i.request) then (1, 0, c.outPayload link, { d with outSent := seq :: d.outSent })
  else
    match (if holder then d.items else []), d.fsk with
    | i :: is, _ =>
      (if i.request then 3 else 2, i.sub, i.payload, { d with items := { i with sent := seq :: i.sent } :: is })
    | [], fsk =>
      if seq % 16 = 0 then (time.1, time.2.1, time.2.2, d)
      else
        match (if holder then fsk else []) with
        | w :: ws => (5, 0, w, { d with fsk := ws })
        | [] =>
          if seq % 16 = 8 ∧ holder = true ∧ c.outPayload link ≠ 0 then (1, 0, c.outPayload link, d) else (0, 0, 0, d)

/-- The header of a downlink frame (R266). -/
def downHdr (type seq sub : Nat) (m : Mode) (ftime : Nat) : BitVec 48 :=
  BitVec.ofNat 48 (type * 2 ^ 44 + seq % 16 * 2 ^ 40 + modeCode m * 2 ^ 36 + sub % 16 * 2 ^ 32 + ftime % 16777216 * 2 ^ 8)

/-- The frame leaves; an injection inverts its `FCS` (R282). -/
def State.sendDown (s : State) (x : Side) (link : Nat) : State :=
  let c := s.ctrl x
  let d := tget {} c.down link
  let seq := (d.seq + 1) % 4096
  let holder := c.isActive && s.holder == some x
  let (type, sub, w, d1) := s.chooseFrame c holder link seq d
  let mt := (mtimeOf s c).toNat
  let hdr := downHdr type seq sub c.mode mt
  let t := s.tetherField x
  let fcs := frameFcs 0 x seq hdr t w
  let bad := decide (0 < d.inject)
  let s1 := (s.setCtrl x { c with
    down := tset {} c.down link { d1 with
      seq, lastAt := mt, inject := d.inject - 1, times := ((seq, mt) :: d.times).take 4096 } }).emit
      (.down x link seq hdr t w (if bad then 65535 - fcs else fcs))
  if bad then s1.onActive fun y _ => s1.injected y else s1

/-- A downlink frame boundary of the ACTIVE controller: a committed change of mode takes effect (R50), and at those of the windowed pod
the register image of the SPI port is refreshed (R329; log entry 108). -/
def State.frameBoundary (s : State) (x : Side) (link : Nat) : State :=
  let s1 := s.takeModeNext x false
  if link = (s1.ctrl x).window then s1.modCtrl x s1.refreshSpi else s1

/-- DOWNLINK_FRAME: what the boundary brings, then the frame is sent. A controller in reset sends none. -/
def execDownlinkFrame (x : Side) (link : Nat) (s : State) : Host.Outcome State Fault Refusal :=
  if 96 ≤ link ∨ (s.ctrl x).inReset = true then .next s
  else .next ((if (s.ctrl x).isActive then s.frameBoundary x link else s).sendDown x link)

/-! ## The uplink, as a pod builds it -/

/-- The pin with the oldest capture. -/
def State.oldestCapture (s : State) (link : Nat) : Option (Nat × Capture) :=
  (List.range 16).foldl (fun best k =>
    match (s.dig (chanAt link k)).capture, best with
    | some c, none => some (k, c)
    | some c, some (_, b) => if c.order < b.order then some (k, c) else best
    | none, _ => best) none

/-- The junction is known to stand at 150 °C or above, beyond what a temperature field holds: an input flagged for it, or an output that
protection has switched off for it and that has neither retried nor latched off since (R188, R511). -/
def DigCh.tooHot (d : DigCh) (now : Nat) : Bool :=
  match d.prot with
  | some p => p.thermal && (!ovlLatch d.cfg || p.since == now)
  | none => dbit d.diag dOvertemp && !digIsOut d.cfg

/-- The slot of a digital frame, as [41:0], and the state after it. The temperature it carries is a free value, saturated where the
state fixes it above the field's range (R511). -/
def State.digSlot (s : State) (link : Nat) : Nat × State :=
  match s.oldestCapture link with
  | some (k, c) =>
    let ch := chanAt link k
    (2 ^ 40 + k * 2 ^ 36 + b2n c.level * 2 ^ 35 + b2n c.raw * 2 ^ 34 + c.lost % 256 * 2 ^ 26 + c.refSeq % 4096 * 2 ^ 14 +
      c.tick % 1024 * 2 ^ 4, s.setDig ch { s.dig ch with capture := none })
  | none =>
    let p := s.pod link
    let k := p.detailPin % 16
    let (t, s1) := s.draw
    let d := s.dig (chanAt link k)
    (2 * 2 ^ 40 + k * 2 ^ 36 + (if d.tooHot s.now then 127 else t % 256) * 2 ^ 28 + d.diagNow.toNat * 2 ^ 20,
      s1.setPod link { p with detailPin := (k + 1) % 16 })

/-- Three diagnostic bits of every pin, as `PSTAT` carries them (R274). -/
def State.digStat (s : State) (link seq : Nat) : BitVec 48 :=
  let bit := fun (i : Nat) => pinBits fun k => dbit (s.dig (chanAt link k)).diagNow i
  if seq % 2 = 0 then BitVec.ofNat 48 (bit dOpen * 2 ^ 32 + bit dOverload * 2 ^ 16 + bit dShort)
  else BitVec.ofNat 48 (bit dOvertemp * 2 ^ 32 + bit dMismatch * 2 ^ 16 + bit dIlim)

/-- The payload of a digital pod. `LEVEL` is what the readback comparators find at the pins, whatever drives them: a free value
(R512). -/
def State.digPayload (s : State) (link : Nat) : Word × State :=
  let (r, k) := (s.pod link).stamp s.now
  let (v, s1) := s.draw
  let (slot, s2) := s1.digSlot link
  (mkw [(127, 112, pinBits fun i => (s.dig (chanAt link i)).state),
    (111, 96, pinBits fun i => nbit v i),
    (95, 64, ((List.range 16).map fun i => (s.dig (chanAt link i)).drive * 4 ^ i).sum), (63, 52, r), (51, 42, k),
    (41, 0, slot)], s2)

/-- An item as a 64-bit slot (R276). -/
def UpItem.slot : UpItem → Nat
  | .value pos path index v flags r k =>
    2 ^ 62 + pos % 4 * 2 ^ 60 + path % 2 * 2 ^ 59 + index % 64 * 2 ^ 53 + twos 25 v * 2 ^ 28 + flags % 64 * 2 ^ 22 +
      r % 4096 * 2 ^ 10 + k % 1024
  | .diag pos l1 r k => 2 * 2 ^ 62 + pos % 4 * 2 ^ 60 + l1 / 8 * 2 ^ 31 + r % 4096 * 2 ^ 10 + k % 1024
  | .fsk pos l1 r k => 3 * 2 ^ 62 + pos % 4 * 2 ^ 60 + l1 / 8 * 2 ^ 31 + r % 4096 * 2 ^ 10 + k % 1024

/-- The payload of a loop pod: its two oldest items. -/
def State.loopPayload (s : State) (link : Nat) : Word × State :=
  let p := s.pod link
  let at_ := fun i => match p.items[i]? with | some i => i.slot | none => 0
  (mkw [(127, 64, at_ 0), (63, 0, at_ 1)], s.setPod link { p with items := p.items.drop 2 })

/-- `PSTAT` of a loop pod. -/
def State.loopStat (s : State) (link : Nat) : BitVec 48 :=
  BitVec.ofNat 48 (((List.range 4).map fun k => (s.loop (chanAt link k)).diag.toNat * 2 ^ (16 + 8 * k)).sum +
    (s.pod link).alm % 4 * 2 ^ 14)

/-- The header of an uplink frame (R272). -/
def State.upHdr (s : State) (link seq : Nat) : BitVec 48 :=
  let p := s.pod link
  BitVec.ofNat 48 (b2n (decide (64 ≤ link)) * 2 ^ 44 + seq % 16 * 2 ^ 40 + s.podState link * 2 ^ 36 +
    sideCode p.refSide * 2 ^ 35 + b2n p.refFallback * 2 ^ 34 + rxCode p.rxA.st * 2 ^ 32 + rxCode p.rxB.st * 2 ^ 30 +
    p.rxA.last % 4096 * 2 ^ 12 + p.rxB.last % 4096)

/-- POD_UPLINK_SEND. -/
def execPodUplinkSend (link : Nat) (s : State) : Host.Outcome State Fault Refusal :=
  let p := s.pod link
  if !p.powered || decide (96 ≤ link) then .next s
  else
    let seq := (p.upSeq + 1) % 4096
    let hdr := s.upHdr link seq
    let stat := if link < 64 then s.digStat link seq else s.loopStat link
    let (w, s1) := if link < 64 then s.digPayload link else s.loopPayload link
    let s2 := s1.setPod link { s1.pod link with upSeq := seq }
    .next (s2.emit (.up link seq hdr stat w (frameFcs 1 .a seq hdr stat w) (frameFcs 1 .b seq hdr stat w)))

/-! ## The uplink, as a controller receives it -/

def Ctrl.setUp (c : Ctrl) (link : Nat) (u : UpLink) : Ctrl := { c with up := tset {} c.up link u }

/-- The LINK event: one per link per 100 ms, and those left out are counted (R265). -/
def State.linkEvent (s : State) (x : Side) (link : Nat) : State :=
  let c := s.ctrl x
  let u := c.uplink link
  let soon := match u.eventAt with | some t => decide (s.now < t + ms 100) | none => false
  if !c.isActive then s
  else if soon then s.setCtrl x (c.setUp link { u with hunts := satAt 65535 (u.hunts + 1) })
  else
    let c1 := c.setUp link { u with eventAt := some s.now }
    s.setCtrl x (s.eventAll c1 0x08 link [c1.linkWord link])

/-- An uplink end after a frame: counters of its states, and the event of a link lost. -/
def State.upState (s : State) (x : Side) (link : Nat) (r : Rx) (bad : Bool) : State :=
  let c := s.ctrl x
  let u := c.uplink link
  let lost := r.st == .hunt && u.rx.st != .hunt
  let degrades := r.st == .degraded && u.rx.st == .good
  let u1 := { u with
    rx := r, bad := if bad then satAt 4294967295 (u.bad + 1) else u.bad,
    degraded := if degrades then satAt 65535 (u.degraded + 1) else u.degraded,
    hunts := if lost then satAt 65535 (u.hunts + 1) else u.hunts }
  let s1 := s.setCtrl x (c.setUp link u1)
  if lost then s1.linkEvent x link else s1

/-- UPLINK_BAD_FRAME: also an empty slot. -/
def execUplinkBadFrame (x : Side) (link : Nat) (s : State) : Host.Outcome State Fault Refusal :=
  if 96 ≤ link ∨ (s.ctrl x).inReset = true then .next s
  else .next (s.upState x link ((s.ctrl x).uplink link).rx.takeBad true)

/-- A loop pod is to calibrate: in CALIBRATE when it has not begun since the entry, and in every later mode but DORMANT when it never
has since its power-up (R45, R251). -/
def State.wantsCal (s : State) (c : Ctrl) (link : Nat) : Bool :=
  let p := s.pod link
  let never := (linkChans link).all fun ch => (s.loop ch).calState == 0
  decide (64 ≤ link) && p.calPhase == 0 && c.mode != .boot && c.mode != .dormant &&
    (never || (c.mode == .calibrate && decide (p.calStart < c.calEnter))) &&
    !(tget {} c.down link).items.any fun i => i.request && i.sub == 3

/-- A pod's link starts up: the configuration of every channel is sent, ahead of any output command, once per start; and the pod is
asked to calibrate when it is to (R178, R197, R251, R278). -/
def State.startPod (s : State) (x : Side) (link : Nat) : State :=
  let c := s.ctrl x
  let d := tget {} c.down link
  let under := d.starting && d.items.any fun i => !i.request
  let c1 := if under then c
    else
      let c0 := c.sendPod link
      { c0 with down := tmod {} c0.down link fun d => { d with starting := true } }
  s.setCtrl x (if s.wantsCal c link then c1.sendRequest link 3 15 0 0 else c1)

/-- The items that an acknowledgement ends (R271); with the last configuration word of a start of the link the start is over. -/
def DownLink.acked (d : DownLink) (seq : Nat) : DownLink :=
  let hit := d.outNew && d.outSent.contains seq
  let items := d.items.filter fun i => !i.sent.contains seq
  { d with
    items, starting := d.starting && items.any fun i => !i.request
    outNew := d.outNew && !hit, outSent := if hit then [] else d.outSent, offs := if hit then [] else d.offs }

/-- Fields of the uplink header. -/
def uhType (f : UpFrame) : Nat := nfld f.hdr.toNat 47 44
def uhState (f : UpFrame) : Nat := nfld f.hdr.toNat 39 36
def uhSide (f : UpFrame) : Side := sideOf (nfld f.hdr.toNat 35 35)
def uhFallback (f : UpFrame) : Bool := nbit f.hdr.toNat 34
def uhAck (f : UpFrame) (x : Side) : Nat := match x with | .a => nfld f.hdr.toNat 23 12 | .b => nfld f.hdr.toNat 11 0

/-- The MTIME of the first bit time of a frame that was sent on a link; of a frame no longer noted, from the newest one's and the frame
period (R259, R273). -/
def DownLink.sentAt (d : DownLink) (seq : Nat) : Int :=
  match d.times.find? fun t => t.1 == seq with
  | some t => t.2
  | none => (d.lastAt : Int) - ((d.seq + 4096 - seq) % 4096 * 2000 : Nat)

/-- An instant on the pod as MTIME: the first bit time of the frame `REF_SEQ` of the link that the pod counts from, the ticks, and
the link's fixed delay (R273; the frame times of the other controller are DEDUCED, log entry 46). -/
def State.refMtime (s : State) (f : UpFrame) (refSeq tick : Nat) : Nat :=
  let y := if uhFallback f then (uhSide f).other else uhSide f
  let d := tget {} (s.ctrl y).down f.link
  ((d.sentAt refSeq + (tick * 25 + Config.linkDelay f.link : Nat)) % 18446744073709551616).toNat

/-- The head of a used frame: what the pod reports of itself and its links, and the acknowledgements. -/
def Ctrl.upHead (c : Ctrl) (x : Side) (f : UpFrame) : Ctrl :=
  let u := c.uplink f.link
  let c1 := c.setUp f.link { u with
    downA := nfld f.hdr.toNat 33 32, downB := nfld f.hdr.toNat 31 30, podState := uhState f, refFb := uhFallback f }
  { c1 with down := tmod {} c1.down f.link fun d => d.acked (uhAck f x) }

/-- A DIAG event, for a channel with `DIAG_EVENT`, from the ACTIVE controller. -/
def State.diagEvent (s : State) (c : Ctrl) (wanted : Bool) (ch : Nat) (r : Rec) : Ctrl :=
  if wanted && c.isActive then s.eventAll c 0x07 ch [leaving r.word] else c

/-! ### Digital pods -/

/-- The diagnostic bits of a pin after a frame. `PROTECT_OFF` follows the channel detail, falls as the channel drives, and rises
with its cause; `WB_SUSPENDED` follows the use of the auxiliary comparators (DEDUCED, log entry 47). -/
def Ctrl.digDiag (c : Ctrl) (f : UpFrame) (k : Nat) (old : BitVec 8) : BitVec 8 :=
  let ch := chanAt f.link k
  let st := f.pstat.toNat
  let put := fun (v : BitVec 8) (a b d : Nat) =>
    putBit (putBit (putBit v a (nbit st (32 + k))) b (nbit st (16 + k))) d (nbit st k)
  let d1 := if f.seq % 2 = 0 then put old dOpen dOverload dShort else put old dOvertemp dMismatch dIlim
  let drive := fld f.payload 95 64 / 4 ^ k % 4
  let detail := fld f.payload 41 40 == 2 && fld f.payload 39 36 == k
  let raised := fun b => dbit d1 b && !dbit old b
  let out := digIsOut (c.digCfg ch)
  let off :=
    if !out || drive != 0 then false
    else if detail then bitOf f.payload 20
    else dbit old dProtect || raised dOverload || raised dOvertemp || (raised dShort && c.imageLevel 0 ch != 0)
  putBit (putBit d1 dProtect off) dSuspended (digMode (c.digCfg ch) == 2 && auxUse c.mode != 1)

/-- One pin of a new image: a kind 0 record for a change of state, and a kind 5 record for a change of `DIAG`. -/
def State.digPin (s : State) (f : UpFrame) (i : PodImage) (old : Option PodImage) (c : Ctrl) (k : Nat) : Ctrl :=
  let ch := chanAt f.link k
  let u := c.uplink f.link
  let before := u.diag k
  let after := c.digDiag f k before
  let live := (fValid, digMode (c.digCfg ch) != 0)
  let c1 := c.setUp f.link { u with diags := tset 0 u.diags k after }
  let changed := match old with | some o => nbit o.state k != nbit i.state k | none => false
  let c2 :=
    if changed then
      let (r, d) := s.form c1 c1.defaultSource ch 0 i.at_ (imageValue i k) (live :: digFlags after)
      d.toRing f.link r
    else c1
  if before = after then c2
  else
    let v := (tget 0 u.temps k).toNat * 2 ^ 24 + after.toNat * 2 ^ 16 + (before ^^^ after).toNat * 2 ^ 8 + imageValue i k % 4
    let (r, d) := s.form c2 c2.defaultSource ch 5 i.at_ v (live :: digFlags after)
    s.diagEvent (d.toRing f.link r) (bitOf (c.digCfg ch) 79) ch r

/-- The slot of a digital frame: a capture becomes a kind 1 record; detail brings a temperature. -/
def State.digTail (s : State) (f : UpFrame) (c : Ctrl) : Ctrl :=
  let w := f.payload
  let k := fld w 39 36
  let ch := chanAt f.link k
  match fld w 41 40 with
  | 1 =>
    let v := fld w 33 26 * 2 ^ 24 + fld w 34 34 * 2 ^ 17 + fld w 35 35
    let (r, d) := s.form c c.defaultSource ch 1 (s.refMtime f (fld w 25 14) (fld w 13 4)) v
      ((fValid, digMode (c.digCfg ch) != 0) :: digFlags ((c.uplink f.link).diag k))
    d.toRing f.link r
  | 2 =>
    let u := c.uplink f.link
    c.setUp f.link { u with temps := tset 0 u.temps k (BitVec.ofNat 8 (fld w 35 28)) }
  | _ => c

/-- A frame of a digital pod. -/
def State.digFrame (s : State) (f : UpFrame) (c : Ctrl) : Ctrl :=
  let w := f.payload
  let i : PodImage :=
    { state := fld w 127 112, level := fld w 111 96, drive := fld w 95 64,
      at_ := s.refMtime f (fld w 63 52) (fld w 51 42) }
  let u := c.uplink f.link
  let c1 := c.setUp f.link { u with image := some i, past := (u.image.toList ++ u.past).take 2048 }
  s.digTail f ((List.range 16).foldl (s.digPin f i u.image) c1)

/-! ### Loop pods -/

/-- A result of angle-locked conversion: it carries `FLYWHEEL` when AS0 was not in a live lock or no link delivers its angle, and the
angle field of AS0 is 0 in NO_SIGNAL, ACQUIRE and LOST (R241). -/
def State.lockedRec (s : State) (c : Ctrl) (link : Nat) (r : Rec) : Rec :=
  let u := c.uplink link
  let st := (c.as0.stretchAt (mtimeOf s c).toNat r.at_).st
  let dark := st == .noSignal || st == .acquire || st == .lost
  let fly := recFlag r fFlywheel || s.flyAt c 0 r.at_ || (u.downA == 0 && u.downB == 0)
  r.reflag false (if dark && c.defaultSource == 0 then 0 else fld r.word 111 96) fly false false

/-- A value slot as a kind 2 record (R257); it answers the conversion that asked for it. -/
def State.valueSlot (s : State) (f : UpFrame) (n : Nat) (c : Ctrl) : Ctrl :=
  let ch := chanAt f.link (nfld n 61 60)
  let path := nfld n 59 59
  let w := c.loopCfg ch
  let d := (c.uplink f.link).diag (nfld n 61 60)
  let v := sext 25 (nfld n 52 28)
  let alarm := if loopMode w = 1 then ne43 w v else dbit d lAlarm
  let flags :=
    [(fValid, nbit n 27), (fSettling, nbit n 26), (fInterrupted, nbit n 25), (fOpen, nbit n 24), (fOverload, nbit n 23),
      (fSkipped, nbit n 22), (fOvertemp, dbit d lOvertemp), (fAlarm, alarm)]
  let value := path * 2 ^ 31 + nfld n 58 53 * 2 ^ 25 + nfld n 52 28
  let (r0, c1) := s.form c c.defaultSource ch 2 (s.refMtime f (nfld n 21 10) (nfld n 9 0)) value flags
  let r := if path = 0 ∧ convKind (c.convCfg ch) = 1 then s.lockedRec c f.link r0 else r0
  if path = 1 then c1.toRing f.link r
  else
    let c2 := (c1.convTake ch r.at_ r.word).snapTake ch (some r.word)
    if c.convDropped ch r.at_ then c2 else c2.toRing f.link r

/-- A diagnostic slot as a kind 3 record (R258), with its event (R205, R256). -/
def State.diagSlot (s : State) (f : UpFrame) (n : Nat) (c : Ctrl) : Ctrl :=
  let k := nfld n 61 60
  let ch := chanAt f.link k
  let l1 := nfld n 59 31 * 8
  let sub := nfld l1 6 4
  let u := c.uplink f.link
  let (r, c1) := s.form c c.defaultSource ch 3 (s.refMtime f (nfld n 21 10) (nfld n 9 0)) l1
    ((fValid, true) :: loopFlags (u.diag k))
  let c2 := c1.toRing f.link r
  if sub = 0 then
    let v := c2.uplink f.link
    let c3 := c2.setUp f.link { v with temps := tset 0 v.temps k (BitVec.ofNat 8 (nfld l1 31 24)) }
    s.diagEvent c3 (bitOf (c.loopCfg ch) 95 && nfld l1 15 8 != 0) ch r
  else if nbit l1 7 && c.isActive then s.eventAll c2 0x0B (f.link - 64) [leaving r.word]
  else c2

/-- An FSK slot as a kind 4 record (R227). -/
def State.fskSlot (s : State) (f : UpFrame) (n : Nat) (c : Ctrl) : Ctrl :=
  let ch := chanAt f.link (nfld n 61 60)
  let (r, c1) := s.form c c.defaultSource ch 4 (s.refMtime f (nfld n 21 10) (nfld n 9 0)) (nfld n 59 31 * 8)
    [(fValid, loopMode (c.loopCfg ch) != 0)]
  c1.toRing f.link r

/-- One 64-bit slot. -/
def State.upSlot (s : State) (f : UpFrame) (c : Ctrl) (n : Nat) : Ctrl :=
  match nfld n 63 62 with
  | 1 => s.valueSlot f n c
  | 2 => s.diagSlot f n c
  | 3 => s.fskSlot f n c
  | _ => c

/-- A frame of a loop pod. -/
def State.loopFrame (s : State) (f : UpFrame) (c : Ctrl) : Ctrl :=
  let u := c.uplink f.link
  let st := f.pstat.toNat
  let diags := (List.range 4).foldl (fun t k => tset 0 t k (BitVec.ofNat 8 (nfld st (23 + 8 * k) (16 + 8 * k)))) u.diags
  let c1 := c.setUp f.link { u with diags, alm := nfld st 15 14 }
  [fld f.payload 127 64, fld f.payload 63 0].foldl (s.upSlot f) c1

/-- A used frame. -/
def State.upUse (s : State) (x : Side) (f : UpFrame) : State :=
  let c := (s.ctrl x).upHead x f
  let s1 := (s.setCtrl x (if f.link < 64 then s.digFrame f c else s.loopFrame f c)).closeConvs x
  if (s1.ctrl x).isActive && s1.holder == some x && uhState f == 0 then s1.startPod x f.link else s1

/-- UPLINK_FRAME: the receive state, and all that a used frame brings (R264, R277). A frame of an undefined type is bad (R262). -/
def execUplinkFrame (x : Side) (f : UpFrame) (s : State) : Host.Outcome State Fault Refusal :=
  let c := s.ctrl x
  if 96 ≤ f.link ∨ c.inReset = true then .next s
  else if uhType f ≠ b2n (decide (64 ≤ f.link)) then .next (s.upState x f.link (c.uplink f.link).rx.takeBad true)
  else
    let before := (c.uplink f.link).rx
    let (r, used) := before.takeGood f.seq
    let good := used || before.st == .hunt
    let s0 := if good then
        s.setCtrl x (c.setUp f.link { c.uplink f.link with lastGood := mtime32 s c, lastAt := s.now })
      else s
    let s1 := s0.upState x f.link r (!good)
    if used then .next (s1.upUse x f)
    else if before.st = .hunt ∧ r.st = .good then
      let s2 := s1.linkEvent x f.link
      .next (if (s2.ctrl x).isActive && s2.holder == some x then s2.startPod x f.link else s2)
    else .next s1

end Sys2Proof.Machine
end

