-- ==== Sys2Proof/Machine/Redundancy.lean ====
section
/-! DEFINITION. Redundancy (chapter 12): heartbeats, the arbiter, takeover, the mirrored data set, the splice, bulk copy and the
boot of a controller (R359 to R385). -/

namespace Sys2Proof.Machine

/-! ## Heartbeats (R359, R360) -/

/-- The epoch a controller last read: that of the tether word, or, before it has read one since its reset, that of the newest
TAKEOVER entry in its logline. -/
def State.epochRead (s : State) (c : Ctrl) : BitVec 32 :=
  if s.arb.kind ≠ 0 then s.arb.epoch else if c.inReset then c.logl.atStart.lastEpoch else c.lastEpoch

/-- The heartbeat word of a controller. Its boot loader sends it with `IMAGE_OK` 0. -/
def State.heartbeat (s : State) (x : Side) : BitVec 64 :=
  let c := s.ctrl x
  let up := c.running && !c.inReset
  let w := 0x5A * 2 ^ 56 + sideCode x * 2 ^ 55 + (if up then roleCode c.role else 0) * 2 ^ 53 + b2n (up && c.imageOk) * 2 ^ 52 +
    b2n (up && c.role == .standby && c.mirrorOk) * 2 ^ 51 + b2n (up && c.yieldSet) * 2 ^ 50 + b2n (up && c.failReq) * 2 ^ 49 +
    b2n (up && c.trial) * 2 ^ 48 + c.hbCount % 256 * 2 ^ 40 + (s.epochRead c).toNat * 2 ^ 8
  BitVec.ofNat 64 (w + crcOf 0 (numBytes 7 (w / 256)))

/-- A controller's heartbeat line speaks: it is silenced by R436, and a controller held in reset sends nothing. -/
def State.beats (s : State) (x : Side) : Bool := s.supply && !(s.ctrl x).hbSilent && !(s.ctrl x).noImage

/-- HEARTBEAT_SEND. -/
def execHeartbeatSend (x : Side) (s : State) : Host.Outcome State Fault Refusal :=
  if s.beats x then
    .next ((s.emit (.heartbeat x (s.heartbeat x))).modCtrl x fun c =>
      { c with hbCount := (c.hbCount + 1) % 256, lastEpoch := s.epochRead c })
  else .next s

/-- What the arbiter knows of a line. -/
def Arbiter.beat (a : Arbiter) : Side → Beat
  | .a => a.beatA
  | .b => a.beatB

def Arbiter.setBeat (a : Arbiter) (x : Side) (b : Beat) : Arbiter :=
  match x with
  | .a => { a with beatA := b }
  | .b => { a with beatB := b }

/-- The line has been silent for 3 ms. -/
def Beat.silent (b : Beat) (now : Nat) : Bool := decide (b.last.getD b.silentAt + ms 3 ≤ now)

/-- A heartbeat word is valid (R360). -/
def Beat.accepts (b : Beat) (x : Side) (now : Nat) (w : BitVec 64) : Bool :=
  let n := w.toNat
  nfld n 63 56 == 0x5A && nfld n 7 0 == crcOf 0 (numBytes 7 (n / 256)) && nfld n 55 55 == sideCode x &&
    (b.last.isNone || b.failed || b.silent now || nfld n 47 40 == (b.count + 1) % 256)

/-- What a valid heartbeat tells. The largest epoch heard is kept, in serial arithmetic (R363). -/
def Beat.take (b : Beat) (now : Nat) (w : BitVec 64) : Beat :=
  let n := w.toNat
  let e := BitVec.ofNat 32 (nfld n 39 8)
  let ok := nbit n 52
  { b with
    last := some now, count := nfld n 47 40, failed := false, imageOk := ok, mirrorOk := nbit n 51, yieldSet := nbit n 50
    failReq := nbit n 49, epoch := if b.last.isNone || epochGe e b.epoch then e else b.epoch
    okAt := if ok then some (b.okAt.getD now) else none, pulseAt := none }

/-- HEARTBEAT_RECEIVE: the arbiter acts on what the word tells at its next decision. -/
def execHeartbeatReceive (x : Side) (w : BitVec 64) (s : State) : Host.Outcome State Fault Refusal :=
  let b := s.arb.beat x
  if s.supply && b.accepts x s.now w then .next { s with arb := s.arb.setBeat x (b.take s.now w) } else .next s

/-- CONTROLLER_FAILED: 3 ms without a valid heartbeat. -/
def execControllerFailed (x : Side) (s : State) : Host.Outcome State Fault Refusal :=
  let b := s.arb.beat x
  if s.supply && b.silent s.now then .next { s with arb := s.arb.setBeat x { b with failed := true, okAt := none } } else .next s

/-! ## The arbiter (R361 to R365) -/

/-- A controller reports `IMAGE_OK`; it reports `MIRROR_OK`. -/
def Beat.reports (b : Beat) : Bool := !b.failed && b.imageOk
def Beat.mirrors (b : Beat) : Bool := !b.failed && b.mirrorOk

/-- Of two controllers that report `IMAGE_OK` in START: A when both report within the same 1 ms, else the earlier. -/
def firstToReport (a b : Beat) : Side :=
  match a.okAt, b.okAt with
  | some p, some q => if q + ms 1 ≤ p then .b else .a
  | none, some _ => .b
  | _, none => .a

/-- The grant that the state of R361 asks for now: to whom, and why: 0 the first, 2 after a failure, 3 a planned handover, 4
from VACANT or after a restart of the arbiter, 5 after `FAIL_REQ`. None is made under COMPAT (R20). -/
def State.grantDue (s : State) : Option (Side × Nat) :=
  let a := s.arb
  let A := a.beatA
  let B := a.beatB
  if s.compat || !s.supply then none
  else
    match a.st with
    | .start =>
      if a.since + ms 5 ≤ s.now ∧ (A.reports || B.reports) = true then
        some (if A.reports && B.reports then firstToReport A B else if A.reports then .a else .b, if a.restarted then 4 else 0)
      else none
    | .held x =>
      let h := a.beat x
      if !(a.beat x.other).mirrors then none
      else if h.failReq then some (x.other, 5)
      else if h.failed || !h.imageOk then some (x.other, 2)
      else if h.yieldSet then some (x.other, 3)
      else none
    | .vacant =>
      if A.reports && A.mirrors then some (.a, 4)
      else if B.reports && B.mirrors then some (.b, 4)
      else if A.reports then some (.a, 4)
      else if B.reports then some (.b, 4)
      else none

/-- The epoch of the next grant (R363). -/
def Arbiter.nextEpoch (a : Arbiter) : BitVec 32 :=
  match a.st with
  | .start =>
    match a.beatA.last, a.beatB.last with
    | some _, some _ => (if epochGe a.beatB.epoch a.beatA.epoch then a.beatB.epoch else a.beatA.epoch) + 1
    | some _, none => a.beatA.epoch + 1
    | none, some _ => a.beatB.epoch + 1
    | none, none => 1
  | _ => a.epoch + 1

/-- TETHER_GRANT: the word of the new holder goes out, with its steer; the holder takes over in TAKEOVER. -/
def execTetherGrant (s : State) : Host.Outcome State Fault Refusal :=
  match s.grantDue with
  | none => .next s
  | some (y, why) =>
    let a := { s.arb with
      st := .held y, since := s.now, epoch := s.arb.nextEpoch, kind := 1, side := y, renew := 0, renewAt := s.now
      first := false, restarted := false }
    let s1 := ({ s with arb := a }.modCtrl y.other fun c => { c with granted := false }).modCtrl y fun c =>
      { c with granted := true, grantKind := why }
    .next (s1.steerTo y)

/-- The lease has not ended (R362). -/
def Arbiter.leased (a : Arbiter) (now : Nat) : Bool := decide (now < a.renewAt + ms 20)

/-- TETHER_RENEWAL: every 5 ms, while the holder is heard and sound and no grant is due. -/
def execTetherRenewal (s : State) : Host.Outcome State Fault Refusal :=
  match s.arb.st with
  | .held x =>
    let h := s.arb.beat x
    if s.supply && !s.compat && s.grantDue.isNone && s.arb.leased s.now && decide (s.arb.renewAt + ms 5 ≤ s.now) && !h.failed &&
        !h.silent s.now && !h.failReq && h.imageOk then
      .next { s with arb := { s.arb with renew := (s.arb.renew + 1) % 16, renewAt := s.now } }
    else .next s
  | _ => .next s

/-- ARBITER_LEASE_END: 20 ms after the last renewal or grant. -/
def execArbiterLeaseEnd (s : State) : Host.Outcome State Fault Refusal :=
  match s.arb.st with
  | .held _ =>
    if s.arb.leased s.now then .next s else .next { s with arb := { s.arb with st := .vacant, since := s.now, kind := 0 } }
  | _ => .next s

/-- ARBITER_RESET_PULSE: 100 ms of silence, and every 10 s while it lasts (R364). -/
def execArbiterResetPulse (x : Side) (s : State) : Host.Outcome State Fault Refusal :=
  let b := s.arb.beat x
  let due := match b.pulseAt with
    | some t => decide (t + ms 10000 ≤ s.now)
    | none => decide (b.last.getD b.silentAt + ms 100 ≤ s.now)
  if s.supply && due then
    .next ({ s with arb := s.arb.setBeat x { b with pulseAt := some s.now } }.restart x 3).tendStaging
  else .next s

/-- ARBITER_START: START, with no lease in force; an arbiter that restarts after a grant notes it (R365). Under COMPAT it steers
the ports by the claims (R20). -/
def execArbiterStart (s : State) : Host.Outcome State Fault Refusal :=
  if s.supply then
    let s1 := { s with
      arb := { since := s.now, beatA := { silentAt := s.now }, beatB := { silentAt := s.now }, steer := s.arb.steer
               restarted := s.firstGrant } }
    match s.compat, s.holder with
    | true, some y => .next (s1.steerTo y)
    | _, _ => .next s1
  else .next s

/-- ARBITER_RENEW_WATCH: the holder finds `T_RENEW` unchanged for 10 ms under GRANT (R365). -/
def execArbiterRenewWatch (x : Side) (s : State) : Host.Outcome State Fault Refusal :=
  if (s.ctrl x).isActive && !s.compat && s.arb.kind == 1 && s.arb.side == x && decide (s.arb.renewAt + ms 10 ≤ s.now) then
    .next (s.raise x srcArbiter false)
  else .next s

/-! ## Takeover (R304, R376 to R379, R56 to R58) -/

/-- The data set a taker goes on with: all of it when its copy is complete, else what its own memories hold (R379). Nothing of
R375 comes across. A taker whose own logline has failed goes on with SRAM journalling (R301; DEDUCED, log entry 109). -/
def Ctrl.takerData (c : Ctrl) (complete : Bool) : Ctrl :=
  let c1 := if complete then c else { c.dropMirrored with duties := restoredDuties c.store }.giveSlots
  { c1 with
    sessions := c1.sessions.map fun p => (p.1, { p.2.mirror with gap := true })
    waiting := [], tests := [], crcs := [], arm := none, pausing := false, yieldSet := false, mirrorOk := false
    podSpi := [], podCfg := [], logl := { c1.logl with isVolatile := c1.logl.isVolatile || !c1.logl.sound }
    sched := { c1.sched with
      queues := [], engines := [], places := [], meas := [], migrating := [], rebalances := 0, lastRebal := 0, movedLast := 0 } }

/-- A duty after a takeover at MTIME `mt`: one whose stage state came across goes on, and any other restarts from its initial state
(R89, R114, R138, R376, R378). -/
def Duty.taken (d : Duty) (planned : Bool) (mt : Nat) : Duty :=
  let d1 := { d with busy := false, restart := false, drain := false, waiting := if planned then d.waiting else none }
  if planned || d.mirrored then { d1 with afterTake := true }
  else { d1 with
    stage := {}, marks := [], t := false, execs := 0, lates := 0, overruns := 0, discards := 0, lastAt := 0, startedAt := mt
    afterTake := false, relMarks := [], relOverruns := 0 }

/-- Running duties placed as the shadow placement gives, or, one it does not hold, under R154 (R160). -/
def Ctrl.placeShadow (c : Ctrl) : Ctrl :=
  c.runningDuties.foldl (fun c p =>
    let k := tget {} c.sched.shadow p.1
    if k.cluster = 15 then c.placeDuty p.1
    else (c.setSlotOf p.1 k.cluster).setPlace p.1 { cluster := k.cluster, affEff := k.affEff, overcommit := k.overcommit }) c

/-- The commands that a migration of the old ACTIVE controller has put off take effect (R157). -/
def State.takeDeferred (s : State) (x : Side) : State :=
  s.modCtrl x fun c => c.sched.deferred.foldl (fun c m => s.dutyEffect c m.1 m.2.2) { c with sched := { c.sched with deferred := [] } }

/-- The points of a source that the angle has passed in this cycle without being marked fire at once, of the duties that go on (R89,
R392). -/
def State.missedPoints (s : State) (planned : Bool) (c : Ctrl) (src : Nat) : Ctrl :=
  let t := c.tracker src
  if t.st.fires then
    ((c.duePoints src 65535 (t.angle.toNat + 1)).filter fun e =>
      (planned || (c.duty e.2.1).mirrored) && (c.duty e.2.1).begun).foldl (s.firePoint src 65535 (t.cycle - 1) t.cycle true) c
  else c

/-- The duties of the new ACTIVE controller: each goes on or restarts, firings that waited through a handover enter their queues, and
points passed meanwhile fire. -/
def State.takeDuties (s : State) (x : Side) (planned : Bool) : State :=
  s.modCtrl x fun c =>
    let mt := (mtimeOf s c).toNat
    let c1 := { c with duties := c.duties.foldl (fun (t : Tab Duty) (p : Nat × Duty) => tset {} t p.1 (p.2.taken planned mt)) [] }.placeShadow
    (List.range 4).foldl (s.missedPoints planned) (if planned then c1.unpause else c1)

/-- Every tag in flight is taken over: its reply carries `DUPLICATE` (R304). -/
def Ctrl.markTaken (c : Ctrl) : Ctrl := { c with flights := c.flights.map fun f => { f with taken := true } }

/-- One tag as it stood at a takeover (R304). -/
def State.takeTag (s : State) (x : Side) (f : Flight) : State :=
  match f.committed, f.formed with
  | true, some (st, ws) =>
    if f.discard then s.modCtrl x fun c => c.dropFlight f.req.tag
    else s.modCtrl x fun c => c.queueReply (c.route f) f.op st ws true true
  | true, none => s
  | false, _ =>
    (s.journalReq x f.req f.op 5 stFailoverRetry f.req.crc).modCtrl x fun c =>
      (c.modFlight f.req.tag fun g => { g with formed := none }).finish f.req.tag stFailoverRetry []

/-- All tags that were in flight. -/
def State.takeTags (s : State) (x : Side) (fs : List Flight) : State := fs.foldl (fun s f => s.takeTag x f) s

/-- Sends without a mirrored completion entry are lost with the old controller (R228). -/
def State.loseFsk (s : State) (x : Side) : State :=
  let c := s.ctrl x
  let done := fun (j : FskJob) => c.logl.held.any fun w =>
    fld w 67 64 == 1 && fld w 95 88 == 0x3A && fld w 87 80 == j.req.session && fld w 63 48 == j.req.seq &&
      fld w 79 68 == j.req.tag && decide ((fld w 127 96 + 4294967296 - j.entry) % 4294967296 < 2147483648)
  c.fsk.foldl (fun s p => (p.2.filter fun j => !done j).foldl (fun s j => s.fskOutcome x p.1 j 6 [] 0) s)
    (s.modCtrl x fun c => { c with fsk := [] })

/-- The output channels that the image holds nothing for. -/
def Ctrl.bare (c : Ctrl) : List Nat := c.allOutputs.filter fun ch => (c.imageCmd ch).isNone && !c.multidrop ch

/-- Tests and an arming of the old ACTIVE controller `o` end: the channels return to the image, stored trims act again, the
ends of the tests are reported, and a capture whose tag is in flight is answered (R219, R317). What a controller in reset had armed
or tested is not known: every trim is sent, and every output without an image entry goes off. -/
def State.endOld (s : State) (x : Side) (o : Ctrl) : State :=
  let c1 := o.tests.foldl (fun c p =>
    match p.2 with
    | some t => s.eventTo (c.leave p.1) t.session 0x0D p.1 [mkw [(127, 124, 4)]]
    | none => c) (s.ctrl x)
  let trims := match o.arm with
    | some a => [a.ch]
    | none => if o.inReset then ((List.range 128).map fun i => 0x400 + i).filter fun ch => loopMode (c1.loopCfg ch) != 0 else []
  let outs := match o.arm with
    | some a => if a.out then [a.ch] else []
    | none => if o.inReset then c1.bare else []
  let s1 := s.setCtrl x (outs.foldl Ctrl.leave (trims.foldl (fun c ch => c.sendConfig ch 3) c1))
  ((s1.ctrl x).flights.filter fun f => f.op == 0x39 && f.committed && f.formed.isNone).foldl (fun s f =>
    let ch := taChan (wordAt f.payload 0)
    let w := (s.ctrl x).trimWord ch
    let out := loopMode ((s.ctrl x).loopCfg ch) == 2
    s.complete x f.req.tag stOk
      [trimReply ch 0 5 (sext 24 (if out then fld w 87 64 else fld w 111 88)) (if out then fld w 31 0 else fld w 63 32) 0]) s1

/-- The mode at a takeover: SAFE_HOLD, whatever mode is mirrored, after a grant from VACANT, after a restart of the arbiter, or after
`FAIL_REQ`, and else as mirrored, as under COMPAT always (R56 to R58, R365, R382). A change committed before takes effect first
(R51). -/
def State.takeMode (s : State) (x : Side) (why : Nat) : State :=
  if s.compat || !(why == 4 || why == 5) then s
  else
    let s1 := s.takeModeNext x true
    match (s1.ctrl x).mode with
    | .safeHold => s1
    | .calibrate => s1.leaveCalibrate x .safeHold 4
    | .dormant => ((s1.hwEnter x .safeHold 4).modCtrl x fun c => { c with escPending := false }).awaken x
    | .boot | .commission | .service | .recovery | .maintain => s1.hwEnter x .safeHold 4

/-- The old ACTIVE controller gives way: a controller whose `FAIL_REQ` led to the grant resets itself, a holder that handed over
in a firmware sequence restarts, and any other takes the role its stale tether gives (R370, R371, R392). -/
def State.retire (s : State) (y : Side) (planned : Bool) (u : Update) : State :=
  let c := s.ctrl y
  if !c.isActive then s
  else if c.failReq then s.restart y 2
  else if planned && decide (2 ≤ u.op) then s.seqRestart y u
  else (s.modCtrl y fun c => { c with update := {} }).demote y

/-- A firmware update at a takeover: the handover of a sequence leads to its second restart; a staging ends, and a sequence that
has not come to its handover has failed; a soak goes on (R388, R392, R395; DESIGN CHOICE, log entry 48). -/
def State.takeUpdate (s : State) (x : Side) (planned : Bool) (u : Update) : State :=
  if planned && decide (2 ≤ u.op) then
    let s1 := (s.modCtrl x fun c => { c with update := u }).fwPhase x 5 x.other 0
    if u.op = 3 then
      s1.modCtrl x fun c => (List.range 96).foldl (fun c l =>
        if (c.uplink l).rx.st = .hunt then c else c.sendPod l) c
    else s1
  else if (s.ctrl x).update.op = 1 then s.endStaging x
  else if 2 ≤ (s.ctrl x).update.op ∧ (s.ctrl x).update.phase < 5 then s.endUpdate x 3 0 x 0
  else s

/-- The time of the new ACTIVE controller: its own measurement of PTP (R101). One that has a master and has measured no offset yet
goes on as mirrored, in ACQUIRING (DESIGN CHOICE, log entry 90). -/
def State.takeTime (s : State) (x : Side) : State :=
  let s1 := s.modCtrl x Ctrl.disciplined
  let c := s1.ctrl x
  if c.timeInUse = 1 ∧ c.time.master.isSome = true then
    match c.time.ownOffset with
    | some o => s1.correctTime x o
    | none => s1.setCtrl x { c with time := { c.time with state := 1, measAt := none } }
  else s1

/-- The host watchdogs that run start again (R378). -/
def State.takeHostDogs (s : State) (x : Side) : State :=
  ((s.ctrl x).hostDogs.filter fun p => p.2.state == 1).foldl (fun s p => s.startHostDog x p.1) s

/-- The digest of a TAKEOVER entry: the epoch, or under COMPAT the claims (R298, R382). -/
def State.takeDigest (s : State) (x : Side) : Nat :=
  if s.compat then (s.ctrl x).spi.claimA.toNat % 256 * 256 + (s.ctrl x).spi.claimB.toNat % 256 else s.arb.epoch.toNat

/-- The first grant ends BOOT: CALIBRATE begins, every powered pod is asked to calibrate itself and is configured, and a source
latched before opens an episode (R44, R251, R447). A partner whose splice is silent is ISOLATED from now on (R54, R370). -/
def State.firstTake (s : State) (x : Side) (before : Role) : State :=
  let s0 := { s with firstGrant := true }.modCtrl x fun c => { c.takerData true with role := .active, calEnter := s.now }
  let s1 := (s0.journal x 0 0 0xFFF 4 0 stOk 5 (s0.takeDigest x)).hwEnter x .calibrate 2
  let s2 := (List.range 96).foldl (fun s l =>
    if ((s.ctrl x).uplink l).rx.st = .hunt then s else s.startPod x l) s1
  let s3 := (s2.ctrl x).faults.latched.foldl (fun s e =>
    if (s.ctrl x).faults.episode.isOpen then s.raiseActive x e.1 e.2.1 e.2.2 else s.openEpisode x e.1 e.2.1 e.2.2)
    (s2.modCtrl x Ctrl.markAll)
  let s4 := (((s3.modCtrl x fun c => { c with faults := { c.faults with latched := [] } }).resumeDog x).takeTime x).roleEvent x
    before .active (if s.compat then 8 else 0)
  let y := s4.ctrl x.other
  if y.running && !y.inReset && y.role == .syncing && !y.spliceUp then s4.takeRole x.other .isolated 6 else s4

/-- The actions of R378. -/
def State.takeOver (s : State) (x : Side) : State :=
  let c := s.ctrl x
  let o := s.ctrl x.other
  let planned := if s.compat then o.isActive && o.yieldSet else c.grantKind == 3
  let why := if s.compat then (if o.failReq then 5 else 2) else c.grantKind
  let complete := c.role == .active || (c.role == .standby && c.mirrorOk)
  let cause := if s.compat then 8 else if why = 5 then 2 else why
  let u := if o.isActive then o.update else c.update
  let s0 := s.modCtrl x fun c =>
    { c with role := .active, granted := s.compat && c.granted, epoch := s.arb.epoch }
  if !s.firstGrant then s0.firstTake x c.role
  else
    let s1 := s0.modCtrl x fun c => { c.takerData complete with failReq := false }
    let fs := (s1.ctrl x).flights
    let s2 := (s1.journal x 0 0 0xFFF 4 0 stOk 5 (s1.takeDigest x)).modCtrl x Ctrl.markTaken
    let s3 := ((s2.modCtrl x Ctrl.markAll).takeDeferred x).takeMode x why
    let s4 := ((s3.takeTags x fs).endOld x o).loseFsk x
    let s5 := (s4.roleEvent x c.role .active cause).retire x.other planned u
    let s6 := (s5.takeDuties x planned).takeHostDogs x
    let s7 := ((s6.takeUpdate x planned u).enableDogs.resumeDog x).takeTime x
    (s7.syncImage x).syncTags x

/-- A controller has a takeover to carry out: a grant it has not yet taken up, or under COMPAT claims that prevail. -/
def State.mayTake (s : State) (x : Side) : Bool :=
  let c := s.ctrl x
  c.running && !c.inReset && c.dbg.st != 1 && s.holder == some x &&
    (if s.compat then c.role != .active else c.granted)

/-- TAKEOVER. -/
def execTakeover (x : Side) (s : State) : Host.Outcome State Fault Refusal :=
  if s.mayTake x then .next (s.takeOver x) else .next s

/-! ## The mirrored data set (R373, R374) -/

/-- MTIME, its rate, the trackers with the cycles that angle triggers count, and the conversion grid of the STANDBY controller steered to
the ACTIVE controller's (R28, R88, R238). -/
def State.syncTracker (s : State) (x : Side) : State :=
  let c := s.ctrl x
  s.modCtrl x.other fun d =>
    let shift : Int := (timebase s c : Int) - (timebase s d : Int)
    { d with
      as0 := c.as0, as1 := c.as1, as2 := c.as2, as3 := c.as3, trigC0 := c.trigC0, trigMarks := c.trigMarks
      time := { d.time with
        offPs := c.time.offPs + shift * 1000, slewPs := c.time.slewPs, rate := c.time.rate, ratePs := c.time.ratePs
        state := c.time.state, inUse := c.time.inUse, everDisc := c.time.everDisc, offset := c.time.offset, grid := c.time.grid } }

/-- The entries and the head of the logline at the STANDBY controller. -/
def State.syncLogline (s : State) (x : Side) : State :=
  let l := (s.ctrl x).logl
  s.modCtrl x.other fun d =>
    { d with logl := { d.logl with
        entries := l.sram.foldl (fun t e => tset 0 t e.1 e.2) l.entries, next := l.next, count := l.count } }

/-- MIRROR_UPDATE: a STANDBY controller applies an item of the mirrored data set. A splice word whose check an injection inverts is
a failing one (R374, R455). -/
def execMirrorUpdate (item : MirrorItem) (s : State) : Host.Outcome State Fault Refusal :=
  .next (s.onActive fun x c =>
    let y := x.other
    if !s.isStandby y then s
    else if c.injects 4 0 then
      ((s.modCtrl y fun d => { d with mirrorOk := false, spliceAt := s.now }).takeRole y .isolated 6).tendStaging.injected x
    else
      match item with
      | .image => s.syncImage x
      | .dutyTable n => s.syncDuty x n
      | .stageState n => s.syncDuty x n
      | .sessions => s.syncTags x
      | .tags => s.syncTags x
      | .logline => s.syncLogline x
      | .keepQueue => s
      | .tracker => s.syncTracker x
      | .episode => s.syncEpisode x)

/-- A STANDBY or SYNCING controller is cut off from the pair (R370); until the first grant both stay SYNCING (R54). -/
def State.cutOff (s : State) (x : Side) (up : Bool) : State :=
  let c := s.ctrl x
  let ports := if c.spliceUp && !up then { c.ports with peer := (s.ctrl x.other).ports.cnt } else c.ports
  let s1 := s.modCtrl x fun c => { c with spliceUp := up, spliceAt := s.now, mirrorOk := c.mirrorOk && c.role == .active, ports }
  if s.firstGrant = true ∧ (c.role = .standby ∨ c.role = .syncing) then (s1.takeRole x .isolated 6).tendStaging else s1

/-- SPLICE_WORD_BAD: a failing check, or a word missed. -/
def execSpliceWordBad (x : Side) (s : State) : Host.Outcome State Fault Refusal :=
  let c := s.ctrl x
  if c.running && !c.inReset && (c.role == .standby || c.role == .syncing) then .next (s.cutOff x c.spliceUp) else .next s

/-- SPLICE_LOST: 1 ms without good traffic. -/
def execSpliceLost (x : Side) (s : State) : Host.Outcome State Fault Refusal :=
  let c := s.ctrl x
  if c.running && !c.inReset && c.spliceUp then .next (s.cutOff x false) else .next s

/-- SPLICE_RESTORED: good for 10 ms; an ISOLATED controller that debug does not hold out goes SYNCING. Under COMPAT the claims
decide again. -/
def execSpliceRestored (x : Side) (s : State) : Host.Outcome State Fault Refusal :=
  let c := s.ctrl x
  if c.running && !c.inReset && (!c.spliceUp || c.role == .isolated) && decide (c.spliceAt + ms 10 ≤ s.now) then
    let s1 := s.modCtrl x fun c => { c with spliceUp := true, granted := c.granted && !s.compat }
    .next (if c.role = .isolated ∧ c.dbg.st ≠ 1 then s1.takeRole x .syncing 7 else s1)
  else .next s

/-! ## Resynchronisation (R380) -/

/-- Keys of two tables. -/
def unionKeys {α β : Type} (a : Tab α) (b : Tab β) : List Nat :=
  (a.map fun e => e.1) ++ ((b.map fun e => e.1).filter fun k => !a.any fun e => e.1 == k)

/-- The words of a settings area of one controller written into an area of another. -/
def copyArea (from_ to_ : Ctrl) (fromBase toBase : Nat) : Ctrl :=
  let offs := (from_.keep.filterMap fun e => if fromBase ≤ e.1 ∧ e.1 < fromBase + 0x800 then some (e.1 - fromBase) else none) ++
    to_.keep.filterMap fun e => if toBase ≤ e.1 ∧ e.1 < toBase + 0x800 then some (e.1 - toBase) else none
  offs.foldl (fun c o => c.writeKeep (toBase + o) (from_.keepWord (fromBase + o))) to_

/-- The keep bank compared with the sender's and rewritten where it differs, at the cost of wear that R380 states (log entry 111). In a firmware sequence the settings areas follow R391:
none is written but, at the second restart, the one the controller runs. -/
def copyKeep (from_ to_ : Ctrl) : Ctrl :=
  let seq := decide (2 ≤ from_.update.op) && decide (1 ≤ from_.update.phase) && decide (from_.update.phase ≤ 5)
  let ks := (unionKeys from_.keep to_.keep).filter fun k => !seq || decide (k < 0x100) || decide (0x1100 ≤ k)
  let c := ks.foldl (fun c k => c.writeKeep k (from_.keepWord k)) to_
  if seq && from_.update.phase == 5 then copyArea from_ c (from_.areaAt 0) (c.areaAt 0) else c

/-- A conversion job at a controller that did not receive its records with the other: those its own links have brought (R26; log entry
113). -/
def Ctrl.ownConv (d : Ctrl) (j : ConvJob) : ConvJob :=
  { j with recs := j.recs.filterMap fun r =>
      ((d.ringOf r.1).find? fun q => recKind q == 2 && recTime q == fld r.2 95 64).map fun q => (r.1, leaving q.word) }

/-- The snapshot of the mirrored data set taken by a SYNCING controller; input records stay behind (R26). -/
def State.bulkCopy (s : State) (a : Side) : State :=
  let c := s.ctrl a
  let s1 := s.modCtrl a.other fun d =>
    { copyKeep c d with
      image := c.image, mode := c.mode, modeBefore := c.modeBefore, calEnter := c.calEnter, escPending := c.escPending
      contest := c.contest, modeNext := c.modeNext, convs := c.convs.map d.ownConv, groups := c.groups, faults := { d.faults with episode := c.faults.episode }
      mirrorOk := true, imageOk := true, update := c.update
      rope := { c.rope with snaps := c.rope.snaps.map fun n => { n with recs := [] } }
      duties := [], sessions := [], flights := [] }
  let s2 := ((s1.syncTracker a).syncLogline a).takeRole a.other .standby 1
  ((s2.syncDuties a (c.duties.map fun p => p.1)).syncTags a).seqCopied a.other

/-- BULK_COPY_COMPLETE: the copy completes in every mode but BOOT and DORMANT (R55). A tadpole copies once its migration is over. -/
def execBulkCopyComplete (x : Side) (s : State) : Host.Outcome State Fault Refusal :=
  let d := s.ctrl x
  .next (s.onActive fun a c =>
    if a = x.other ∧ d.running = true ∧ d.inReset = false ∧ d.role = .syncing ∧ d.spliceUp = true ∧ c.spliceUp = true ∧
        c.mode ≠ .boot ∧ c.mode ≠ .dormant ∧ (d.imageOk = true ∨ c.update.phase = 5) then
      s.bulkCopy a
    else s)

/-! ## Boot (R384, R385, R390, R391, R395) -/

/-- The settings snapshot of a rollback in place: the area of the slot that boots, or the partner's (R395). -/
def State.takeSnapshot (s : State) (x : Side) : State :=
  let d := s.ctrl x
  let c := s.ctrl x.other
  let isSnap := fun (c : Ctrl) (base : Nat) => fld (c.keepWord base) 111 108 == 3
  if isSnap d (d.areaAt 0) then s
  else if isSnap c 0x100 then s.setCtrl x (copyArea c d 0x100 (d.areaAt 0))
  else if isSnap c 0x900 then s.setCtrl x (copyArea c d 0x900 (d.areaAt 0))
  else s

/-- A controller restarted by a firmware sequence has booted the slot that the sequence names: a tadpole begins its migration, a
rollback takes the snapshot, and the second controller waits for its copy. -/
def State.seqBooted (s : State) (x : Side) : State :=
  let s1 := s.modCtrl x fun c => { c with update := {} }
  s1.onActive fun a c =>
    if a = x then s1
    else if c.update.phase = 1 ∧ c.update.op = 2 then (s1.modCtrl x fun d => d.markArea 2).fwPhase a 2 x 0
    else if c.update.phase = 1 ∧ c.update.op = 3 then
      ((s1.takeSnapshot x).modCtrl x fun d => { d with imageOk := true }).fwPhase a 3 x 0
    else s1

/-- CONTROLLER_BOOT: outside a sequence the slot of R385 boots; if none verifies, the controller stays in reset. -/
def execControllerBoot (x : Side) (ok0 ok1 logOk : Bool) (s : State) : Host.Outcome State Fault Refusal :=
  let c := s.ctrl x
  let ok := fun (b : Bool) => if b then ok1 else ok0
  if !s.supply || !c.inReset then .next s
  else if 2 ≤ c.update.op then
    if ok c.running1 then .next ((s.started x c.running1 logOk).seqBooted x) else .next (s.tailDrop x 1)
  else
    match bootSlot s.safeBoot c ok with
    | some one => .next (s.started x one logOk)
    | none => .next (s.modCtrl x fun c => { c with noImage := true })

/-! ## Takeover under COMPAT without a splice (R382) -/

/-- COMPAT_SPLICE_TAKEOVER: the splice has carried nothing from the partner for 3 ms, of which the loss tells 1 ms. -/
def execCompatSpliceTakeover (x : Side) (s : State) : Host.Outcome State Fault Refusal :=
  let c := s.ctrl x
  if s.compat && c.running && !c.inReset && c.dbg.st != 1 && c.role != .active && !c.spliceUp &&
      decide (c.spliceAt + ms 2 ≤ s.now) then
    .next ((s.modCtrl x fun c => { c with granted := true }).takeOver x)
  else .next s

end Sys2Proof.Machine
end

