-- ==== Sys2Proof/Machine/Rope.lean ====
section
/-! DEFINITION. The rope (chapter 13): bypass, cycle-start frames, slots, roles, joins and absences, snapshots, sleep and wake, rope
reset, and the 1 µs update of angle and time, at which snapshots latch. -/

namespace Sys2Proof.Machine

/-! ## Hearing the rope -/

/-- The knot is past CALIBRATE and awake: it may hold any role (R59). -/
def ropeMode : Mode → Bool
  | .boot | .calibrate | .dormant => false
  | _ => true

/-- The knot hears ROPE_IN: its bypass is open and it is awake. -/
def Ctrl.hears (c : Ctrl) : Bool := !c.rope.bypass && c.mode != .boot && c.mode != .dormant

/-- Its own bit of a knot mask. -/
def State.ownBit (s : State) : Nat := 2 ^ s.knotId

/-! ## Bypass (R400) and roles (R410, R416) -/

/-- The conditions that close the bypass. -/
def State.bypassed (s : State) (c : Ctrl) : Bool :=
  !s.supply || (s.ctrlA.inReset && s.ctrlB.inReset) || c.mode == .boot || !c.ropeEn

/-- BYPASS_CHANGE: the bypass follows its conditions; as it opens the knot starts listening, and as it closes the knot has no
rope. -/
def execBypassChange (s : State) : Host.Outcome State Fault Refusal :=
  .next (s.onActive fun x c =>
    let want := s.bypassed c
    if want = c.rope.bypass then s
    else if want then (s.modRope x fun r => { r with bypass := true, present := 0, isOpen := false }).ropeRole x 3
    else s.modRope x fun r => { r with bypass := false, listenAt := s.now, lastCsf := none })

/-- The knot becomes MASTER: it continues the cycle it last knew, with its own bit present. -/
def State.becomeMaster (s : State) (x : Side) : State :=
  (s.modRope x fun r =>
    { r with
      present := BitVec.ofNat 16 s.ownBit, master := s.knotId, isOpen := false, noReturn := 0, joinDue := [], muted := false
      relock := 0 }).ropeRole x 0

/-- MASTER_TIMEOUT: knot 0 that has heard no CSF when it leaves CALIBRATE, knot n after 2 s + n × 20 ms without one, and a
re-forming knot that was master; another re-forming knot, knot 0 too, waits for a CSF (R410, R420). -/
def execMasterTimeout (s : State) : Host.Outcome State Fault Refusal :=
  .next (s.onActive fun x c =>
    let r := c.rope
    let due := (r.reform && r.wasMaster) || (s.knotId == 0 && r.lastCsf.isNone && !r.reform) ||
      decide (r.lastCsf.getD r.listenAt + ms (2000 + 20 * s.knotId) ≤ s.now)
    if c.hears && ropeMode c.mode && r.role != 0 && !r.yielded && due then s.becomeMaster x else s)

/-- NO_CSF_TIMEOUT: 2 s without a good CSF. -/
def execNoCsfTimeout (s : State) : Host.Outcome State Fault Refusal :=
  .next (s.onActive fun x c =>
    let r := c.rope
    if c.hears && r.role == 1 && decide (r.lastCsf.getD r.listenAt + ms 2000 ≤ s.now) then s.ropeRole x 2 else s)

/-- ROPE_ANGLE_LOSS: a member without a good CSF for 3 cycles (R78, R408). -/
def execRopeAngleLoss (s : State) : Host.Outcome State Fault Refusal :=
  .next (s.onActive fun x c =>
    let r := c.rope
    if r.role = 1 ∧ r.lastCsf.getD r.listenAt + us 750 ≤ s.now then
      let s1 := s.onRunning fun y s =>
        match (s.ctrl y).as2.st with
        | .locked | .relock => s.loseSource y 2
        | _ => s
      s1.modCtrl x fun c => { c with time := { c.time with state := 3, measAt := none } }
    else s)

/-! ## Presence (R413, R415) -/

/-- The knots of a mask. -/
def knotsOf (m : Nat) : List Nat := (List.range 16).filter (nbit m)

/-- What a knot knows of another, changed. -/
def Rope.modKnot (r : Rope) (k : Nat) (f : Knot → Knot) : Rope := { r with knots := tmod {} r.knots k f }

/-- A new `C_PRESENT`: joins and absences are counted and published. -/
def State.setPresent (s : State) (x : Side) (m : Nat) : State :=
  let old := (s.ctrl x).rope.present.toNat
  let joined := (knotsOf m).filter fun k => !nbit old k && k != s.knotId
  let gone := (knotsOf old).filter fun k => !nbit m k && k != s.knotId
  let s1 := s.modRope x fun r =>
    let r1 := joined.foldl (fun r k => r.modKnot k fun n => { n with joins := satAt 65535 (n.joins + 1), silent := 0 }) r
    let r2 := gone.foldl (fun r k => r.modKnot k fun n => { n with absences := satAt 65535 (n.absences + 1) }) r1
    { r2 with present := BitVec.ofNat 16 m }
  let s2 := joined.foldl (fun s k => s.ropeEvent x 1 k 0) s1
  gone.foldl (fun s k => s.ropeEvent x 2 k 0) s2

/-! ## SNAPSHOT (R419) -/

/-- The first cycle whose point falls at least `lead` rope cycles from now. -/
def snapCycle (t : Tracker) (lead angle : Nat) : BitVec 32 :=
  if t.period = 0 then t.cycle + 1
  else
    let p := t.angle.toNat + lead * 250000 * 262144 / t.period
    t.cycle + BitVec.ofNat 32 (if p ≤ angle then 0 else (p - angle + 65535) / 65536)

/-- Fields of the request word. -/
def snLead (w : Word) : Nat := fld w 127 120
def snAngle (w : Word) : Nat := fld w 119 104
def snGroups (w : Word) : Nat := fld w 103 88
def snKnots (w : Word) : Nat := fld w 87 72
def snBase (w : Word) : Nat := fld w 71 60
def snMask (w : Word) : Nat := fld w 59 28

/-- The command words of a snapshot (R405). A request to the master takes the same form, with `LEAD` in [27:20] and the tag in the
cycle field (DESIGN CHOICE, log entry 49). -/
def snapWords (origin angle field knots groups base mask lead : Nat) : Word × Word :=
  (mkw [(127, 124, 1), (123, 120, origin), (119, 104, angle), (103, 72, field), (71, 56, knots), (55, 40, groups), (39, 28, base),
    (27, 20, lead)], mkw [(127, 124, 7), (95, 64, mask)])

/-- A snapshot a knot takes note of: it latches when it takes part. -/
def newSnap (origin angle : Nat) (cycle : BitVec 32) (knots groups base mask : Nat) (tag : Option Nat) (session : Nat)
    (part : Bool) : Snap :=
  { origin, angle := BitVec.ofNat 16 angle, cycle, knots, groups, base, mask, tag, session, latched := !part, latchAt := 0,
    latchMt := 0, done := 0, noAngle := 0, recs := [], awaits := [], sent := !part }

/-- A snapshot is complete when each of its knots has sent its last record. -/
def Snap.complete (n : Snap) (present : Nat) : Bool :=
  (knotsOf n.knots).all fun k => nbit n.done k || !nbit present k

/-- The reply word. -/
def Snap.reply (n : Snap) : Word :=
  let missing := ((knotsOf n.knots).filter fun k => !nbit n.done k).map fun k => 2 ^ k
  let outcome := if n.done ≠ 0 ∧ n.noAngle = n.done then 2 else if missing.sum = 0 then 0 else 1
  mkw [(127, 124, n.origin), (123, 120, outcome), (119, 104, n.angle.toNat), (103, 72, n.cycle.toNat), (71, 56, n.done),
    (55, 40, missing.sum), (31, 0, n.latchMt.toNat)]

/-- Snapshots that are over leave; those of this knot are answered. -/
def State.endSnaps (s : State) (x : Side) (f : Snap → Bool) : State :=
  let ended := (s.ctrl x).rope.snaps.filter f
  let s1 := s.modRope x fun r => { r with snaps := r.snaps.filter fun n => !f n }
  ended.foldl (fun s n => match n.tag with | some t => s.complete x t stOk [n.reply] | none => s) s1

/-- The snapshots whose knots have all delivered. -/
def State.closeSnaps (s : State) (x : Side) : State :=
  let present := if (s.ctrl x).rope.role = 3 then s.ownBit else (s.ctrl x).rope.present.toNat
  s.endSnaps x fun n => n.complete present && n.sent

/-- The word of a last record that carries none: 0 for a knot without an angle, else with channel 0xFFF (DESIGN CHOICE, log entry
49). -/
def emptyLast (angled : Bool) : Word := if angled then mkw [(127, 116, 0xFFF)] else 0

/-- A knot's records have come in at their origin: published to the session that asked. -/
def State.snapData (s : State) (x : Side) (knot session : Nat) (recs : List Word) : State :=
  s.modCtrl x fun c =>
    s.eventTo c session 0x10 knot (ropeWord 10 c.rope.role knot 0 c.rope.cycle :: recs.take 253)

/-- The last record of a knot for the oldest snapshot of an origin that still awaits it. -/
def State.snapLast (s : State) (x : Side) (origin knot : Nat) (w : Word) (recs : List Word) : State :=
  let mine := (s.ctrl x).rope.snaps.find? fun n => n.origin == origin && nbit n.knots knot && !nbit n.done knot
  match mine with
  | none => s
  | some m =>
    let all := if w = emptyLast true ∨ w = emptyLast false then recs else recs ++ [w]
    let s1 := s.modRope x fun r =>
      { r with snaps := r.snaps.map fun n =>
          if n = m then
            { n with done := n.done + 2 ^ knot, noAngle := if w = emptyLast false then n.noAngle + 2 ^ knot else n.noAngle }
          else n }
    (if origin = s.knotId ∧ m.tag.isSome = true then s1.snapData x knot m.session all else s1).closeSnaps x

/-- A source that gives no rope angle: no snapshot is taken (R419). -/
def TrackSt.noAngle : TrackSt → Bool
  | .noSignal | .acquire | .lost => true
  | _ => false

/-- The digital records of a snapshot, which a controller forms from the images of its own links (R26, R419). -/
def State.snapRecs (s : State) (c : Ctrl) (n : Snap) : List Word × Ctrl :=
  ((List.range 32).filter (nbit n.mask)).foldl (fun (a : List Word × Ctrl) i =>
    let (r, c1) := s.imageRec a.2 c.ropeSource (n.base + i) (mtimeOf s c).toNat (fun _ => false) [(fSkipped, n.skipped)]
    (a.1 ++ [leaving r.word], c1)) ([], c)

/-- A snapshot that has latched, at the other controller: with the records of that one's own links (R26). -/
def State.snapAside (s : State) (x : Side) (n : Snap) : State :=
  let c := s.ctrl x.other
  if c.running && !c.inReset then
    let (recs, c1) := s.snapRecs c n
    let own := fun (k : Snap) => if k.same n then { k with recs, awaits := n.awaits } else k
    s.setCtrl x.other { c1 with rope := { c1.rope with snaps := c1.rope.snaps.map own } }
  else s

/-- One snapshot at the update: latched, or without an angle passed over. -/
def State.latchSnap (s : State) (x : Side) (n : Snap) : State :=
  let c := s.ctrl x
  let t := c.tracker c.ropeSource
  let put := fun (s : State) (m : Snap) => s.modRope x fun r => { r with snaps := r.snaps.map fun k => if k = n then m else k }
  let base := { n with latched := true, latchAt := s.now, latchMt := mtime32 s c }
  if t.st.noAngle then put s { base with noAngle := n.noAngle + s.ownBit }
  else if !n.due t then s
  else
    let (recs, c1) := s.snapRecs c n
    let trig := c1.trigChans n.groups
    let s1 := s.setCtrl x (c1.sendTriggers trig n.groups (mtimeOf s c).toNat n.skipped)
    (put s1 { base with recs, awaits := trig }).snapAside x { n with awaits := trig }

/-- Own records that are complete: those for this knot are taken at once; others wait for the slot. -/
def State.ownSnaps (s : State) (x : Side) : State :=
  let ready := (s.ctrl x).rope.snaps.filter fun n => n.latched && !n.sent && n.awaits.isEmpty && n.origin == s.knotId
  ready.foldl (fun s n =>
    let s1 := s.modRope x fun r => { r with snaps := r.snaps.map fun k => if k = n then { n with sent := true, noAngle := 0 } else k }
    s1.snapLast x s.knotId s.knotId (emptyLast (!nbit n.noAngle s.knotId)) n.recs) s

/-- SNAPSHOT_LATCH, at each update. -/
def State.latchSnaps (s : State) (x : Side) : State :=
  (((s.ctrl x).rope.snaps.filter fun n => !n.latched).foldl (fun s n => s.latchSnap x n) s).ownSnaps x

/-- The checks of SNAPSHOT. -/
def checkSnapshot (p : List Word) : Nat :=
  let w := wordAt p 0
  if p.length ≠ 1 ∨ snLead w < 2 ∨ (snGroups w = 0 ∧ snMask w = 0) ∨ 0x3FF < snBase w + 31 then stRange else stOk

/-- The effect of SNAPSHOT: a request to the master, or without a rope a snapshot of this module alone. -/
def effectSnapshot (x : Side) (q : Req) (p : List Word) (s : State) : State :=
  let w := wordAt p 0
  let c := s.ctrl x
  let words := snapWords s.knotId (snAngle w) q.tag (snKnots w) (snGroups w) (snBase w) (snMask w) (snLead w)
  if c.rope.role = 3 then
    if 4 ≤ c.rope.snaps.length then s.complete x q.tag stBusy []
    else
      let own := snKnots w = 0 ∨ nbit (snKnots w) s.knotId = true
      let n := newSnap s.knotId (snAngle w) (snapCycle (c.tracker c.ropeSource) (snLead w) (snAngle w))
        (if snKnots w = 0 then s.ownBit else snKnots w) (snGroups w) (snBase w) (snMask w) (some q.tag) q.session own
      (s.modRope x fun r => { r with snaps := r.snaps ++ [n] }).closeSnaps x
  else
    s.modRope x fun r =>
      let r1 := { r with mine := r.mine ++ [(q.tag, q.session)] }
      if r.role = 0 then { r1 with asks := r1.asks ++ [words] } else { r1 with requests := r1.requests ++ [words.1, words.2] }

/-- SNAPSHOT_TIMEOUT: 2 s after the latch. -/
def execSnapshotTimeout (s : State) : Host.Outcome State Fault Refusal :=
  .next (s.onActive fun x _ => s.endSnaps x fun n => n.latched && decide (n.latchAt + ms 2000 ≤ s.now))

/-- A SNAPSHOT command: a knot that takes part latches at the point; the origin ties it to its oldest request, and the master
keeps count of it. -/
def State.cmdSnapshot (s : State) (x : Side) (w mask : Word) : State :=
  let c := s.ctrl x
  let origin := fld w 123 120
  let present := c.rope.present.toNat
  let knots := if fld w 71 56 = 0 then present else fld w 71 56
  let own := if origin = s.knotId then c.rope.mine.head? else none
  let n := newSnap origin (fld w 119 104) (BitVec.ofNat 32 (fld w 103 72)) knots (fld w 55 40) (fld w 39 28) (fld mask 95 64)
    (own.map fun m => m.1) ((own.map fun m => m.2).getD 0) (nbit knots s.knotId)
  if nbit knots s.knotId || own.isSome || c.rope.role == 0 then
    s.modRope x fun r =>
      { r with snaps := r.snaps ++ [{ n with latchAt := s.now }], mine := if own.isSome then r.mine.drop 1 else r.mine }
  else s

/-- A SNAPSHOT_REFUSED command: the origin answers `BUSY`. -/
def State.cmdRefused (s : State) (x : Side) (w : Word) : State :=
  let tag := fld w 119 108
  if fld w 123 120 = s.knotId ∧ ((s.ctrl x).rope.mine.any fun m => m.1 == tag) = true then
    (s.modRope x fun r => { r with mine := r.mine.filter fun m => m.1 != tag }).complete x tag stBusy []
  else s

/-! ## Sleep (R421, R422, R425) -/

/-- The reply word of SLEEP_PROPOSE. -/
def sleepReply (outcome who why : Nat) (S : BitVec 32) : Word :=
  mkw [(127, 124, outcome), (123, 120, who), (119, 116, why), (111, 80, S.toNat)]

/-- `LEAD` of SLEEP_PROPOSE. -/
def spLead (w : Word) : Nat := if fld w 127 120 = 0 then 8 else fld w 127 120

/-- The rope's own cycle count of a module without a rope. -/
def State.ownCycle (s : State) (c : Ctrl) : BitVec 32 := BitVec.ofNat 32 (timebase s c / us 250)

/-- The first reason of R422 that applies, 0 for none. -/
def Ctrl.vetoReason (c : Ctrl) : Nat :=
  firstFail [
    (c.mode == .recovery || c.mode == .maintain, 1),
    (c.update.op != 0, 2),
    (c.flights.any fun f => f.op != 0x7A || some f.req.tag != c.rope.sleepTag, 3),
    (!c.groups.isEmpty, 4),
    (c.rope.wakeSeen, 5),
    (c.mode != .commission && c.mode != .service && c.mode != .safeHold, 6),
    (c.rope.isOpen, 7)]

/-- A proposal begins at this knot. -/
def State.beginSleep (s : State) (x : Side) (proposer : Nat) (S : BitVec 32) : State :=
  s.modRope x fun r =>
    { r with
      sleepSt := 1, sleepS := S, proposer, ackOk := false, vetoed := none, atPropose := r.present, wakeSeen := false
      gotCommit := false, knots := r.knots.foldl (fun t e => tset {} t e.1 { e.2 with sleep := 0 }) [] }

/-- The agreement ends for this knot's own proposal: its reply (R425). -/
def State.answerSleep (s : State) (x : Side) (outcome who why : Nat) : State :=
  match (s.ctrl x).rope.sleepTag with
  | some t =>
    (s.modRope x fun r => { r with sleepTag := none }).complete x t stOk [sleepReply outcome who why (s.ctrl x).rope.sleepS]
  | none => s

/-- A SLEEP_PROPOSE command. A knot whose own proposal was not the one taken answers `BUSY`. -/
def State.cmdPropose (s : State) (x : Side) (w : Word) : State :=
  let s1 := s.beginSleep x (fld w 123 120) (BitVec.ofNat 32 (fld w 119 88))
  match (s1.ctrl x).rope.sleepTag with
  | some t =>
    if fld w 123 120 = s.knotId then s1 else (s1.modRope x fun r => { r with sleepTag := none }).complete x t stBusy []
  | none => s1

/-- A SLEEP_COMMIT command: the knot will be DORMANT at the CSF of S. -/
def State.cmdCommit (s : State) (x : Side) (w : Word) : State :=
  let r := (s.ctrl x).rope
  if r.sleepSt ≠ 0 ∧ r.sleepS.toNat = fld w 119 88 then
    ((s.modRope x fun r => { r with gotCommit := true, sleepSt := 2 }).ropeEvent x 8 s.knotId 0).answerSleep x 0 0 0
  else s

/-- A SLEEP_ABORT command: vetoed, or aborted for a missing ACK or an open rope. -/
def State.cmdAbort (s : State) (x : Side) (w : Word) : State :=
  let r := (s.ctrl x).rope
  let who := fld w 87 84
  let why := fld w 83 80
  let outcome := if why = 7 ∨ why = 8 then 2 else 1
  if r.sleepSt ≠ 0 ∧ r.sleepS.toNat = fld w 119 88 then
    (((s.modRope x fun r => { r with sleepSt := 0, gotCommit := false }).ropeEvent x 8 who outcome).answerSleep x outcome who
      why)
  else if r.sleepTag.isSome ∧ r.sleepSt = 0 ∧ fld w 123 120 = s.knotId then
    (s.modRope x fun r => { r with sleepS := BitVec.ofNat 32 (fld w 119 88) }).answerSleep x outcome who why
  else s

/-- The commit point at this knot: its guards hold and it commits, or it vetoes; queued sends end first (R228, R422). -/
def State.sleepPoint (s : State) (x : Side) : State :=
  let why := (s.ctrl x).vetoReason
  if why = 0 then (s.fskAborts x fun _ => true).modRope x fun r => { r with ackOk := true, sleepSt := 2 }
  else s.modRope x fun r => { r with vetoed := r.vetoed <|> some (s.knotId, why) }

/-- The checks of SLEEP_PROPOSE. -/
def checkSleepPropose (p : List Word) (c : Ctrl) : Nat :=
  let lead := fld (wordAt p 0) 127 120
  firstFail [
    (p.length != 1 || (lead != 0 && decide (lead < 8)), stRange),
    (c.rope.sleepSt != 0 || c.rope.sleepTag.isSome, stBusy)]

/-- The request for a sleep that goes to the master: the command's form with `LEAD` in [119:112] (DESIGN CHOICE, log entry 49). -/
def sleepAsk (knot lead : Nat) : Word := mkw [(127, 124, 2), (123, 120, knot), (119, 112, lead)]

/-- The effect of SLEEP_PROPOSE: a request to the master, or without a rope an agreement of the module with itself. -/
def effectSleepPropose (x : Side) (q : Req) (p : List Word) (s : State) : State :=
  let lead := spLead (wordAt p 0)
  let s1 := s.modRope x fun r => { r with sleepTag := some q.tag }
  match (s.ctrl x).rope.role with
  | 3 => s1.beginSleep x s.knotId (s.ownCycle (s.ctrl x) + BitVec.ofNat 32 lead)
  | 0 => s1.modRope x fun r => { r with asks := r.asks ++ [(sleepAsk s.knotId lead, 0)] }
  | _ => s1.modRope x fun r => { r with requests := r.requests ++ [sleepAsk s.knotId lead] }

/-- The agreement of a module without a rope, on its own cycle count. -/
def State.loneSleep (s : State) (x : Side) : State :=
  let c := s.ctrl x
  let r := c.rope
  let left := (r.sleepS - s.ownCycle c).toNat
  let near := fun (n : Nat) => decide (left ≤ n) || decide (2147483648 ≤ left)
  if r.role ≠ 3 ∨ r.sleepSt = 0 then s
  else if r.sleepSt = 1 then
    if near 3 then
      let s1 := s.sleepPoint x
      match (s1.ctrl x).rope.vetoed with
      | some v =>
        ((s1.modRope x fun r => { r with sleepSt := 0 }).ropeEvent x 8 v.1 1).answerSleep x 1 v.1 v.2
      | none => s1
    else s
  else if near 1 && !r.gotCommit then
    ((s.modRope x fun r => { r with gotCommit := true }).ropeEvent x 8 s.knotId 0).answerSleep x 0 0 0
  else s

/-! ## Rope reset (R420) -/

/-- The module starts again from reset: both controllers, the arbiter, and BOOT; the counters of the conversion words read 0 (R8, R44,
R232). -/
def State.resetModule (s : State) (cause : Nat) : State :=
  let fresh := fun (c : Ctrl) =>
    { c.afterReset s.now cause with lock := false, ports := {}, rope := { c.rope with
        bypass := true, role := 3, isOpen := false, drift := false, muted := false, relock := 0, conflict := false, sleepSt := 0
        sleepTag := none, gotCommit := false, present := 0, cycle := 0, loopNs := 0, loopResid := 0, mutes := 0, bad := 0
        knots := [], lastCsf := none, joinDue := [], noReturn := 0, cmds := [], requests := [], relays := []
        summaries := [], snaps := [], mine := [], gather := [], asks := [], yielded := false, wakeSeen := false, woke := false
        wakeBy := 0, wakeSent := 0, master := 0, vetoed := none, ackOk := false, atPropose := 0, proposer := 0
        reform := c.rope.reform && decide (cause = 6), wasMaster := c.rope.wasMaster && decide (cause = 6)
        reformSet := if cause = 6 then c.rope.reformSet else 0 } }
  let s1 := (s.modCtrl .a fresh).modCtrl .b fresh
  let cleared := fun (p : Nat × LoopCh) => (p.1, { p.2 with fskErrors := 0, trigLost := 0, aborts := 0 })
  { s1 with
    loops := (s1.loops.map cleared).filter fun p => p.2 != {}
    firstGrant := false, startHold := true, attached := false, usbLink := 0, detachAt := none, locate := none
    arb := { since := s.now, beatA := { silentAt := s.now }, beatB := { silentAt := s.now } } }

/-- A ROPE_RESET command: re-forming is latched, and the module enters BOOT. -/
def State.cmdReset (s : State) (x : Side) : State :=
  let r := (s.ctrl x).rope
  let mark := fun (c : Ctrl) => { c with rope := { c.rope with reform := true, reformSet := r.present, wasMaster := r.role == 0 } }
  (s.modBoth mark).resetModule 6

/-! ## Commands (R405) -/

/-- The commands of a CSF, each with its continuation, as a knot takes them. -/
def State.takeCmds (s : State) (x : Side) : List Word → State
  | [] => s
  | w :: ws =>
    let s1 := match fld w 127 124 with
      | 1 => s.cmdSnapshot x w (ws.headD 0)
      | 2 => s.cmdPropose x w
      | 3 => s.cmdCommit x w
      | 4 => s.cmdAbort x w
      | 5 => s.cmdReset x
      | 6 => s.cmdRefused x w
      | _ => s
    State.takeCmds s1 x ws

/-- A command that reaches a knot which hears the rope and is not its master. -/
def State.onCmd (s : State) (f : Side → State) : Host.Outcome State Fault Refusal :=
  .next (s.onActive fun x c => if c.hears && c.rope.role != 0 && c.rope.role != 3 then f x else s)

def execRopeCmdSnapshot (w mask : Word) (s : State) : Host.Outcome State Fault Refusal := s.onCmd fun x => s.cmdSnapshot x w mask
def execRopeCmdSleepPropose (w : Word) (s : State) : Host.Outcome State Fault Refusal := s.onCmd fun x => s.cmdPropose x w
def execRopeCmdSleepCommit (w : Word) (s : State) : Host.Outcome State Fault Refusal := s.onCmd fun x => s.cmdCommit x w
def execRopeCmdSleepAbort (w : Word) (s : State) : Host.Outcome State Fault Refusal := s.onCmd fun x => s.cmdAbort x w
def execRopeCmdRopeReset (_w : Word) (s : State) : Host.Outcome State Fault Refusal := s.onCmd fun x => s.cmdReset x
def execRopeCmdSnapshotRefused (w : Word) (s : State) : Host.Outcome State Fault Refusal := s.onCmd fun x => s.cmdRefused x w

/-! ## The master (R403, R407, R413, R415, R417, R421) -/

/-- Up to `n` command words; a command and its continuation stay together. -/
def takeWords : Nat → List Word → List Word × List Word
  | _, [] => ([], [])
  | 0, ws => ([], ws)
  | n + 1, w :: ws =>
    if fld w 127 124 = 1 then
      match n, ws with
      | m + 1, v :: vs => (w :: v :: (takeWords m vs).1, (takeWords m vs).2)
      | _, _ => ([], w :: ws)
    else (w :: (takeWords n ws).1, (takeWords n ws).2)

/-- A SLEEP_ABORT command word. -/
def abortWord (proposer : Nat) (S : BitVec 32) (who why : Nat) : Word :=
  mkw [(127, 124, 4), (123, 120, proposer), (119, 88, S.toNat), (87, 84, who), (83, 80, why)]

/-- The outcome that the master sends in the CSF of S − 1, or at once for an open rope. -/
def State.sleepOutcome (s : State) (r : Rope) (cyc : BitVec 32) : List Word :=
  if r.sleepSt = 0 ∨ r.gotCommit = true then []
  else if r.isOpen then [abortWord r.proposer r.sleepS s.knotId 7]
  else if cyc + 1 ≠ r.sleepS then []
  else
    match r.vetoed with
    | some v => [abortWord r.proposer r.sleepS v.1 v.2]
    | none =>
      match (knotsOf r.atPropose.toNat).find? fun k => if k = s.knotId then !r.ackOk else (tget {} r.knots k).sleep != 1 with
      | some k => [abortWord r.proposer r.sleepS k 8]
      | none => [mkw [(127, 124, 3), (119, 88, r.sleepS.toNat)]]

/-- One request put into command form: a snapshot with its cycle, or refused when 4 are open; a proposal with its S. -/
def askWords (c : Ctrl) (r : Rope) (own : Nat) (cyc : BitVec 32) (q : Word × Word) : List Word :=
  if fld q.1 127 124 = 1 then
    if 4 ≤ r.snaps.length then [mkw [(127, 124, 6), (123, 120, fld q.1 123 120), (119, 108, fld q.1 83 72)]]
    else
      let w := snapWords (fld q.1 123 120) (fld q.1 119 104)
        (snapCycle (c.tracker c.ropeSource) (fld q.1 27 20) (fld q.1 119 104)).toNat (fld q.1 71 56) (fld q.1 55 40)
        (fld q.1 39 28) (fld q.2 95 64) 0
      [w.1, w.2]
  else
    let S := cyc + BitVec.ofNat 32 (fld q.1 119 112)
    if r.sleepSt ≠ 0 then []
    else if r.isOpen then [abortWord (fld q.1 123 120) S own 7]
    else [mkw [(127, 124, 2), (123, 120, fld q.1 123 120), (119, 88, S.toNat)]]

/-- Presence as the master sends it in its next CSF: joins that are due, which wait while an agreement to sleep is open (R413), and knots
silent for 3 cycles. -/
def Rope.presence (r : Rope) (own : Nat) : Nat × Rope :=
  let r1 := (knotsOf r.present.toNat).foldl (fun r k =>
    if k = own then r else r.modKnot k fun n => { n with silent := if n.heard then 0 else n.silent + 1, heard := false }) r
  let gone := fun k => k != own && decide (3 ≤ (tget {} r1.knots k).silent)
  let due := if r1.sleepSt ≠ 0 then [] else (r1.joinDue.filter fun j => j.2 ≤ 1).map fun j => j.1
  let m := ((List.range 16).filter fun k => (nbit r.present.toNat k && !gone k) || due.contains k || k == own).map fun k => 2 ^ k
  (m.sum, if r1.sleepSt ≠ 0 then r1 else { r1 with joinDue := (r1.joinDue.filter fun j => 1 < j.2).map fun j => (j.1, j.2 - 1) })

/-- The CSF header and time words (R403). -/
def State.csfHeader (s : State) (r : Rope) (n : Nat) : Word :=
  mkw [(127, 124, s.knotId), (123, 120, n), (119, 104, r.present.toNat), (103, 72, r.cycle.toNat),
    (71, 40, Config.serialNumber.toNat), (39, 39, b2n r.isOpen), (38, 38, b2n r.reform)]

def State.csfTime (s : State) (c : Ctrl) : Word :=
  let src := acRope c.angleCfg
  let t := c.tracker src
  mkw [(127, 64, (mtimeOf s c).toNat), (63, 48, t.field.toNat), (47, 44, trackCode t.st), (43, 12, t.cycle.toNat), (11, 10, src)]

/-- `CABLE_NS`. -/
def Ctrl.cableNs (c : Ctrl) : Nat := fld c.ropeCfg 121 112

/-- CSF_LAUNCH: the master starts a cycle; at the CSF of S, which a committed agreement names, the rope sleeps instead. -/
def State.launch (s : State) (x : Side) : State :=
  let cyc := (s.ctrl x).rope.cycle + 1
  let (m, r0) := (s.ctrl x).rope.presence s.knotId
  let s1 := (s.setRope x { r0 with cycle := cyc, noReturn := r0.noReturn + 1, launchAt := s.now }).setPresent x m
  let opens := decide (4 ≤ (s1.ctrl x).rope.noReturn) && !(s1.ctrl x).rope.isOpen
  let s2 := if opens then (s1.modRope x fun r => { r with isOpen := true }).ropeEvent x 6 s.knotId 0 else s1
  let r := (s2.ctrl x).rope
  let formed := r.reform && (knotsOf r.reformSet.toNat).all (nbit m)
  let ask := match r.asks with
    | [] => []
    | q :: _ => askWords (s2.ctrl x) r s.knotId cyc q
  let (now, later) := takeWords 8 (s.sleepOutcome r cyc ++ r.cmds ++ ask)
  let s3 := s2.setRope x { r with asks := r.asks.drop 1, cmds := later, reform := r.reform && !formed }
  let header := s3.csfHeader (s3.ctrl x).rope now.length
  let time := s3.csfTime (s3.ctrl x)
  let s4 := s3.emitRope x (.csf header time (delayField (s3.ctrl x).cableNs) now (csfCheck header time now))
  (s4.takeCmds x now).closeSnaps x

def execCsfLaunch (s : State) : Host.Outcome State Fault Refusal :=
  .next (s.onActive fun x c =>
    let r := c.rope
    if c.hears && r.role == 0 && !(r.gotCommit && r.cycle + 1 == r.sleepS) then s.launch x else s)

/-! ## CSF_RECEIVE (R406 to R408, R410, R411, R413) -/

/-- The delay field of a CSF checks. -/
def csfDelayGood (f : Csf) : Bool := delayField (delayAcc f.delay) == f.delay

/-- A good CSF: its check and its delay field's agree (R402; DEDUCED, log entry 114). -/
def csfGood (f : Csf) : Bool := csfDelayGood f && csfCheck f.header f.time f.body == f.check

/-- A bad CSF or slot is counted (R427). -/
def State.badFrame (s : State) (x : Side) : State := s.modRope x fun r => { r with bad := satAt 65535 (r.bad + 1) }

/-- The forwarded CSF: as it came, with this knot's delays added to a delay field that checks (R406). -/
def State.forwardCsf (s : State) (x : Side) (f : Csf) : State :=
  let added := delayField (delayAcc f.delay + Config.forwardDelay + (s.ctrl x).cableNs)
  s.emitRope x (.forwarded f.header f.time (if csfDelayGood f then added else f.delay) f.body f.check)

/-- The master's own CSF returns, or a foreign one meets it (R408, R411, R417). -/
def State.masterCsf (s : State) (x : Side) (f : Csf) : State :=
  let r := (s.ctrl x).rope
  let serial := fld f.header 71 40
  if serial = Config.serialNumber.toNat then
    let loop := s.now - r.launchAt
    let s1 := s.modRope x fun r =>
      { r with noReturn := 0, loopNs := satAt 65535 loop, loopResid := clampI (-32768) 32767 ((loop : Int) - delayAcc f.delay), isOpen := false }
    if r.isOpen then s1.ropeEvent x 7 s.knotId 0 else s1
  else if serial < Config.serialNumber.toNat then
    (((s.modRope x fun r => { r with conflict := true, lastCsf := some s.now }).ropeRole x 2).ropeEvent x 5 s.knotId 0)
  else s

/-- The angle and the time of a CSF at a member: a sample of AS2, and the discipline of MTIME (R78, R95, R407). A change of the source
it names is a commanded step (R83, R510). A sample of a source that is in NO_SIGNAL, ACQUIRE or LOST is taken like any other (DESIGN
CHOICE, log entry 91). -/
def State.csfSample (s : State) (x : Side) (f : Csf) : State :=
  let st := fld f.time 47 44
  let mt := fld f.time 127 64
  let src := fld f.time 11 10
  let s1 := s.onRunning fun y s =>
    let before := (s.ctrl y).as2.ropeSrc
    (s.modCtrl y fun c => { c with as2 := { c.as2 with fly := decide (4 ≤ st), ropeSrc := some src } }).as2Sample y mt
      (fld f.time 63 48) (BitVec.ofNat 32 (fld f.time 43 12)) (before.isSome && before != some src)
  s1.correctTime x (((mtimeOf s1 (s1.ctrl x)).toNat : Int) - (mt + delayAcc f.delay : Nat))

/-- A good CSF at a knot that is not master. -/
def State.knotCsf (s : State) (x : Side) (f : Csf) : State :=
  let c := s.ctrl x
  let m := fld f.header 119 104
  let s1 := (s.modRope x fun r =>
    { r with
      lastCsf := some s.now, master := fld f.header 127 124, cycle := BitVec.ofNat 32 (fld f.header 103 72)
      isOpen := bitOf f.header 39, reform := r.reform && bitOf f.header 38 }).setPresent x m
  let role := if !ropeMode c.mode then c.rope.role else if nbit m s.knotId && !c.rope.yielded then 1 else 2
  let s2 := ((s1.ropeRole x role).forwardCsf x f)
  (if (s2.ctrl x).rope.role = 1 then s2.csfSample x f else s2).closeSnaps x

/-- CSF_RECEIVE. A bad CSF is counted, and forwarded as it came (R406, R427). -/
def execCsfReceive (f : Csf) (s : State) : Host.Outcome State Fault Refusal :=
  .next (s.onActive fun x c =>
    if !c.hears then s
    else if !csfGood f then (if c.rope.role = 0 then s.badFrame x else (s.badFrame x).forwardCsf x f)
    else if c.rope.role = 0 then s.masterCsf x f
    else s.knotCsf x f)

/-! ## Slots (R404, R409, R412, R414) -/

/-- Requests that fit a number of words, a pair together. -/
def slotRequests (room : Nat) (r : Rope) : List (Nat × Nat × Word) × Rope :=
  let (now, later) := takeWords room r.requests
  (now.map fun w => (6, 0, w), { r with requests := later })

/-- Relays in release order, each whole. -/
def slotRelays : Nat → List (Nat × Nat × List Word) → List (Nat × Nat × Word) × List (Nat × Nat × List Word)
  | _, [] => ([], [])
  | room, (to_, n, ws) :: t =>
    if room < ws.length then ([], (to_, n, ws) :: t)
    else
      let tag := fun (i : Nat) (w : Word) =>
        if i ≠ 0 then (3, if to_ = 16 then 0 else to_, w) else if to_ = 16 then (2, 0, w) else (1, to_, w)
      let rest := slotRelays (room - ws.length) t
      (ws.mapIdx tag ++ rest.1, rest.2)

/-- Snapshot records to other knots: type 4, the last one type 5. -/
def slotSnaps (own : Nat) : Nat → List Snap → List (Nat × Nat × Word) × List Snap
  | _, [] => ([], [])
  | room, n :: t =>
    if room = 0 ∨ n.latched = false ∨ n.sent = true ∨ n.awaits ≠ [] ∨ n.origin = own then
      ((slotSnaps own room t).1, n :: (slotSnaps own room t).2)
    else
      let all := if n.recs.isEmpty then [emptyLast (!nbit n.noAngle own)] else n.recs
      let now := all.take room
      let done := decide (all.length ≤ room)
      let words := now.mapIdx fun i w => (if done ∧ i + 1 = now.length then 5 else 4, n.origin, w)
      let rest := slotSnaps own (room - now.length) t
      let m := { n with
        recs := n.recs.drop room, sent := done
        done := if done then n.done + 2 ^ own else n.done }
      (words ++ rest.1, m :: rest.2)

/-- The payload of a slot, in the order of R404. -/
def Rope.slot (r : Rope) (own : Nat) : List (Nat × Nat × Word) × Rope :=
  let (a, r1) := slotRequests 9 r
  let (b, rl) := slotRelays (9 - a.length) r1.relays
  let (d, sn) := slotSnaps own (9 - a.length - b.length) r1.snaps
  (a ++ b ++ d, { r1 with relays := rl, snaps := sn })

/-- The slot header. -/
def State.slotHeader (s : State) (c : Ctrl) (kind sleep why : Nat) (ws : List (Nat × Nat × Word)) : Word :=
  mkw ([(127, 124, s.knotId), (123, 122, kind), (121, 118, modeCode c.mode), (117, 116, sleep), (115, 112, why),
    (111, 96, c.rope.cycle.toNat), (95, 64, Config.serialNumber.toNat)] ++
    (ws.mapIdx fun i w => (63 - 3 * i, 61 - 3 * i, w.1)) ++ (ws.mapIdx fun i w => (36 - 4 * i, 33 - 4 * i, w.2.1)))

/-- What the knot says of an open proposal: nothing, ACK, or VETO with its reason. -/
def Ctrl.sleepSay (c : Ctrl) : Nat × Nat :=
  if c.rope.sleepSt = 0 ∨ c.rope.gotCommit = true then (0, 0)
  else
    match c.rope.vetoed with
    | some v => (2, v.2)
    | none => if c.rope.sleepSt = 2 then (1, 0) else if c.vetoReason = 0 then (1, 0) else (2, c.vetoReason)

/-- This knot's slot leaves, with its check. -/
def State.sendSlot (s : State) (x : Side) (header : Word) (ws : List Word) : State :=
  s.emitRope x (.slot header ws (slotCheck (s.ctrl x).rope.cycle header ws))

/-- The slot of a knot that is on the rope. -/
def State.dataSlot (s : State) (x : Side) : State :=
  let r := (s.ctrl x).rope
  let s1 := if r.sleepSt = 1 ∧ r.cycle + 3 = r.sleepS then s.sleepPoint x else s
  let c := s1.ctrl x
  let say := c.sleepSay
  let s2 := if say.1 = 2 ∧ r.role = 0 then s1.modRope x fun r => { r with vetoed := r.vetoed <|> some (s.knotId, say.2) } else s1
  if c.dbg.st = 3 then s2.sendSlot x (s2.slotHeader c 0 say.1 say.2 []) []
  else
    let (ws, r1) := (s2.ctrl x).rope.slot s.knotId
    ((s2.setRope x r1).sendSlot x (s2.slotHeader c 0 say.1 say.2 ws) (ws.map fun w => w.2.2)).closeSnaps x

/-- The slot of a JOINING knot that has heard a CSF: a join request. -/
def State.joinSlot (s : State) (x : Side) : State :=
  let c := s.ctrl x
  if c.rope.yielded || c.rope.lastCsf.isNone then s else s.sendSlot x (s.slotHeader c 1 0 0 []) []

/-- SLOT_SEND: a slot whose start is off by more than 0.25 µs is muted; 8 cycles within it re-lock the slot, which raises `DRIFT`
and asks to join again. -/
def execSlotSend (error : Nat) (s : State) : Host.Outcome State Fault Refusal :=
  .next (s.onActive fun x c =>
    let r := c.rope
    if !c.hears || !ropeMode c.mode || r.role == 3 then s
    else if 250 < error then
      let s1 := s.modRope x fun r =>
        { r with muted := true, relock := 0, mutes := if r.muted then r.mutes else satAt 65535 (r.mutes + 1) }
      if r.muted then s1 else s1.ropeEvent x 3 s.knotId 0
    else if r.muted then
      if r.relock < 7 then s.modRope x fun r => { r with relock := r.relock + 1 }
      else
        let s1 := (s.modRope x fun r => { r with muted := false, relock := 0, drift := true }).ropeEvent x 4 s.knotId 0
        if r.role = 0 then s1.dataSlot x else (s1.ropeRole x 2).joinSlot x
    else if r.role = 2 then s.joinSlot x
    else s.dataSlot x)

/-- A foreign frame in this knot's own slot: the lower serial keeps the slot (R412). -/
def State.ownSlot (s : State) (x : Side) (header : Word) (p : List Word) (check : BitVec 32) : State :=
  let serial := fld header 95 64
  if serial < Config.serialNumber.toNat then
    (((s.modRope x fun r => { r with conflict := true, yielded := true }).ropeRole x 2).ropeEvent x 5 s.knotId 0).emitRope x
      (.slot header p check)
  else s

/-- A good slot of another knot is noted. -/
def State.noteSlot (s : State) (x : Side) (header : Word) : State :=
  let k := fld header 127 124
  s.modRope x fun r => r.modKnot k fun n =>
    { n with mode := fld header 121 118, serial := BitVec.ofNat 32 (fld header 95 64), lastSeen := mtime32 s (s.ctrl x), heard := true }

/-- A relayed summary with its records: stored for `REMOTE`, and published (R127). -/
def State.relayed (s : State) (x : Side) (knot : Nat) (ws : List Word) : State :=
  match ws with
  | [] => s
  | sum :: _ =>
    let duty := fld sum 127 116
    let s1 := s.modRope x fun r => { r with summaries := tset (0, 0) r.summaries (4096 * knot + duty) (sum, s.now) }
    s1.modCtrl x fun c => c.tellAll 0x80 (eventWord knot (mtimeOf s c) 0x06 duty :: ws)

/-- A request to the master: a rope reset goes into the next CSF, the others wait their turn. -/
def State.masterAsk (s : State) (x : Side) (w next : Word) : State :=
  if (s.ctrl x).rope.role ≠ 0 then s
  else
    match fld w 127 124 with
    | 1 => s.modRope x fun r => { r with asks := r.asks ++ [(w, next)] }
    | 2 => s.modRope x fun r => { r with asks := r.asks ++ [(w, 0)] }
    | 5 => s.modRope x fun r => { r with cmds := r.cmds ++ [w] }
    | _ => s

/-- The payload of a slot, word by word, with the relay in hand and the knot it is for. -/
def State.slotWords (s : State) (x : Side) (knot : Nat) : List (Nat × Nat × Word) → List Word → State
  | [], hand => s.relayed x knot hand
  | (ty, to_, w) :: t, hand =>
    match ty with
    | 1 => State.slotWords (s.relayed x knot hand) x knot t (if to_ = s.knotId then [w] else [])
    | 2 => State.slotWords (s.relayed x knot hand) x knot t [w]
    | 3 => State.slotWords s x knot t (if hand.isEmpty then [] else hand ++ [w])
    | 4 =>
      State.slotWords (if to_ = s.knotId then s.modRope x fun r => { r with gather := r.gather ++ [(knot, w)] } else s) x knot t hand
    | 5 =>
      let got := ((s.ctrl x).rope.gather.filter fun g => g.1 == knot).map fun g => g.2
      let s1 := s.snapLast x to_ knot w (if to_ = s.knotId then got else [])
      State.slotWords (if to_ = s.knotId then s1.modRope x fun r => { r with gather := r.gather.filter fun g => g.1 != knot } else s1)
        x knot t hand
    | 6 => State.slotWords (s.masterAsk x w (match t with | e :: _ => e.2.2 | [] => 0)) x knot t hand
    | _ => State.slotWords s x knot t hand

/-- What a slot says of an open proposal, as the master keeps it (R421): a veto counts in any cycle, an ACK in S − 3. -/
def State.slotSleep (s : State) (x : Side) (header : Word) : State :=
  let k := fld header 127 124
  s.modRope x fun r =>
    if r.role ≠ 0 ∨ r.sleepSt = 0 ∨ r.gotCommit = true then r
    else
      match fld header 117 116 with
      | 1 => if (fld header 111 96 + 3) % 65536 = r.sleepS.toNat % 65536 then r.modKnot k fun n => { n with sleep := 1 } else r
      | 2 => { r with vetoed := r.vetoed <|> some (k, fld header 115 112) }
      | _ => r

/-- A slot that is heard: a bad one is counted and forwarded as it came, one with this knot's own serial is stripped, and a foreign one
in this knot's slot is settled by the serials (R402, R406, R412, R427). -/
def State.hearSlot (s : State) (x : Side) (header : Word) (p : List Word) (check : BitVec 32) (good : State) : State :=
  if slotCheck (s.ctrl x).rope.cycle header p ≠ check then (s.badFrame x).emitRope x (.slot header p check)
  else if fld header 127 124 = s.knotId then
    if fld header 95 64 = Config.serialNumber.toNat then s else s.ownSlot x header p check
  else good

/-- SLOT_DATA_RECEIVE. -/
def execSlotDataReceive (h : SlotHead) (p : List Word) (s : State) : Host.Outcome State Fault Refusal :=
  .next (s.onActive fun x c =>
    let header := h.header
    let k := fld header 127 124
    let pass := fun (s : State) => s.emitRope x (.slot header p h.check)
    let ws := p.mapIdx fun i w => (fld header (63 - 3 * i) (61 - 3 * i), fld header (36 - 4 * i) (33 - 4 * i), w)
    if !c.hears || c.rope.role == 3 then s
    else s.hearSlot x header p h.check
      (if !nbit c.rope.present.toNat k then pass s
      else pass (((s.noteSlot x header).slotSleep x header).slotWords x k (ws.take 9) [])))

/-- JOIN_RECEIVE: the master grants it in the second CSF after, but not while a proposal is open. -/
def execJoinReceive (h : SlotHead) (s : State) : Host.Outcome State Fault Refusal :=
  .next (s.onActive fun x c =>
    let k := fld h.header 127 124
    let s1 := (s.noteSlot x h.header).emitRope x (.slot h.header [] h.check)
    if !c.hears || c.rope.role == 3 then s
    else s.hearSlot x h.header [] h.check
      (if c.rope.role = 0 ∧ c.rope.sleepSt = 0 ∧ (c.rope.joinDue.any fun j => j.1 == k) = false then
        s1.modRope x fun r => { r with joinDue := r.joinDue ++ [(k, 2)] }
      else s1))

/-! ## ROPE_STATUS (R427) -/

/-- The answer, and the controller with `DRIFT` cleared. -/
def answerRopeStatus (p : List Word) (x : Side) (s : State) : State × Nat × List Word :=
  let r := (s.ctrl x).rope
  if p.length ≠ 0 then (s, stRange, [])
  else
    let own := r.role == 0
    let sum := mkw [(127, 124, s.knotId), (123, 122, r.role), (121, 121, b2n r.isOpen), (120, 120, b2n r.drift), (119, 119, b2n r.muted),
      (118, 118, b2n r.conflict), (117, 116, r.sleepSt), (115, 112, r.master), (111, 96, r.present.toNat), (95, 64, r.cycle.toNat),
      (63, 48, if own then r.loopNs else 0), (47, 32, if own then twos 16 r.loopResid else 0), (31, 16, r.mutes), (15, 0, r.bad)]
    let knot := fun k =>
      let n := tget {} r.knots k
      mkw [(127, 124, k), (123, 123, b2n (nbit r.present.toNat k)), (122, 119, n.mode), (95, 64, n.serial.toNat),
        (63, 48, n.joins), (47, 32, n.absences), (31, 0, n.lastSeen.toNat)]
    (s.modRope x fun r => { r with drift := false }, stOk, sum :: (List.range 16).map knot)

/-! ## DORMANT and wake (R421, R423, R424, R44) -/

/-- DORMANT_ENTRY: a committed agreement takes effect at the CSF of S. The cause code of its MODE event is not stated: a free
value. -/
def execDormantEntry (s : State) : Host.Outcome State Fault Refusal :=
  .next (s.onActive fun x c =>
    let r := c.rope
    if r.gotCommit && r.sleepSt == 2 && (c.mode == .commission || c.mode == .service || c.mode == .safeHold) then
      let (v, s1) := s.draw
      let s2 := s1.enterMode x .dormant (v % 16) 0xFFF 0
      s2.modRope x fun r =>
        { r with
          sleepSt := 0, gotCommit := false, sleptAt := s.clock c, wakeSent := 0, woke := false, wakeBy := 0
          present := if r.role = 0 then BitVec.ofNat 16 s.ownBit else 0, lastCsf := none, joinDue := []
          cmds := [], asks := [], isOpen := false }
    else s)

/-- WAKE_PIN: the WAKE pin asserts. -/
def execWakePin (s : State) : Host.Outcome State Fault Refusal := .next s.signalWake

/-- WAKE_FRAME_SEND: 4 frames, 50 µs apart, after a wake that this knot has seen (R424). -/
def execWakeFrameSend (s : State) : Host.Outcome State Fault Refusal :=
  .next (s.onActive fun x c =>
    let r := c.rope
    if !r.bypass && ((c.mode == .dormant && r.wakeSeen) || r.woke) && r.wakeBy == 0 && decide (r.wakeSent < 4) &&
        (r.wakeSent == 0 || decide (r.wakeAt + us 50 ≤ s.now)) then
      (s.emitRope x (.wakeFrame s.knotId)).modRope x fun r =>
        { r with wakeSent := r.wakeSent + 1, wakeAt := s.now, woke := r.woke && decide (r.wakeSent < 3) }
    else s)

/-- WAKE_FRAME_RECEIVE: a DORMANT knot forwards another's frame and starts its own wake; its own frame is stripped. -/
def execWakeFrameReceive (knot : Nat) (s : State) : Host.Outcome State Fault Refusal :=
  .next (s.onActive fun x c =>
    if c.mode = .dormant ∧ c.rope.bypass = false ∧ knot ≠ s.knotId then
      (s.emitRope x (.wakeFrame knot)).modRope x fun r => if r.wakeSeen then r else { r with wakeSeen := true, wakeBy := knot + 1 }
    else s)

/-- WAKE: the module leaves DORMANT to the mode it held, or after an escalation to SAFE_HOLD; the former master goes on with the
cycles its time counted, and every other knot joins. The reason code of a wake by escalation is not stated: a free value. -/
def execWake (s : State) : Host.Outcome State Fault Refusal :=
  .next (s.onActive fun x c =>
    if c.mode = .dormant ∧ c.rope.wakeSeen = true then
      let r := c.rope
      let (v, s0) := if c.escPending then s.draw else (5, s)
      let s1 := s0.hwEnter x (if c.escPending then .safeHold else c.modeBefore) (if c.escPending then 1 else 3)
      let s2 := (s1.modCtrl x fun c => { c with escPending := false }).awaken x
      (s2.ropeEvent x 9 (if r.wakeBy = 0 then s.knotId else r.wakeBy - 1) (v % 16)).syncImage x
    else s)

/-- SLEEP_ORPHAN_WAKE: a knot that committed and missed the SLEEP_COMMIT sends wake frames after 3 cycles without a CSF. -/
def execSleepOrphanWake (s : State) : Host.Outcome State Fault Refusal :=
  .next (s.onActive fun x c =>
    let r := c.rope
    if c.mode ≠ .dormant ∧ r.role = 1 ∧ r.sleepSt ≠ 0 ∧ r.gotCommit = false ∧ r.lastCsf.getD r.listenAt + us 750 ≤ s.now then
      s.modRope x fun r => { r with woke := true, wakeSent := 0, wakeBy := 0, sleepSt := 0 }
    else s)

/-! ## ANGLE_UPDATE (R69, R70, R94) -/

/-- One update: 1 µs passes, the trackers of both controllers advance and fire, snapshots latch, and a module without a rope counts
its own cycles. -/
def execAngleUpdate (s : State) : Host.Outcome State Fault Refusal :=
  let s1 := (({ s with now := s.now + 1000 }).trackAll .a).trackAll .b
  .next (s1.onActive fun x _ => (s1.latchSnaps x).loneSleep x)

end Sys2Proof.Machine
end

