-- ==== Sys2Proof/Machine/Requests.lean ====
section
/-! DEFINITION. Requests of the host (chapters 02 and 10): the mode matrix of R62, each message's checks, effect and answer by
opcode, the logline commit (R295, R296), and the path of an arriving message through R291. -/

namespace Sys2Proof.Machine

/-! ## Reserved fields (R293) -/

/-- The reserved fields of a request's first word, as [hi:lo] pairs. -/
def reservedHead (op : Nat) (p : List Word) : List (Nat × Nat) :=
  match op with
  | 0x01 => [(108, 96), (62, 0)]
  | 0x02 => [(63, 0)]
  | 0x10 => [(99, 0)]
  | 0x11 => [(99, 0)]
  | 0x12 => [(123, 0)]
  | 0x21 => [(102, 0)]
  | 0x22 => [(102, 0)]
  | 0x23 => [(115, 0)]
  | 0x24 => [(125, 124), (103, 0)]
  | 0x30 => if fld (wordAt p 0) 127 126 = 1 then [(107, 0)] else if fld (wordAt p 0) 127 126 = 2 then [(111, 0)] else [(35, 0)]
  | 0x32 => [(71, 0)]
  | 0x38 => [(95, 0)]
  | 0x39 => [(101, 96), (71, 0)]
  | 0x3A => [(113, 112), (105, 104), (65, 64), (47, 32)]
  | 0x40 => [(115, 0)]
  | 0x41 => [(78, 0)]
  | 0x51 => [(121, 0)]
  | 0x53 => [(82, 0)]
  | 0x54 => [(82, 0)]
  | 0x55 => [(111, 0)]
  | 0x60 => [(105, 0)]
  | 0x61 => [(105, 0)]
  | 0x68 => [(124, 96), (63, 0)]
  | 0x69 => [(111, 0)]
  | 0x6A => [(122, 0)]
  | 0x6B => [(123, 96), (63, 0)]
  | 0x70 => [(123, 96), (31, 0)]
  | 0x71 => [(111, 0)]
  | 0x79 => [(27, 0)]
  | 0x7A => [(119, 0)]
  | _ => []

/-- The reserved fields of an item word of CFG_WRITE (R174, R205, R232, R91, R357, R426, R441, R443, R454, R336, R356). -/
def reservedItem (item i : Nat) : List (Nat × Nat) :=
  match item with
  | 0x01 => [(78, 64), (53, 48), (31, 0)]
  | 0x02 => [(5, 0)]
  | 0x03 => [(58, 32), (27, 24)]
  | 0x10 => [(90, 88), (77, 72), (31, 0)]
  | 0x20 => [(123, 0)]
  | 0x21 => [(87, 64), (29, 0)]
  | 0x22 => [(126, 120), (88, 64), (26, 0)]
  | 0x23 => [(116, 112), (85, 64), (55, 0)]
  | 0x24 => [(125, 122), (75, 0)]
  | 0x25 => (126, 122) :: (if i = 0 then [(118, 64)] else if i = 3 then [(119, 64)] else [])
  | 0x26 => [(120, 112), (63, 0)]
  | _ => []

/-- A field of the list is not zero. -/
def anyField (w : Word) (fs : List (Nat × Nat)) : Bool := fs.any fun f => fld w f.1 f.2 != 0

/-- A request writes a reserved field non-zero. -/
def reservedSet (op : Nat) (p : List Word) : Bool :=
  anyField (wordAt p 0) (reservedHead op p) ||
    (op == 0x11 && (cfWords p).any fun e => anyField e.2 (reservedItem (cfItem p) e.1)) ||
    (op == 0x31 && p.any fun w => anyField w [(87, 64), (23, 0)])

/-! ## The mode matrix (R62) -/

/-- The status the module mode gives a request before its own checks; conditions b to e stand with those checks, as do the mode of a loop
configuration word in CALIBRATE (R206) and that of CAL_START (R254), whose own checks come first. -/
def modeStatus (m : Mode) (op : Nat) (p : List Word) (c : Ctrl) : Nat :=
  let only := fun (ms : List Mode) => if ms.contains m then stOk else stModeForbids
  let running := [Mode.commission, .service, .recovery, .safeHold, .maintain]
  match op with
  | 0x11 => if m = .calibrate ∧ cfItem p = 2 ∧ cfgShape p = true then stOk else only running
  | 0x12 => only running
  | 0x20 => only running
  | 0x21 => only running
  | 0x22 => only running
  | 0x31 => only [.commission, .service, .recovery, .maintain]
  | 0x32 => only [.commission, .maintain]
  | 0x39 => only [.commission, .maintain]
  | 0x3A =>
    if m = .safeHold ∧ loopMode (c.loopCfg (fsChan (wordAt p 0))) = 2 ∧ c.multidrop (fsChan (wordAt p 0)) = true then stBusy
    else only running
  | 0x55 => only [.commission, .maintain]
  | 0x61 => only running
  | 0x70 => only [.commission, .service, .maintain]
  | 0x71 => only [.commission, .service, .maintain]
  | 0x72 => only running
  | 0x79 => only running
  | 0x7A => only [.commission, .service, .safeHold]
  | _ => stOk

/-! ## A journalled message at its commit -/

/-- The checks of a journalled message's own chapter. -/
def State.ownStatus (s : State) (x : Side) (op : Nat) (q : Req) (p : List Word) : Nat :=
  let c := s.ctrl x
  let m := c.mode
  match op with
  | 0x01 => checkSessionOpen q p c
  | 0x02 => checkSessionResume q p c
  | 0x03 => checkSessionClose p
  | 0x11 => checkCfgWrite x m p c
  | 0x12 => checkModeRequest p c
  | 0x20 => checkDutyDefine p c
  | 0x21 => checkDutyStart m p c
  | 0x22 => if rangeBad p then stRange else stOk
  | 0x30 => checkSample p c
  | 0x31 => checkOutputSet p c
  | 0x32 => checkTestDrive p c
  | 0x38 => checkCalStart m p c s
  | 0x39 => checkTrim q p c
  | 0x3A => checkFskSend p c
  | 0x40 => checkAbort q p c
  | 0x51 => checkFaultAck p c
  | 0x52 => checkPinRelease s.now p c
  | 0x55 => checkWdogKey s.now q p c
  | 0x61 => checkKeepWrite p c
  | 0x70 => checkFwStage x p s
  | 0x71 => checkFwSwap x p s
  | 0x72 => checkFwRollback x p s
  | 0x79 => checkSnapshot p
  | 0x7A => checkSleepPropose p c
  | _ => stUnknownOp

/-- The status of a journalled message: the module mode first, then its own checks (R291). -/
def State.commitStatus (s : State) (x : Side) (op : Nat) (q : Req) (p : List Word) : Nat :=
  let m := modeStatus (s.ctrl x).mode op p (s.ctrl x)
  if m = stOk then s.ownStatus x op q p else m

/-- The effect of an accepted message and its reply, if it is formed now; `last` is the session's newest entry before. -/
def State.effect (s : State) (x : Side) (op : Nat) (q : Req) (p : List Word) (last : Nat) : State × Option (List Word) :=
  match op with
  | 0x01 => let (t, ws) := effectSessionOpen x q p s; (t, some ws)
  | 0x02 => let (t, ws) := effectSessionResume x q last s; (t, some ws)
  | 0x03 => (s, some [])
  | 0x11 => effectCfgWrite x q p s
  | 0x12 => effectModeRequest x q p s
  | 0x20 => (effectDutyDefine x q p s, some [])
  | 0x21 => (effectDutyStart x q p s, some [])
  | 0x22 => (effectDutyStop x q p s, some [])
  | 0x30 => (effectSample x q p s, none)
  | 0x31 => (effectOutputSet x p s, some [])
  | 0x32 => (effectTestDrive x q p s, some [])
  | 0x38 => (effectCalStart x q p s, some [])
  | 0x39 => effectTrim x q p s
  | 0x3A => (effectFskSend x q p s, some [])
  | 0x40 => (effectAbort x p s, some [])
  | 0x51 => let (t, ws) := effectFaultAck x s; (t, some ws)
  | 0x52 => (effectPinRelease x s, some [])
  | 0x55 => (effectWdogKey x q s, some [])
  | 0x61 => effectKeepWrite x q p s
  | 0x70 => (effectFwStage x q p s, none)
  | 0x71 => (effectFwSwap x q p s, none)
  | 0x72 => (effectFwRollback x q s, none)
  | 0x79 => (effectSnapshot x q p s, none)
  | 0x7A => (effectSleepPropose x q p s, none)
  | _ => (s, some [])

/-- The case of R13 in which an accepted message has no stated effect: a pod configured through both generations (R338). -/
def Ctrl.undefinedCase (c : Ctrl) (op : Nat) (q : Req) (p : List Word) : Option Fault :=
  if op = 0x11 ∧ c.cfgMixes q p = true then some .mixedConfiguration else none

/-- A message refused at its commit: no effect but, for a wrong key of WDOG_KEY, the end of its sequence (R438). -/
def State.refuseMessage (s : State) (x : Side) (op : Nat) (q : Req) (p : List Word) (st : Nat) : State :=
  let byMode := modeStatus (s.ctrl x).mode op p (s.ctrl x) != stOk
  (if op = 0x55 ∧ byMode = false then refusedWdogKey st s x else s).modCtrl x fun c => c.finish q.tag st []

/-- A message carried out at its commit, and answered when its reply is formed. -/
def State.carryOut (s : State) (x : Side) (op : Nat) (q : Req) (p : List Word) (last : Nat) : State :=
  match s.effect x op q p last with
  | (t, some ws) => if endOp op p then t.complete x q.tag stOk ws else t.modCtrl x fun c => c.finish q.tag stOk ws
  | (t, none) => t

/-- The logline commit: the REQUEST entry with the resulting status, then the effect and the reply (R295, R296, R298). -/
def State.commitNow (s : State) (x : Side) (op : Nat) (q : Req) (p : List Word) : State :=
  let st := s.commitStatus x op q p
  let last := ((s.ctrl x).session q.session).lastEntry
  let s1 := (s.journalReq x q op 0 st q.crc).modCtrl x fun c => c.modFlight q.tag fun f => { f with committed := true }
  (if st = stOk then s1.carryOut x op q p last else s1.refuseMessage x op q p st).syncTags x

/-- The commit of one message by the ACTIVE controller, which first reads its tether (R371). -/
def State.commit (s : State) (x : Side) (op : Nat) (q : Req) (p : List Word) : Host.Outcome State Fault Refusal :=
  if s.stale x then .next (s.demote x)
  else
    match (if s.commitStatus x op q p = stOk then (s.ctrl x).undefinedCase op q p else none) with
    | some f => .fault f
    | none => .next (s.commitNow x op q p)

/-- The controller commits: not during a handover, in BOOT or DORMANT, or halted in place (R392, R47, R485). -/
def Ctrl.commits (c : Ctrl) : Bool := !c.pausing && c.mode != .boot && c.mode != .dormant && c.dbg.st != 3

/-- A message commits now. No command takes effect before one committed earlier (R296), so while a committed change of mode waits
for its frame boundary (R50) only another MODE_REQUEST (R51) and an ABORT commit. -/
def Ctrl.commitsOp (c : Ctrl) (op : Nat) : Bool := c.commits && (c.modeNext.isNone || op == 0x12 || op == 0x40)

/-- LOGLINE_COMMIT: the oldest waiting message. -/
def execLoglineCommit (s : State) : Host.Outcome State Fault Refusal :=
  match s.active with
  | none => .next s
  | some x =>
    let c := s.ctrl x
    match c.waiting with
    | [] => .next s
    | (op, q, p) :: rest => if c.commitsOp op then (s.setCtrl x { c with waiting := rest }).commit x op q p else .next s

/-! ## Messages answered as soon as their reply is formed -/

/-- The answer of a message that is not journalled. -/
def State.answer (s : State) (x : Side) (op : Nat) (q : Req) (p : List Word) : State × Nat × List Word :=
  let c := s.ctrl x
  let put := fun (r : Ctrl × Nat × List Word) => (s.setCtrl x r.1, r.2.1, r.2.2)
  match op with
  | 0x10 => (s, answerCfgRead x p s)
  | 0x23 => (s, answerDutyQuery p c)
  | 0x24 => (s, answerPlacementQuery p c)
  | 0x30 =>
    if checkSample p c = stOk then let (c1, ws) := answerLatest p c s; (s.setCtrl x c1, stOk, ws) else (s, checkSample p c, [])
  | 0x41 => (s, answerJournalRead p c)
  | 0x50 => (s, answerFaultRead x p s)
  | 0x53 => answerWdog x q p s
  | 0x54 => answerHostWdog x q p s
  | 0x60 => answerKeepRead p c s
  | 0x68 => put (answerCrcOpen q p c)
  | 0x69 => put (answerCrcFeed q p c)
  | 0x6A => (s, answerCrcGet q p c)
  | 0x6B => let (t, st) := answerCrcPut x q p s; (t, st, [])
  | _ => answerRopeStatus p x s

/-! ## Arrival (R291) -/

/-- Step 5 on: the message is admitted, and committed or answered at once unless it must wait; or it is answered by admission. -/
def State.admitMessage (s : State) (x : Side) (op : Nat) (q : Req) (p : List Word) : Host.Outcome State Fault Refusal :=
  let c := s.ctrl x
  match c.admission op q p with
  | .silent => .next s
  | .now st => .next (s.answerNow x q op st)
  | .refused st => .next (s.setCtrl x (c.queueReply q op st [] ((c.session q.session).repeats op q) false))
  | .duplicate st => .next (s.setCtrl x (c.queueReply q op st [] true false))
  | .admitted =>
    let s1 := s.setCtrl x (c.enter op q p)
    if journalled op p then
      if c.waiting.isEmpty && c.commitsOp op then s1.commit x op q p
      else .next ((s1.modCtrl x fun c => { c with waiting := enqueue c.waiting op q p }).syncTags x)
    else
      let (s2, st, ws) := s1.answer x op q p
      .next ((s2.modCtrl x fun c => c.finish q.tag st ws).syncTags x)

/-- The bytes of messages a port holds for a controller halted in place (R485). -/
def Debug.heldBytes (d : Debug) (port : Port) : Nat :=
  ((d.held.filter fun m => m.2.1.port == port).map fun m => 16 * (m.2.2.length + 1)).sum

/-- A message that reaches a controller halted in place is held, up to 64 KiB of them in its port (R485). -/
def Ctrl.holdMessage (c : Ctrl) (op : Nat) (q : Req) (p : List Word) : Ctrl :=
  if c.dbg.heldBytes q.port + 16 * (p.length + 1) ≤ 65536 then
    { c with dbg := { c.dbg with held := c.dbg.held ++ [(op, q, p)] } }
  else c.countPort (portCode q.port) 0

/-- Step 4 at the ACTIVE controller: its epoch, and a halt in place. -/
def State.serve (s : State) (x : Side) (op : Nat) (q : Req) (p : List Word) : Host.Outcome State Fault Refusal :=
  let c := s.ctrl x
  if s.stale x then .next (s.answerNow x q op stEpochStale)
  else if c.dbg.st = 3 then .next (s.setCtrl x (c.holdMessage op q p))
  else s.admitMessage x op q p

/-- Step 4 at a controller that is not ACTIVE: the message is relayed, or refused with NOT_OWNER (R25), and its Ethernet port counts it
(R356). One over USB, which reaches the steered controller alone, is treated alike (DEDUCED, log entry 110). -/
def State.relayMessage (s : State) (y : Side) (op : Nat) (q : Req) (p : List Word) : Host.Outcome State Fault Refusal :=
  let count := fun (n : Nat) => s.modCtrl y fun c => if portClass q.port = 1 then c.countPort (portCode q.port) n else c
  if s.canRelay y then (count 2).serve y.other op q p else .next ((count 3).answerNow y q op stNotOwner)

/-- A host message during DORMANT, or during a sleep agreement, is a wake (R47, R422). -/
def State.hostWake (s : State) : State := s.modBoth fun c => { c with rope := { c.rope with wakeSeen := true } }

/-- Steps 2 to 4 at the controller the message reaches; `crcOk` that its check holds, `reserved` that it writes a reserved field
non-zero. An inverted check fails (R455). -/
def State.arrive (s : State) (y : Side) (op : Nat) (q : Req) (p : List Word) (crcOk reserved : Bool) :
    Host.Outcome State Fault Refusal :=
  let c := s.ctrl y
  let m := s.moduleMode y
  if m = .boot then .next s
  else if m = .dormant then .next s.hostWake
  else
    let s0 := if c.rope.sleepSt = 0 then s else s.hostWake
    if c.injects 5 (portCode q.port) then .next ((s0.answerNow y q op stBadCrc).injected y)
    else if !crcOk then .next (s0.answerNow y q op stBadCrc)
    else if reserved then .fault .reservedFieldWritten
    else if c.isActive then s0.serve y op q p
    else s0.relayMessage y op q p

/-- A message on a port reaches the controller the port is wired or steered to, if that runs and serves the port (R22, R356). -/
def State.reach (s : State) (op : Nat) (q : Req) (p : List Word) (crcOk reserved : Bool) : Host.Outcome State Fault Refusal :=
  if q.port = .spi ∨ q.port = .internal then .next s
  else
    match s.receiver q.port with
    | none => .next s
    | some y =>
      let c := s.ctrl y
      if c.running && !c.inReset && c.portServes q.port then s.arrive y op q p crcOk reserved else .next s

/-- A request whose framing and check value hold. -/
def State.request (s : State) (op : Nat) (q : Req) (p : List Word) : Host.Outcome State Fault Refusal :=
  s.reach op q p true (reservedSet op p)

/-- The request a header word spells. -/
def headerReq (port : Port) (ip udp : Nat) (h : Word) : Req :=
  { port, ip, udp, session := fld h 111 104, seq := fld h 63 48, tag := fld h 95 84, crc := fld h 31 0 }

/-- The framing of step 1: `SYNC`, `GEN` of the port, and `LENGTH` (R283, R291). -/
def framed (port : Port) (h : Word) (p : List Word) : Bool :=
  fld h 127 120 == 0xB6 && fld h 39 36 == genOf port && fld h 83 76 == p.length

/-- A whole message on a port, its framing good: `CRC` and the reserved fields of header and payload are looked at. -/
def State.receive (s : State) (port : Port) (ip udp : Nat) (h : Word) (p : List Word) : Host.Outcome State Fault Refusal :=
  let op := fld h 119 112
  s.reach op (headerReq port ip udp h) p (fld h 31 0 == messageCrc 0 h p)
    (anyField h [(75, 64), (35, 32)] || reservedSet op p)

/-! ## The commands -/

/-- SESSION_OPEN (R305). -/
def execSessionOpen (q : Req) (p : List Word) (s : State) : Host.Outcome State Fault Refusal :=
  s.request 0x01 q p
/-- SESSION_RESUME (R306). -/
def execSessionResume (q : Req) (p : List Word) (s : State) : Host.Outcome State Fault Refusal :=
  s.request 0x02 q p
/-- SESSION_CLOSE (R307). -/
def execSessionClose (q : Req) (p : List Word) (s : State) : Host.Outcome State Fault Refusal :=
  s.request 0x03 q p
/-- CFG_READ (R308 to R310). -/
def execCfgRead (q : Req) (p : List Word) (s : State) : Host.Outcome State Fault Refusal :=
  s.request 0x10 q p
/-- CFG_WRITE of digital channels (R174). -/
def execCfgWriteDigitalChannel (q : Req) (p : List Word) (s : State) : Host.Outcome State Fault Refusal :=
  s.request 0x11 q p
/-- CFG_WRITE of loop channels (R205). -/
def execCfgWriteLoopChannel (q : Req) (p : List Word) (s : State) : Host.Outcome State Fault Refusal :=
  s.request 0x11 q p
/-- CFG_WRITE of conversions (R232). -/
def execCfgWriteConversion (q : Req) (p : List Word) (s : State) : Host.Outcome State Fault Refusal :=
  s.request 0x11 q p
/-- CFG_WRITE of `ANGLE_CFG` (R91). -/
def execCfgWriteAngleCfg (q : Req) (p : List Word) (s : State) : Host.Outcome State Fault Refusal :=
  s.request 0x11 q p
/-- CFG_WRITE of `START_MODE`. -/
def execCfgWriteStartMode (q : Req) (p : List Word) (s : State) : Host.Outcome State Fault Refusal :=
  s.request 0x11 q p
/-- CFG_WRITE of `WDOG_CFG` (R441). -/
def execCfgWriteWdogCfg (q : Req) (p : List Word) (s : State) : Host.Outcome State Fault Refusal :=
  s.request 0x11 q p
/-- CFG_WRITE of `HOST_WDOG_CFG` (R443). -/
def execCfgWriteHostWdogCfg (q : Req) (p : List Word) (s : State) : Host.Outcome State Fault Refusal :=
  s.request 0x11 q p
/-- CFG_WRITE of `FAULT_CFG` (R454). -/
def execCfgWriteFaultCfg (q : Req) (p : List Word) (s : State) : Host.Outcome State Fault Refusal :=
  s.request 0x11 q p
/-- A `FAULT_CFG` write with a checker selected (R455). -/
def execInjectionStart (q : Req) (p : List Word) (s : State) : Host.Outcome State Fault Refusal :=
  s.request 0x11 q p
/-- CFG_WRITE of `ROPE_CFG` (R426). -/
def execCfgWriteRopeCfg (q : Req) (p : List Word) (s : State) : Host.Outcome State Fault Refusal :=
  s.request 0x11 q p
/-- A write of `RESET_REQ` (R420). -/
def execRopeResetRequest (q : Req) (p : List Word) (s : State) : Host.Outcome State Fault Refusal :=
  s.request 0x11 q p
/-- CFG_WRITE of `PORT_CFG` (R356). -/
def execCfgWritePortCfg (q : Req) (p : List Word) (s : State) : Host.Outcome State Fault Refusal :=
  s.request 0x11 q p
/-- CFG_WRITE of `SPI_WINDOW` (R336). -/
def execCfgWriteSpiWindow (q : Req) (p : List Word) (s : State) : Host.Outcome State Fault Refusal :=
  s.request 0x11 q p
/-- MODE_REQUEST (R49 to R51, R311). -/
def execModeRequest (q : Req) (p : List Word) (s : State) : Host.Outcome State Fault Refusal :=
  s.request 0x12 q p
/-- DUTY_DEFINE (R132). -/
def execDutyDefine (q : Req) (p : List Word) (s : State) : Host.Outcome State Fault Refusal :=
  s.request 0x20 q p
/-- DUTY_START (R133). -/
def execDutyStart (q : Req) (p : List Word) (s : State) : Host.Outcome State Fault Refusal :=
  s.request 0x21 q p
/-- DUTY_STOP (R134). -/
def execDutyStop (q : Req) (p : List Word) (s : State) : Host.Outcome State Fault Refusal :=
  s.request 0x22 q p
/-- DUTY_QUERY (R136). -/
def execDutyQuery (q : Req) (p : List Word) (s : State) : Host.Outcome State Fault Refusal :=
  s.request 0x23 q p
/-- PLACEMENT_QUERY (R164). -/
def execPlacementQuery (q : Req) (p : List Word) (s : State) : Host.Outcome State Fault Refusal :=
  s.request 0x24 q p
/-- SAMPLE_READ LATEST (R313). -/
def execSampleReadLatest (q : Req) (p : List Word) (s : State) : Host.Outcome State Fault Refusal :=
  s.request 0x30 q p
/-- SAMPLE_READ CONVERT (R247, R314). -/
def execSampleReadConvert (q : Req) (p : List Word) (s : State) : Host.Outcome State Fault Refusal :=
  s.request 0x30 q p
/-- SAMPLE_READ URGENT (R248, R314). -/
def execSampleReadUrgent (q : Req) (p : List Word) (s : State) : Host.Outcome State Fault Refusal :=
  s.request 0x30 q p
/-- OUTPUT_SET (R315, R316). -/
def execOutputSet (q : Req) (p : List Word) (s : State) : Host.Outcome State Fault Refusal :=
  s.request 0x31 q p
/-- TEST_DRIVE (R317). -/
def execTestDrive (q : Req) (p : List Word) (s : State) : Host.Outcome State Fault Refusal :=
  s.request 0x32 q p
/-- TEST_DRIVE END (R317). -/
def execTestDriveEnd (q : Req) (p : List Word) (s : State) : Host.Outcome State Fault Refusal :=
  s.request 0x32 q p
/-- CAL_START (R254). -/
def execCalStart (q : Req) (p : List Word) (s : State) : Host.Outcome State Fault Refusal :=
  s.request 0x38 q p
/-- TRIM_ARM ARM_IN (R216, R217). -/
def execTrimArmIn (q : Req) (p : List Word) (s : State) : Host.Outcome State Fault Refusal :=
  s.request 0x39 q p
/-- TRIM_ARM ARM_OUT (R216, R217). -/
def execTrimArmOut (q : Req) (p : List Word) (s : State) : Host.Outcome State Fault Refusal :=
  s.request 0x39 q p
/-- TRIM_ARM CAPTURE_ZERO (R218). -/
def execTrimCaptureZero (q : Req) (p : List Word) (s : State) : Host.Outcome State Fault Refusal :=
  s.request 0x39 q p
/-- TRIM_ARM CAPTURE_SPAN (R218). -/
def execTrimCaptureSpan (q : Req) (p : List Word) (s : State) : Host.Outcome State Fault Refusal :=
  s.request 0x39 q p
/-- TRIM_ARM MEAS_ZERO (R218). -/
def execTrimMeasZero (q : Req) (p : List Word) (s : State) : Host.Outcome State Fault Refusal :=
  s.request 0x39 q p
/-- TRIM_ARM MEAS_SPAN (R218). -/
def execTrimMeasSpan (q : Req) (p : List Word) (s : State) : Host.Outcome State Fault Refusal :=
  s.request 0x39 q p
/-- TRIM_ARM COMMIT (R219). -/
def execTrimCommit (q : Req) (p : List Word) (s : State) : Host.Outcome State Fault Refusal :=
  s.request 0x39 q p
/-- TRIM_ARM CANCEL (R219). -/
def execTrimCancel (q : Req) (p : List Word) (s : State) : Host.Outcome State Fault Refusal :=
  s.request 0x39 q p
/-- TRIM_ARM RESET (R219). -/
def execTrimReset (q : Req) (p : List Word) (s : State) : Host.Outcome State Fault Refusal :=
  s.request 0x39 q p
/-- FSK_SEND (R223). -/
def execFskSend (q : Req) (p : List Word) (s : State) : Host.Outcome State Fault Refusal :=
  s.request 0x3A q p
/-- ABORT (R302, R303). -/
def execAbort (q : Req) (p : List Word) (s : State) : Host.Outcome State Fault Refusal :=
  s.request 0x40 q p
/-- JOURNAL_READ (R300). -/
def execJournalRead (q : Req) (p : List Word) (s : State) : Host.Outcome State Fault Refusal :=
  s.request 0x41 q p
/-- FAULT_READ (R451). -/
def execFaultRead (q : Req) (p : List Word) (s : State) : Host.Outcome State Fault Refusal :=
  s.request 0x50 q p
/-- FAULT_ACK (R452). -/
def execFaultAck (q : Req) (p : List Word) (s : State) : Host.Outcome State Fault Refusal :=
  s.request 0x51 q p
/-- FAULT_PIN_RELEASE (R450). -/
def execFaultPinRelease (q : Req) (p : List Word) (s : State) : Host.Outcome State Fault Refusal :=
  s.request 0x52 q p
/-- WDOG_ANSWER (R437, R444). -/
def execWdogAnswer (q : Req) (p : List Word) (s : State) : Host.Outcome State Fault Refusal :=
  s.request 0x53 q p
/-- HOST_WDOG_ANSWER (R442, R444). -/
def execHostWdogAnswer (q : Req) (p : List Word) (s : State) : Host.Outcome State Fault Refusal :=
  s.request 0x54 q p
/-- WDOG_KEY (R438). -/
def execWdogKey (q : Req) (p : List Word) (s : State) : Host.Outcome State Fault Refusal :=
  s.request 0x55 q p
/-- KEEP_READ (R469). -/
def execKeepRead (q : Req) (p : List Word) (s : State) : Host.Outcome State Fault Refusal :=
  s.request 0x60 q p
/-- KEEP_WRITE (R470). -/
def execKeepWrite (q : Req) (p : List Word) (s : State) : Host.Outcome State Fault Refusal :=
  s.request 0x61 q p
/-- CRC_OPEN (R324). -/
def execCrcOpen (q : Req) (p : List Word) (s : State) : Host.Outcome State Fault Refusal :=
  s.request 0x68 q p
/-- CRC_FEED (R324). -/
def execCrcFeed (q : Req) (p : List Word) (s : State) : Host.Outcome State Fault Refusal :=
  s.request 0x69 q p
/-- CRC_GET (R324). -/
def execCrcGet (q : Req) (p : List Word) (s : State) : Host.Outcome State Fault Refusal :=
  s.request 0x6A q p
/-- CRC_PUT (R324). -/
def execCrcPut (q : Req) (p : List Word) (s : State) : Host.Outcome State Fault Refusal :=
  s.request 0x6B q p
/-- FW_STAGE BEGIN (R387, R388). -/
def execFwStageBegin (q : Req) (p : List Word) (s : State) : Host.Outcome State Fault Refusal :=
  s.request 0x70 q p
/-- FW_STAGE DATA (R387, R388). -/
def execFwStageData (q : Req) (p : List Word) (s : State) : Host.Outcome State Fault Refusal :=
  s.request 0x70 q p
/-- FW_STAGE END (R387, R388). -/
def execFwStageEnd (q : Req) (p : List Word) (s : State) : Host.Outcome State Fault Refusal :=
  s.request 0x70 q p
/-- FW_STAGE DISCARD (R387, R388). -/
def execFwStageDiscard (q : Req) (p : List Word) (s : State) : Host.Outcome State Fault Refusal :=
  s.request 0x70 q p
/-- FW_SWAP (R389). -/
def execFwSwap (q : Req) (p : List Word) (s : State) : Host.Outcome State Fault Refusal :=
  s.request 0x71 q p
/-- FW_ROLLBACK (R395). -/
def execFwRollback (q : Req) (p : List Word) (s : State) : Host.Outcome State Fault Refusal :=
  s.request 0x72 q p
/-- ROPE_STATUS (R427). -/
def execRopeStatus (q : Req) (p : List Word) (s : State) : Host.Outcome State Fault Refusal :=
  s.request 0x78 q p
/-- SNAPSHOT (R419). -/
def execSnapshot (q : Req) (p : List Word) (s : State) : Host.Outcome State Fault Refusal :=
  s.request 0x79 q p
/-- SLEEP_PROPOSE (R425). -/
def execSleepPropose (q : Req) (p : List Word) (s : State) : Host.Outcome State Fault Refusal :=
  s.request 0x7A q p
/-- A message with `POLL` set (R444), of the host watchdog or of the supervisor's. -/
def execWdogPoll (host : Bool) (q : Req) (p : List Word) (s : State) : Host.Outcome State Fault Refusal :=
  s.request (if host then 0x54 else 0x53) q p

/-- RELAYED_MESSAGE: a whole message on the Ethernet port of a controller (R25); framing that fails is discarded and counted. -/
def execRelayedMessage (x : Side) (ip udp : Nat) (header : Word) (p : List Word) (s : State) :
    Host.Outcome State Fault Refusal :=
  if framed (ethPort x) header p then s.receive (ethPort x) ip udp header p
  else .next (s.modCtrl x fun c => c.countPort (portCode (ethPort x)) 0)

end Sys2Proof.Machine
end

