-- ==== Sys2Proof/Machine/Ports.lean ====
section
/-! DEFINITION. The host ports (chapter 11): words and messages of the Frame port, datagrams and fragments of Ethernet, transfers
and vendor requests of USB, and the SPI legacy port. -/

namespace Sys2Proof.Machine

/-! ## Frame port (R339 to R344) -/

/-- A character on a lane: K27.7 or a byte. -/
inductive LaneChar
  | k277 | byte (b : Nat)
  deriving DecidableEq, Repr

/-- The 10 characters of a word of some `WTYPE` on a lane (R339). -/
def laneChars (wtype : Nat) (w : Word) (lane : Nat) : List LaneChar :=
  [.k277] ++ (List.range 8).map (fun i => .byte ((wordBytes w).getD (2 * i + lane) 0)) ++
    [.byte (if lane = 0 then crcOf 0 (wtype :: wordBytes w) else wtype)]

/-- A message as it leaves on a lane of the Frame port: HEADER, then PAYLOAD words without a gap (R340, R344). -/
def Out.lane (o : Out) (lane : Nat) : Option (List LaneChar) :=
  match o with
  | .message .frame _ _ h ws => some (laneChars 1 h lane ++ ws.flatMap fun w => laneChars 2 w lane)
  | _ => none

/-- The receivers of both controllers, which the Frame port reaches by fan-out (R22). -/
def State.frameBoth (s : State) (f : Ctrl → Ctrl) : State := s.onRunning fun x s => s.modCtrl x f

/-- Both lanes are aligned (R356). -/
def Ctrl.aligned (c : Ctrl) : Bool := c.ports.lane0 && c.ports.lane1

/-- The open message replaced. -/
def Ctrl.setFrame (c : Ctrl) (m : Option (Word × List Word)) : Ctrl := { c with ports := { c.ports with frame := m } }

/-- An open message is discarded as partial (R342). -/
def Ctrl.dropPartial (c : Ctrl) : Ctrl := if c.ports.frame.isSome then (c.countPort 0 1).setFrame none else c

/-- A bad word, and the open message with it. -/
def Ctrl.badWord (c : Ctrl) : Ctrl := (c.dropPartial).countPort 0 0

/-- The complete message of the ACTIVE controller's receiver passes to admission; the other controller discards its own (R25). -/
def State.takeFrame (s : State) : Host.Outcome State Fault Refusal :=
  let full := fun (c : Ctrl) => match c.ports.frame with | some (h, p) => fld h 83 76 == p.length | none => false
  let clear := s.frameBoth fun c => if full c then c.setFrame none else c
  match s.active with
  | none => .next clear
  | some x =>
    match (s.ctrl x).ports.frame with
    | some (h, p) =>
      if full (s.ctrl x) then
        if framed .frame h p then clear.receive .frame 0 0 h p else .next (clear.frameBoth fun c => c.countPort 0 0)
      else .next clear
    | none => .next clear

/-- FRAME_HEADER_WORD: it opens a message; one without `SYNC` is a bad word. -/
def execFrameHeaderWord (w : Word) (s : State) : Host.Outcome State Fault Refusal :=
  (s.frameBoth fun c =>
    if !c.aligned then c else if fld w 127 120 ≠ 0xB6 then c.badWord else c.dropPartial.setFrame (some (w, []))).takeFrame

/-- FRAME_PAYLOAD_WORD: appended to the open message, or an orphan. -/
def execFramePayloadWord (w : Word) (s : State) : Host.Outcome State Fault Refusal :=
  (s.frameBoth fun c =>
    if !c.aligned then c
    else
      match c.ports.frame with
      | some (h, p) => c.setFrame (some (h, p ++ [w]))
      | none => c.countPort 0 2).takeFrame

/-- FRAME_BAD_WORD (R341). -/
def execFrameBadWord (s : State) : Host.Outcome State Fault Refusal :=
  .next (s.frameBoth fun c => c.badWord)

/-- A gap inside an open message ends it beyond 1 ms; between 990 and 1,010 µs the module may judge either way, which is free
(R343). -/
def execFrameMessageGap (gap : Nat) (s : State) : Host.Outcome State Fault Refusal :=
  if gap ≤ us 990 then .next s
  else if us 1010 ≤ gap then .next (s.frameBoth fun c => c.dropPartial)
  else
    let (v, s1) := s.draw
    .next (if v % 2 = 0 then s1 else s1.frameBoth fun c => c.dropPartial)

/-- FRAME_LANE_ALIGNMENT (R341): a lane acquires alignment, or has lost it. -/
def execFrameLaneAlignment (lane : Nat) (aligned : Bool) (s : State) : Host.Outcome State Fault Refusal :=
  .next (s.frameBoth fun c =>
    if lane = 0 then { c with ports := { c.ports with lane0 := aligned } }
    else if lane = 1 then { c with ports := { c.ports with lane1 := aligned } } else c)

/-! ## Ethernet (R347 to R350) -/

/-- The messages of a datagram, walked by the `LENGTH` of each header; none when a header is bad or the last message does not
end with the datagram (R349). The first argument bounds the walk. -/
def walkMessages : Nat → List Word → Option (List (Word × List Word))
  | _, [] => some []
  | 0, _ :: _ => none
  | n + 1, h :: ws =>
    let len := fld h 83 76
    if fld h 127 120 = 0xB6 ∧ fld h 39 36 = 3 ∧ len ≤ ws.length then
      (walkMessages n (ws.drop len)).map fun ms => (h, ws.take len) :: ms
    else none

/-- The messages of a datagram, if it is accepted. -/
def datagramMessages (bytes : List Byte) : Option (List (Word × List Word)) :=
  if bytes.length % 16 = 0 then
    let ws := bytesWords (bytes.length / 16) (bytes.map BitVec.toNat)
    walkMessages ws.length ws
  else none

/-- Messages in datagram order. -/
def State.receiveAll (s : State) (port : Port) (ip udp : Nat) : List (Word × List Word) → Host.Outcome State Fault Refusal
  | [] => .next s
  | (h, p) :: ms =>
    match s.receive port ip udp h p with
    | .next t => t.receiveAll port ip udp ms
    | .fault f => .fault f
    | .refused r => .refused r

/-- A port's receiver works: its controller runs and its link is up. -/
def State.ethUp (s : State) (x : Side) : Bool := (s.ctrl x).running && !(s.ctrl x).inReset && (s.ctrl x).ports.ethLink != 0

/-- A Trela datagram on the port of a controller. -/
def State.datagram (s : State) (x : Side) (ip udp : Nat) (bytes : List Byte) : Host.Outcome State Fault Refusal :=
  if !(s.ctrl x).portServes (ethPort x) then .next s
  else
    match datagramMessages bytes with
    | some ms => s.receiveAll (ethPort x) ip udp ms
    | none => .next (s.modCtrl x fun c => c.countPort (portCode (ethPort x)) 0)

/-- UDP_DATAGRAM (R349). -/
def execUdpDatagram (x : Side) (ip udp : Nat) (bytes : List Byte) (s : State) : Host.Outcome State Fault Refusal :=
  if s.ethUp x then s.datagram x ip udp bytes else .next s

/-- The bytes of fragments that stand without a gap from an offset on. The first argument bounds the walk. -/
def joinParts : Nat → Nat → List (Nat × List Byte) → List Byte
  | 0, _, _ => []
  | n + 1, at_, ps =>
    match ps.find? fun e => e.1 == at_ with
    | some e => if e.2.isEmpty then [] else e.2 ++ joinParts n (at_ + e.2.length) ps
    | none => []

/-- The whole datagram of a reassembly. -/
def Reassembly.whole (r : Reassembly) : Option (List Byte) :=
  match r.total with
  | some t =>
    let bs := joinParts r.parts.length 0 r.parts
    if bs.length = t then some bs else none
  | none => none

/-- A fragment joins its reassembly. -/
def Reassembly.add (r : Reassembly) (udp offset : Nat) (bytes : List Byte) (more : Bool) : Reassembly :=
  { r with
    udp := if offset = 0 then udp else r.udp, parts := r.parts ++ [(offset, bytes)]
    total := if more then r.total else some (offset + bytes.length) }

/-- Reassemblies of a controller's port replaced. -/
def Ctrl.setReasm (c : Ctrl) (rs : List Reassembly) : Ctrl := { c with ports := { c.ports with reasm := rs } }

/-- IPV4_FRAGMENT (R350): beyond 8,192 bytes the reassembly is abandoned, and a ninth is not begun (log entry 50). -/
def execIpv4Fragment (x : Side) (ip udp ident offset : Nat) (bytes : List Byte) (more : Bool) (s : State) :
    Host.Outcome State Fault Refusal :=
  if !s.ethUp x then .next s
  else
    let c := s.ctrl x
    let rs := c.ports.reasm
    let mine := fun (r : Reassembly) => r.ident == ident && r.ip == ip
    let fresh : Reassembly := { ident, ip, udp, parts := [], total := none, started := s.now }
    let others := rs.filter fun r => !mine r
    match rs.find? mine, decide (8 ≤ rs.length) with
    | none, true => .next s
    | old, _ =>
      let r := (old.getD fresh).add udp offset bytes more
      if 8192 < offset + bytes.length then .next (s.setCtrl x ((c.setReasm others).countPort (portCode (ethPort x)) 1))
      else
        match r.whole with
        | some bs => (s.setCtrl x (c.setReasm others)).datagram x ip r.udp bs
        | none => .next (s.setCtrl x (c.setReasm (others ++ [r])))

/-- REASSEMBLY_TIMEOUT: 10 ms after its start a reassembly is abandoned and counted. -/
def execReassemblyTimeout (x : Side) (ident : Nat) (s : State) : Host.Outcome State Fault Refusal :=
  let c := s.ctrl x
  let ended := fun (r : Reassembly) => r.ident == ident && decide (r.started + ms 10 ≤ s.now)
  if c.ports.reasm.any ended then
    .next (s.setCtrl x ((c.setReasm (c.ports.reasm.filter fun r => !ended r)).countPort (portCode (ethPort x)) 1))
  else .next s

/-- The IPv4 address of a controller's port (R356). -/
def Ctrl.ownAddress (c : Ctrl) (x : Side) : Nat := fld (c.portCfg (portCode (ethPort x))) 119 88

/-- ARP_REQUEST: answered for the port's own address (R348). -/
def execArpRequest (x : Side) (ip sender : Nat) (s : State) : Host.Outcome State Fault Refusal :=
  .next (if s.ethUp x && (s.ctrl x).ownAddress x == ip then s.emit (.arp x ip sender) else s)

/-- ICMP_ECHO_REQUEST: answered for the port's own address with the data it carried (R348). -/
def execIcmpEchoRequest (x : Side) (ip sender : Nat) (data : List Byte) (s : State) : Host.Outcome State Fault Refusal :=
  .next (if s.ethUp x && (s.ctrl x).ownAddress x == ip then s.emit (.icmp x ip sender data) else s)

/-- `SPEED` allows a link state: 1 at 100 Mbit/s, 2 at 1000 Mbit/s (R356). -/
def speedAllows (speed link : Nat) : Bool := link == 0 || (link == 1 && speed != 2) || (link == 2 && speed != 1)

/-- ETHERNET_LINK_CHANGE (R347). -/
def execEthernetLinkChange (x : Side) (link : Nat) (s : State) : Host.Outcome State Fault Refusal :=
  let c := s.ctrl x
  if c.running && !c.inReset && speedAllows (fld (c.portCfg (portCode (ethPort x))) 81 80) link then
    .next (s.setCtrl x { c with ports := { c.ports with ethLink := link } })
  else .next s

/-! ## USB (R351 to R355) -/

/-- The device is attached and not suspended. -/
def State.usbUp (s : State) : Bool := s.attached && s.usbLink == 1

/-- A counter of the USB port, which the holder of the steer serves and both controllers keep. -/
def State.countUsb (s : State) (n : Nat) : State := s.frameBoth fun c => c.countPort 3 n

/-- The message of a whole transfer (R352, R291). -/
def transferMessage (bytes : List Byte) : Option (Word × List Word) :=
  if bytes.length % 16 = 0 then
    match bytesWords (bytes.length / 16) (bytes.map BitVec.toNat) with
    | h :: p => if framed .usb h p then some (h, p) else none
    | [] => none
  else none

/-- A message over USB passes to admission, or is discarded and counted. -/
def State.usbMessage (s : State) (bytes : List Byte) : Host.Outcome State Fault Refusal :=
  match transferMessage bytes with
  | some (h, p) => s.receive .usb 0 0 h p
  | none => .next (s.countUsb 0)

/-- EP1_OUT_TRANSFER: one whole transfer (R352). -/
def execEp1OutTransfer (bytes : List Byte) (s : State) : Host.Outcome State Fault Refusal :=
  if s.usbUp then s.usbMessage bytes else .next s

/-- USB_PACKET_GAP: the open transfer is discarded and counted (R352). -/
def execUsbPacketGap (s : State) : Host.Outcome State Fault Refusal := .next (if s.usbUp then s.countUsb 0 else s)

/-- The 16 bits of a counter, most significant byte first. -/
def counterBytes (n : Nat) : List Nat := [n / 256 % 256, n % 256]

/-- IDENTITY (R353), from the controller the port is attached to. -/
def State.identityBytes (s : State) (x : Side) : List Nat :=
  let c := s.ctrl x
  let running := if c.running1 then c.slot1.version else c.slot0.version
  ((List.range 16).map fun i => (Config.serialAscii i).toNat) ++ [s.knotId, sideCode x, modeCode (s.moduleMode x), roleCode c.role] ++
    (List.range 28).map fun i => (Config.identityVersions c.slot0.version c.slot1.version running i).toNat

/-- A vendor request acts at the controller the port is attached to. -/
def State.onUsb (s : State) (f : Side → State) : Host.Outcome State Fault Refusal :=
  match s.arb.steer with
  | some x => if s.usbUp then .next (f x) else .next s
  | none => .next s

/-- IDENTITY. -/
def execIdentity (s : State) : Host.Outcome State Fault Refusal := s.onUsb fun x => s.emit (.usb (s.identityBytes x))

/-- MESSAGE: a transfer of 16 to 4,096 bytes whose status stage completes (R353, R354); any other length is answered with STALL. -/
def execMessage (bytes : List Byte) (s : State) : Host.Outcome State Fault Refusal :=
  if s.usbUp && decide (16 ≤ bytes.length) && decide (bytes.length ≤ 4096) then
    if (transferMessage bytes).isSome then (s.countUsb 3).usbMessage bytes else s.usbMessage bytes
  else .next s

/-- COUNTERS: the four counters of `PORT_CFG` index 3 (R353). -/
def execCounters (s : State) : Host.Outcome State Fault Refusal :=
  s.onUsb fun x => s.emit (.usb ((List.range 4).flatMap fun i => counterBytes (tget 0 (s.ctrl x).ports.cnt (12 + i))))

/-- LOCATE: for 1 to 600 seconds, and 0 ends it; any other value is answered with STALL (R353). -/
def execLocate (seconds : Nat) (s : State) : Host.Outcome State Fault Refusal :=
  s.onUsb fun _ =>
    if seconds = 0 then { s with locate := none }
    else if seconds ≤ 600 then { s with locate := some (s.now + ms (1000 * seconds)) } else s

/-- LOCATE_EXPIRY. -/
def execLocateExpiry (s : State) : Host.Outcome State Fault Refusal :=
  match s.locate with
  | some t => if t ≤ s.now then .next { s with locate := none } else .next s
  | none => .next s

/-- USB_BUS_RESET: no message is partly received or sent between two commands of this model, so only a suspend ends; sessions
stay open (R355). -/
def execUsbBusReset (s : State) : Host.Outcome State Fault Refusal :=
  .next (if s.attached then { s with usbLink := 1 } else s)

/-- USB_SUSPEND (R355). -/
def execUsbSuspend (s : State) : Host.Outcome State Fault Refusal := .next (if s.usbUp then { s with usbLink := 3 } else s)

/-- USB_RESUME (R355). -/
def execUsbResume (s : State) : Host.Outcome State Fault Refusal :=
  .next (if s.attached && s.usbLink == 3 then { s with usbLink := 1 } else s)

/-- USB_REATTACH: 20 ms after a detach, from the new holder, while VBUS is present (R24, R351). -/
def execUsbReattach (s : State) : Host.Outcome State Fault Refusal :=
  match s.detachAt with
  | some t =>
    if t + ms 20 ≤ s.now then .next { s with detachAt := none, attached := s.vbus, usbLink := b2n s.vbus } else .next s
  | none => .next s

/-- USB_VBUS_CHANGE: the port attaches while VBUS is present and a controller is selected, and no detach of R24 runs (R351). -/
def execUsbVbusChange (present : Bool) (s : State) : Host.Outcome State Fault Refusal :=
  let on := present && s.arb.steer.isSome && s.detachAt.isNone
  if present = s.vbus then .next s else .next { s with vbus := present, attached := on, usbLink := b2n on }

/-! ## SPI legacy port (R327 to R338) -/

/-- A controller's port takes frames (R335, R336): the port is on, a controller is selected by the port-steer output, and the mode is
neither BOOT nor DORMANT. MOSI reaches both controllers by fan-out. -/
def State.spiTakes (s : State) (x : Side) : Bool :=
  let m := s.moduleMode x
  s.supply && s.arb.steer.isSome && bitOf (s.ctrl x).spiCfg 121 && m != .boot && m != .dormant

/-- The response a controller shifts out: what it reports of the frame before (R328). -/
def State.misoFrame (s : State) (x : Side) : BitVec 32 :=
  let p := (s.ctrl x).spi
  let w := mkw [(31, 31, b2n p.bad), (30, 29, p.flags.toNat / 2 % 4), (27, 24, modeCode (s.moduleMode x)), (23, 8, p.last.toNat)]
  BitVec.ofNat 32 (fld w 31 0 + crcOf 0 [fld w 31 24, fld w 23 16, fld w 15 8])

/-- The SPI state of a controller changed. -/
def Ctrl.modSpi (c : Ctrl) (f : Spi → Spi) : Ctrl := { c with spi := f c.spi }

/-- A write is queued, or dropped when 64 wait (R332). -/
def Ctrl.spiQueue (c : Ctrl) (addr : Nat) (v : BitVec 16) : Ctrl :=
  c.modSpi fun p =>
    if p.queue.length < 64 then { p with queue := p.queue ++ [{ addr, value := v, pod := c.window }] }
    else { p with flags := p.flags ||| 2, drops := satAt 65535 (p.drops + 1) }

/-! ### Frames (R327 to R330) -/

/-- A MOSI frame (R328): its fields, and its check value over bits [31:8]. -/
def mosiFrame (write : Bool) (addr : Nat) (v : BitVec 16) : BitVec 32 :=
  let w := mkw [(31, 31, b2n write), (30, 24, addr), (23, 8, v.toNat)]
  BitVec.ofNat 32 (fld w 31 0 + crcOf 0 [fld w 31 24, fld w 23 16, fld w 15 8])

/-- A frame of 32 SCK cycles whose `CRC8` holds (R327, R329). -/
def mosiGood (cycles : Nat) (f : BitVec 32) : Bool :=
  let n := f.toNat
  cycles == 32 && nfld n 7 0 == crcOf 0 [nfld n 31 24, nfld n 23 16, nfld n 15 8]

/-- A write as a controller takes it at the rising edge of CS_N: `STATUS` bits [15:12] written as 1 clear, the claims latch, and any
other write is queued (R330, R332, R334). -/
def Ctrl.spiTakeWrite (c : Ctrl) (addr : Nat) (v : BitVec 16) : Ctrl :=
  match addr with
  | 0x01 => c.modSpi fun p => { p with flags := p.flags &&& ~~~(v.extractLsb' 12 4) }
  | 0x20 => c.modSpi fun p => { p with claimA := v &&& 0xFF }
  | 0x21 => c.modSpi fun p => { p with claimB := v &&& 0xFF }
  | _ => c.spiQueue addr v

/-- A frame at a controller: a bad one is counted and reported, a write is taken, and a read is answered in the next response with the
register as it stands now (R328, R329). -/
def State.spiTake (s : State) (x : Side) (cycles : Nat) (f : BitVec 32) : Ctrl :=
  let c := s.ctrl x
  let n := f.toNat
  let v := BitVec.ofNat 16 (nfld n 23 8)
  if !mosiGood cycles f then
    c.modSpi fun p => { p with flags := p.flags ||| 8, bad := true, last := 0, crcErr := satAt 65535 (p.crcErr + 1) }
  else if nbit n 31 then (c.spiTakeWrite (nfld n 30 24) v).modSpi fun p => { p with bad := false, last := v }
  else c.modSpi fun p => { p with bad := false, last := s.spiRead x (nfld n 30 24) }

/-- One frame shifted: the steered controller shifts out its response while both take the frame (R22, R328). -/
def State.spiShift (s : State) (cycles : Nat) (f : BitVec 32) : State :=
  let s1 := match s.arb.steer with
    | some x => if (s.ctrl x).running && !(s.ctrl x).inReset && s.spiTakes x then s.emit (.miso (s.misoFrame x)) else s
    | none => s
  s1.onRunning fun x s1 => if s.spiTakes x then s1.setCtrl x (s1.spiTake x cycles f) else s1

/-- Under COMPAT the controller that the claims now prefer takes over, and the ports follow it (R20, R382). -/
def State.followClaims (s : State) : State :=
  match s.compat, s.holder with
  | true, some y => let s1 := s.resteer; if s1.mayTake y then s1.takeOver y else s1
  | _, _ => s

/-- One frame on the port; a claim write that reverses which claim prevails is a takeover (R382). -/
def State.spiFrame (s : State) (cycles : Nat) (f : BitVec 32) : State :=
  let s1 := s.spiShift cycles f
  if s1.holder = s.holder then s1 else s1.followClaims

/-- SPI_BAD_FRAME: a frame of another number of SCK cycles, or whose check fails; it is ignored either way. -/
def execSpiBadFrame (s : State) : Host.Outcome State Fault Refusal :=
  .next (s.spiFrame 0 0)

/-- SPI_WRITE_DOUT. -/
def execSpiWriteDout (value : BitVec 16) (s : State) : Host.Outcome State Fault Refusal :=
  .next (s.spiFrame 32 (mosiFrame true 0x03 value))

/-- SPI_WRITE_CONFIG. -/
def execSpiWriteConfig (addr : Nat) (value : BitVec 16) (s : State) : Host.Outcome State Fault Refusal :=
  .next (s.spiFrame 32 (mosiFrame true addr value))

/-- SPI_WRITE_OTHER: a frame as its bits, with its number of SCK cycles. Its refusal is known at its commit (R330, R333). The table
has no row for a read, so a frame that is one is taken here (log entry 84). -/
def execSpiWriteOther (cycles : Nat) (frame : BitVec 32) (s : State) : Host.Outcome State Fault Refusal :=
  .next (s.spiFrame cycles frame)

/-- SPI_WRITE_STATUS (R330). -/
def execSpiWriteStatus (value : BitVec 16) (s : State) : Host.Outcome State Fault Refusal :=
  .next (s.spiFrame 32 (mosiFrame true 0x01 value))

/-- SPI_WRITE_CLAIM: both controllers latch it (R334). -/
def execSpiWriteClaim (reg : Side) (value : BitVec 16) (s : State) : Host.Outcome State Fault Refusal :=
  .next (s.spiFrame 32 (mosiFrame true (match reg with | .a => 0x20 | .b => 0x21) value))

/-! ### The equivalent of a queued write (R330, R331) -/

/-- The mode of `ENABLE`, `DIR` and `WBEN` (R331). -/
def spiMode (enable dir wben : Nat) : Nat := if enable = 0 then 0 else if dir = 0 then 1 + wben else 3 + wben

/-- The configuration word of one pin after a register write. -/
def spiPinWord (addr pin : Nat) (v : BitVec 16) (w : Word) : Word :=
  let b := b2n (nbit v.toNat pin)
  if addr = 0x04 then setFld w 115 113 (spiMode (spiEnable w) b (spiWben w))
  else if addr = 0x05 then setFld w 115 113 (spiMode (spiEnable w) (spiDir w) b)
  else if addr = 0x06 then setFld w 115 113 (spiMode b (spiDir w) (spiWben w))
  else if addr = 0x07 then setFld w 112 112 b
  else if addr = 0x08 then (if pin < 8 then setFld w 93 92 (v.toNat / 4 ^ pin) else w)
  else if addr = 0x09 then (if 8 ≤ pin then setFld w 93 92 (v.toNat / 4 ^ (pin - 8)) else w)
  else if addr = 0x0A then setFld w 91 82 (min v.toNat 1023)
  else if addr = 0x10 + pin then setFld w 111 96 v.toNat
  else w

/-- A configuration register. -/
def spiConfigAddr (a : Nat) : Bool := (decide (0x04 ≤ a) && decide (a ≤ 0x0A)) || (decide (0x10 ≤ a) && decide (a ≤ 0x1F))

/-- The item words of the equivalent CFG_WRITE: the pins whose derived word changes. -/
def Ctrl.spiWords (c : Ctrl) (r : SpiWrite) : List Word :=
  (List.range 16).filterMap fun n =>
    let ch := 16 * r.pod + n
    let old := setFld (c.digCfg ch) 127 116 ch
    let new := spiPinWord r.addr n r.value old
    if old = new then none else some new

/-- The entries of the equivalent OUTPUT_SET: the output pins whose bit differs from the image. -/
def Ctrl.spiEntries (c : Ctrl) (now : Nat) (r : SpiWrite) : List Word :=
  (List.range 16).filterMap fun n =>
    let ch := 16 * r.pod + n
    let bit := nbit r.value.toNat n
    if digIsOut (c.digCfg ch) && bit != (c.imageLevel now ch == 2) then
      some (mkw [(127, 116, 0xFFF), (63, 52, ch), (51, 48, 1 + b2n bit)])
    else none

/-- The equivalent of a write: its opcode and payload, or none for an address that takes no write. -/
def Ctrl.spiEquivalent (c : Ctrl) (now : Nat) (r : SpiWrite) : Option (Nat × List Word) :=
  if r.addr = 0x03 then some (0x31, c.spiEntries now r)
  else if spiConfigAddr r.addr then
    let ws := c.spiWords r
    some (0x11, mkw [(127, 120, 1), (107, 100, ws.length)] :: ws)
  else none

/-- The equivalent names no pin: it is accepted with no effect. -/
def spiEmpty (op : Nat) (p : List Word) : Bool := if op = 0x31 then p.isEmpty else p.length == 1

/-- The request that a register write stands for. -/
def SpiWrite.req (r : SpiWrite) : Req :=
  { port := .spi, ip := 0, udp := 0, session := 0, seq := 0, tag := 0xFFF, crc := 65536 * r.addr + r.value.toNat }

/-- The status of a write at its commit; in CALIBRATE every one is refused (R335). -/
def State.spiStatus (s : State) (x : Side) (r : SpiWrite) : Nat :=
  match (s.ctrl x).spiEquivalent s.now r with
  | none => if (s.ctrl x).mode = .calibrate then stModeForbids else stRange
  | some (op, p) =>
    let m := modeStatus (s.ctrl x).mode op p (s.ctrl x)
    if m ≠ stOk ∨ spiEmpty op p = true then m else s.ownStatus x op r.req p

/-- The undefined case an accepted write can reach (R338). -/
def State.spiUndefined (s : State) (x : Side) (r : SpiWrite) : Option Fault :=
  let c := s.ctrl x
  match c.spiEquivalent s.now r with
  | none => none
  | some (op, p) =>
    if !spiEmpty op p && tget 0 c.podCfg r.pod == 1 + c.sched.rebalances then some .mixedConfiguration else none

/-- A refused write: `REFUSED`, `REFUSE` and the count (R333). -/
def Ctrl.spiRefuse (c : Ctrl) (r : SpiWrite) (st : Nat) : Ctrl :=
  c.modSpi fun p =>
    { p with
      flags := p.flags ||| 4, refuse := BitVec.ofNat 16 (256 * (r.addr % 256) + st), refused := satAt 65535 (p.refused + 1) }

/-- A write carried out: the effect of its equivalent, with the pod noted for R338. -/
def State.spiCarryOut (s : State) (x : Side) (r : SpiWrite) (op : Nat) (p : List Word) : State :=
  if spiEmpty op p then s
  else
    (s.effect x op r.req p 0).1.modCtrl x fun c => { c with podSpi := tset 0 c.podSpi r.pod (1 + c.sched.rebalances) }

/-- The commit of a write: its REQUEST entry with `PORT` 4, then its effect or its refusal (R298, R332, R333). A write that is
the equivalent of no message has no opcode, and the field of its entry is free. -/
def State.spiCommitNow (s : State) (x : Side) (r : SpiWrite) : State :=
  let st := s.spiStatus x r
  match (s.ctrl x).spiEquivalent s.now r with
  | none =>
    let (v, s1) := s.draw
    (s1.journal x (v % 256) 0 0xFFF 0 0 st 4 r.req.crc).modCtrl x fun c => c.spiRefuse r st
  | some (op, p) =>
    let s1 := s.journal x op 0 0xFFF 0 0 st 4 r.req.crc
    if st = stOk then s1.spiCarryOut x r op p else s1.modCtrl x fun c => c.spiRefuse r st

/-- The write leaves the queue of a controller. -/
def Ctrl.spiDone (c : Ctrl) (r : SpiWrite) : Ctrl :=
  c.modSpi fun p => match p.queue with | q :: t => { p with queue := if q = r then t else q :: t } | [] => p

/-- SPI_WRITE_COMMIT: the ACTIVE controller commits the oldest queued write. -/
def execSpiWriteCommit (s : State) : Host.Outcome State Fault Refusal :=
  match s.active with
  | none => .next s
  | some x =>
    match (s.ctrl x).spi.queue with
    | [] => .next s
    | r :: _ =>
      if !(s.ctrl x).commitsOp 0x11 then .next s
      else if s.stale x then .next (s.demote x)
      else
        let s1 := (s.modCtrl .a fun c => c.spiDone r).modCtrl .b fun c => c.spiDone r
        match (if s1.spiStatus x r = stOk then s1.spiUndefined x r else none) with
        | some f => .fault f
        | none => .next (s1.spiCommitNow x r)

end Sys2Proof.Machine
end

