-- ==== Sys2Proof/Machine/Debug.lean ====
section
/-! DEFINITION. Debug access (chapter 16): the JTAG instructions, the commands of the debug control word, and writes over the
Fyvail port. -/

namespace Sys2Proof.Machine

/-! ## Answers (R477) -/

/-- `DSTAT` codes. -/
def dstatDone : Nat := 3
def dstatRefused : Nat := 6

/-- The debug control word of controller `x`, as a read of it finds it; `CMD` reads 0 (R479). -/
def State.debugWord (s : State) (x : Side) : Nat :=
  let c := s.ctrl x
  c.dbg.st * 2 ^ 24 + c.dbg.refuse * 2 ^ 20 + modeCode c.mode * 2 ^ 16 + roleCode c.role * 2 ^ 14 +
    b2n (s.holder == some x) * 2 ^ 13 + b2n c.dbg.latched * 2 ^ 12 + b2n c.dbg.halted * 2 ^ 11

/-- A write carried out. -/
def State.dieDone (s : State) (d : Die) : State := s.emit (.fyvail d dstatDone)
/-- A write answered REFUSED, with no effect. -/
def State.dieRefuses (s : State) (d : Die) : State := s.emit (.fyvail d dstatRefused)

/-- A command refused by a controller, with its reason in `REFUSE` (R479). -/
def State.refuseDebug (s : State) (x : Side) (why : Nat) : State :=
  (s.modCtrl x fun c => { c with dbg := { c.dbg with refuse := why } }).dieRefuses (.ctrl x)

/-- The debug state of a controller changed. -/
def Ctrl.modDebug (c : Ctrl) (f : Debug → Debug) : Ctrl := { c with dbg := f c.dbg }

/-- A command to a die: the arbiter refuses each (R481). -/
def State.onDie (s : State) (d : Die) (f : Side → State) : State :=
  if !s.supply then s
  else
    match d with
    | .arbiter => s.dieRefuses d
    | .ctrl x => f x

/-- A command in a state it does not end, or one for the holder sent to the other controller, is refused; the spec names no reason
code, so that code is free (R481; log entry 69). -/
def State.refuseFree (s : State) (x : Side) : State := let (v, s1) := s.draw; s1.refuseDebug x (v % 16)

/-! ## Commands (R481 to R488) -/

/-- The module modes of the commands HOLD_OUT and YIELD_HALT. -/
def holdModes : List Mode := [.commission, .service, .recovery, .safeHold, .maintain]
def yieldModes : List Mode := [.commission, .service, .maintain]

/-- HOLD_OUT (R482). A staging in progress ends, since the partner leaves STANDBY (R388). The spec names no `CAUSE` for its ROLE
event, so that field is free. -/
def State.holdOut (s : State) (x : Side) : State :=
  if !holdModes.contains (s.ctrl x).mode then s.refuseDebug x 1
  else if s.holder = some x then s.refuseDebug x 6
  else
    let (v, s1) := s.draw
    (((s1.modCtrl x fun c => { c.modDebug fun g => { g with st := 1 } with mirrorOk := false, dog := { c.dog with st := 3 } }).takeRole
      x .isolated (v % 16)).tendStaging).dieDone (.ctrl x)

/-- YIELD_HALT (R484): the handover steps of R392 follow in HANDOVER. -/
def State.yieldHalt (s : State) (x : Side) : State :=
  if !yieldModes.contains (s.ctrl x).mode then s.refuseDebug x 1
  else if s.holder ≠ some x then s.refuseFree x
  else if !(s.isStandby x.other && (s.ctrl x.other).mirrorOk) then s.refuseDebug x 2
  else
    (s.modCtrl x fun c => { c.modDebug fun g => { g with st := 2, since := s.now } with pausing := true }).dieDone (.ctrl x)

/-- HALT_IN_PLACE (R485). -/
def State.haltInPlace (s : State) (x : Side) : State :=
  let c := s.ctrl x
  if c.mode ≠ .maintain then s.refuseDebug x 1
  else if s.holder ≠ some x then s.refuseFree x
  else if !c.dogsOff then s.refuseDebug x 3
  else if c.faults.episode.isOpen then s.refuseDebug x 4
  else if c.hostDogs.any fun p => p.2.state == 1 then s.refuseDebug x 5
  else (s.setCtrl x { c.modDebug fun g => { g with st := 3, halted := true, since := s.now } with imageOk := true }).dieDone (.ctrl x)

/-- Every halted engine goes on past its breakpoint. -/
def Ctrl.resumeEngines (c : Ctrl) : Ctrl :=
  { c with sched := { c.sched with engines := c.sched.engines.map fun p =>
      (p.1, if p.2.halted then { p.2 with halted := false, pass := true } else p.2) } }

/-- Messages held during a halt pass to admission in the order of their arrival. -/
def State.admitHeld (s : State) (x : Side) : List (Nat × Req × List Word) → Host.Outcome State Fault Refusal
  | [] => .next s
  | (op, q, p) :: ms =>
    match s.serve x op q p with
    | .next t => t.admitHeld x ms
    | .fault f => .fault f
    | .refused r => .refused r

/-- RESUME (R485): the core and every halted engine go on. -/
def State.resumeDebug (s : State) (x : Side) : Host.Outcome State Fault Refusal :=
  let c := s.ctrl x
  if c.dbg.st ≠ 3 ∧ (c.sched.engines.any fun p => p.2.halted) = false then .next (s.refuseFree x)
  else
    let c1 := c.resumeEngines.modDebug fun g =>
      if g.st = 3 then { g with st := 0, halted := false, held := [] } else g
    ((s.setCtrl x c1).dieDone (.ctrl x)).admitHeld x (if c.dbg.st = 3 then c.dbg.held else [])

/-- RELEASE (R483): a latched source resets the controller; otherwise it goes SYNCING, unless its splice is down (R370). The `CAUSE` of its
ROLE event is free, as for HOLD_OUT. -/
def State.releaseDebug (s : State) (x : Side) : State :=
  let c := s.ctrl x
  if c.dbg.st ≠ 1 then s.refuseFree x
  else if c.dbg.latched then (s.restart x 4).dieDone (.ctrl x)
  else
    let (v, s0) := s.draw
    let s0 := s0.modCtrl x fun c => c.modDebug fun g => { g with st := 0, halted := false }
    let s1 := if c.dogsOff then s0.modCtrl x fun c => { c with dog := { c.dog with st := 1 } } else s0.startDog x
    (if c.spliceUp then s1.takeRole x .syncing (v % 16) else s1).dieDone (.ctrl x)

/-- RESET_DIE (R488): in every mode but DORMANT, of the holder only in MAINTAIN. -/
def State.resetDie (s : State) (x : Side) : State :=
  let m := (s.ctrl x).mode
  if m = .dormant ∨ (s.holder = some x ∧ m ≠ .maintain) then s.refuseDebug x 1 else ((s.restart x 4).tendStaging).dieDone (.ctrl x)

/-- HOLD_OUT. -/
def execHoldOut (d : Die) (s : State) : Host.Outcome State Fault Refusal := .next (s.onDie d fun x => s.holdOut x)
/-- YIELD_HALT. -/
def execYieldHalt (d : Die) (s : State) : Host.Outcome State Fault Refusal := .next (s.onDie d fun x => s.yieldHalt x)
/-- HALT_IN_PLACE. -/
def execHaltInPlace (d : Die) (s : State) : Host.Outcome State Fault Refusal := .next (s.onDie d fun x => s.haltInPlace x)
/-- RELEASE. -/
def execReleaseDebug (d : Die) (s : State) : Host.Outcome State Fault Refusal := .next (s.onDie d fun x => s.releaseDebug x)
/-- RESET_DIE. -/
def execResetDie (d : Die) (s : State) : Host.Outcome State Fault Refusal := .next (s.onDie d fun x => s.resetDie x)

/-- RESUME. -/
def execResume (d : Die) (s : State) : Host.Outcome State Fault Refusal :=
  match d with
  | .arbiter => .next (s.onDie d fun _ => s)
  | .ctrl x => if s.supply then s.resumeDebug x else .next s

/-- YIELD_HALT_TIMEOUT: 20 ms without a grant to the partner (R484). -/
def execYieldHaltTimeout (x : Side) (s : State) : Host.Outcome State Fault Refusal :=
  let c := s.ctrl x
  if c.dbg.st = 2 ∧ c.dbg.since + ms 20 ≤ s.now ∧ s.holder = some x then
    .next (s.setCtrl x { (c.modDebug fun g => { g with st := 0, refuse := 7 }).unpause with yieldSet := false })
  else .next s

/-! ## Fyvail writes (R477 to R480, R486, R487) -/

/-- FYVAIL_TRANSACTION_ABANDON: a transaction takes effect when it is complete, so one abandoned leaves nothing (R477). -/
def execFyvailTransactionAbandon (s : State) : Host.Outcome State Fault Refusal := .next s

/-- Debug may write SRAM and step the core: held out, or halted in place. -/
def Debug.stopped (g : Debug) : Bool := g.st == 1 || g.st == 3

/-- The bytes of a 32-bit access, the most significant at the lowest address (DESIGN CHOICE, log entry 52). -/
def fourBytes (v : BitVec 32) : List Byte :=
  [v.extractLsb' 24 8, v.extractLsb' 16 8, v.extractLsb' 8 8, v.extractLsb' 0 8]

/-- SRAM of a controller: 12 banks of 2 MiB. -/
def sramSize : Nat := 12 * 2097152

/-- A MEMORY write: to SRAM while the controller is stopped; to eNVM or NOR never. -/
def State.debugMemory (s : State) (x : Side) (addr : Nat) (data : BitVec 32) : State :=
  match Config.sramAddress addr with
  | some a =>
    if (s.ctrl x).dbg.stopped && decide (a + 4 ≤ sramSize) then
      (s.modCtrl x fun c => { c with sram := memStore sramEmpty c.sram a (fourBytes data) }).dieDone (.ctrl x)
    else s.dieRefuses (.ctrl x)
  | none => s.dieRefuses (.ctrl x)

/-- FYVAIL_MEMORY_WRITE. -/
def execFyvailMemoryWrite (d : Die) (addr : Nat) (data : BitVec 32) (s : State) : Host.Outcome State Fault Refusal :=
  .next (s.onDie d fun x => s.debugMemory x addr data)

/-- A CORE write, while the core may be debugged: it is held, and may halt the core or let it run. -/
def State.debugCore (s : State) (x : Side) (addr : Nat) (data : BitVec 32) : State :=
  if (s.ctrl x).dbg.stopped then
    (s.modCtrl x fun c => c.modDebug fun g =>
      { g with coreRegs := tset 0 g.coreRegs addr data, halted := (Config.coreControl addr data).getD g.halted }).dieDone (.ctrl x)
  else s.dieRefuses (.ctrl x)

/-- The stage breakpoints that ENGINE registers arm. -/
def stageBreaks (regs : Tab (BitVec 32)) : List (Nat × Nat) := regs.filterMap fun e => Config.stageBreakpoint e.1 e.2

/-- Stage breakpoints are armed on the holder in MAINTAIN with the watchdogs DISABLED, or while it is halted in place. -/
def State.mayBreak (s : State) (x : Side) : Bool :=
  let c := s.ctrl x
  c.dbg.st == 3 || (s.holder == some x && c.mode == .maintain && c.dogsOff)

/-- An ENGINE write; one that would arm a seventeenth breakpoint is refused. -/
def State.debugEngine (s : State) (x : Side) (addr : Nat) (data : BitVec 32) : State :=
  let regs := tset 0 (s.ctrl x).dbg.engineRegs addr data
  if s.mayBreak x && decide ((stageBreaks regs).length ≤ 16) then
    (s.modCtrl x fun c =>
      { c.modDebug fun g => { g with engineRegs := regs } with sched := { c.sched with breaks := stageBreaks regs } }).dieDone (.ctrl x)
  else s.dieRefuses (.ctrl x)

/-- A write of the debug control word: the command of `CMD`. -/
def State.debugControl (s : State) (x : Side) (addr : Nat) (data : BitVec 32) : Host.Outcome State Fault Refusal :=
  if addr ≠ 0 then .next (s.dieRefuses (.ctrl x))
  else
    match data.toNat / 2 ^ 28 with
    | 0 => .next (s.dieDone (.ctrl x))
    | 1 => .next (s.holdOut x)
    | 2 => .next (s.yieldHalt x)
    | 3 => .next (s.haltInPlace x)
    | 4 => s.resumeDebug x
    | 5 => .next (s.releaseDebug x)
    | 6 => .next (s.resetDie x)
    | _ => .next (s.dieRefuses (.ctrl x))

/-- FYVAIL_WRITE: a write to an access port (R478). -/
def execFyvailWrite (d : Die) (aport addr : Nat) (data : BitVec 32) (s : State) : Host.Outcome State Fault Refusal :=
  if !s.supply then .next s
  else
    match d with
    | .arbiter => .next (s.dieRefuses d)
    | .ctrl x =>
      match aport with
      | 0 => s.debugControl x addr data
      | 1 => .next (s.debugCore x addr data)
      | 2 => .next (s.debugEngine x addr data)
      | 3 => .next (s.debugMemory x addr data)
      | _ => .next (s.dieRefuses d)

/-- CORE_STEP: one instruction, and the core halts; its program is not part of the model, so where it stands is free (R486). -/
def execCoreStep (x : Side) (s : State) : Host.Outcome State Fault Refusal :=
  if (s.ctrl x).dbg.stopped then
    let (v, s1) := s.draw
    .next ((s1.modCtrl x fun c => c.modDebug fun g => { g with corePc := v, halted := true }).dieDone (.ctrl x))
  else if s.supply then .next (s.dieRefuses (.ctrl x)) else .next s

/-- CORE_BREAKPOINT_HIT: the core halts, and nothing else (R486). -/
def execCoreBreakpointHit (x : Side) (s : State) : Host.Outcome State Fault Refusal :=
  if (s.ctrl x).dbg.stopped then .next (s.modCtrl x fun c => c.modDebug fun g => { g with halted := true }) else .next s

/-! ## JTAG (R475, R476) -/

/-- The number of a die in the chain. -/
def dieCode : Die → Nat
  | .arbiter => 0
  | .ctrl .a => 1
  | .ctrl .b => 2

/-- The module is in BOOT with SAFE_BOOT tied. -/
def State.boundaryTest (s : State) : Bool := s.safeBoot && s.ctrlA.mode == .boot && s.ctrlB.mode == .boot

/-- What the boundary register of a die captures at its pins; the levels there are free. -/
def State.capture (s : State) (d : Die) : State := { s with free := s.free + 1 }.emit (.jtag d (Config.boundaryPins d s.free))

/-- The boundary register of a die loaded. -/
def State.loadScan (s : State) (d : Die) (scan : Nat) : State := { s with scans := tset 0 s.scans (2 * dieCode d) scan }

/-- The test instruction a die executes: 1 EXTEST, 2 INTEST, 0 neither. -/
def State.setTest (s : State) (d : Die) (code : Nat) : State := { s with scans := tset 0 s.scans (2 * dieCode d + 1) code }

/-- EXTEST and INTEST: the register captures, then applies what was shifted in; out of their place they act as BYPASS. -/
def State.boundary (s : State) (d : Die) (scan code : Nat) : State :=
  if s.boundaryTest then ((s.capture d).loadScan d scan).setTest d code else (s.emit (.jtag d scan)).setTest d 0

/-- EXTEST. -/
def execExtest (d : Die) (scan : Nat) (s : State) : Host.Outcome State Fault Refusal :=
  .next (if s.supply then s.boundary d scan 1 else s)

/-- INTEST. -/
def execIntest (d : Die) (scan : Nat) (s : State) : Host.Outcome State Fault Refusal :=
  .next (if s.supply then s.boundary d scan 2 else s)

/-- IDCODE. -/
def execIdcode (d : Die) (s : State) : Host.Outcome State Fault Refusal :=
  .next (if s.supply then (s.emit (.jtag d (Config.idcode d).toNat)).setTest d 0 else s)

/-- SAMPLE/PRELOAD: the pins are sampled, and the register is loaded. -/
def execSamplePreload (d : Die) (scan : Nat) (s : State) : Host.Outcome State Fault Refusal :=
  .next (if s.supply then ((s.capture d).loadScan d scan).setTest d 0 else s)

/-- BYPASS: the chain passes through one bit. -/
def execBypass (d : Die) (bit : Bool) (s : State) : Host.Outcome State Fault Refusal :=
  .next (if s.supply then (s.emit (.jtag d (b2n bit))).setTest d 0 else s)

end Sys2Proof.Machine
end

