-- ==== Sys2Proof/Machine/Power.lean ====
section
/-! DEFINITION. The logic supply (R492): its start, the power-fail warning, and the end of the hold-up. -/

namespace Sys2Proof.Machine

/-- The keep-bank group that waits at the head of a controller's queue begins (R492). -/
def Ctrl.beginGroups (c : Ctrl) : Ctrl := { c with groups := beginGroup false c.groups }

/-- VBAT_RISE: the supply starts, and the module with it, in BOOT. -/
def execVbatRise (s : State) : Host.Outcome State Fault Refusal :=
  .next (if s.supply then s else { s with supply := true, powerFail := false }.resetModule 0)

/-- POWER_FAIL_WARNING. -/
def execPowerFailWarning (s : State) : Host.Outcome State Fault Refusal :=
  .next (if s.supply then { s with powerFail := true } else s)

/-- POWER_FAIL_CLEAR: a waiting group resumes. -/
def execPowerFailClear (s : State) : Host.Outcome State Fault Refusal :=
  .next (if s.powerFail then ({ s with powerFail := false }.modCtrl .a Ctrl.beginGroups).modCtrl .b Ctrl.beginGroups else s)

/-- HOLD_UP_SPENT: both controllers and the arbiter go into reset together; the pods run on from VF. -/
def execHoldUpSpent (s : State) : Host.Outcome State Fault Refusal :=
  .next (if s.supply then { s with supply := false, powerFail := false }.resetModule 0 else s)

end Sys2Proof.Machine
end

