-- ==== Sys2Proof/Machine/Dispatch.lean ====
section
/-! DEFINITION. One arm per command: a direct call of its meaning. -/

namespace Sys2Proof.Machine

/-- The effect of a command on everything but the queue. -/
def exec (i : Instr) (s : State) : Host.Outcome State Fault Refusal :=
  match i with
  | .sessionOpen q p => Sys2Proof.Machine.execSessionOpen q p s
  | .sessionResume q p => Sys2Proof.Machine.execSessionResume q p s
  | .sessionClose q p => Sys2Proof.Machine.execSessionClose q p s
  | .cfgRead q p => Sys2Proof.Machine.execCfgRead q p s
  | .cfgWriteDigitalChannel q p => Sys2Proof.Machine.execCfgWriteDigitalChannel q p s
  | .cfgWriteLoopChannel q p => Sys2Proof.Machine.execCfgWriteLoopChannel q p s
  | .cfgWriteConversion q p => Sys2Proof.Machine.execCfgWriteConversion q p s
  | .cfgWriteAngleCfg q p => Sys2Proof.Machine.execCfgWriteAngleCfg q p s
  | .cfgWriteStartMode q p => Sys2Proof.Machine.execCfgWriteStartMode q p s
  | .cfgWriteWdogCfg q p => Sys2Proof.Machine.execCfgWriteWdogCfg q p s
  | .cfgWriteHostWdogCfg q p => Sys2Proof.Machine.execCfgWriteHostWdogCfg q p s
  | .cfgWriteFaultCfg q p => Sys2Proof.Machine.execCfgWriteFaultCfg q p s
  | .injectionStart q p => Sys2Proof.Machine.execInjectionStart q p s
  | .cfgWriteRopeCfg q p => Sys2Proof.Machine.execCfgWriteRopeCfg q p s
  | .ropeResetRequest q p => Sys2Proof.Machine.execRopeResetRequest q p s
  | .cfgWritePortCfg q p => Sys2Proof.Machine.execCfgWritePortCfg q p s
  | .cfgWriteSpiWindow q p => Sys2Proof.Machine.execCfgWriteSpiWindow q p s
  | .modeRequest q p => Sys2Proof.Machine.execModeRequest q p s
  | .dutyDefine q p => Sys2Proof.Machine.execDutyDefine q p s
  | .dutyStart q p => Sys2Proof.Machine.execDutyStart q p s
  | .dutyStop q p => Sys2Proof.Machine.execDutyStop q p s
  | .dutyQuery q p => Sys2Proof.Machine.execDutyQuery q p s
  | .placementQuery q p => Sys2Proof.Machine.execPlacementQuery q p s
  | .sampleReadLatest q p => Sys2Proof.Machine.execSampleReadLatest q p s
  | .sampleReadConvert q p => Sys2Proof.Machine.execSampleReadConvert q p s
  | .sampleReadUrgent q p => Sys2Proof.Machine.execSampleReadUrgent q p s
  | .outputSet q p => Sys2Proof.Machine.execOutputSet q p s
  | .testDrive q p => Sys2Proof.Machine.execTestDrive q p s
  | .testDriveEnd q p => Sys2Proof.Machine.execTestDriveEnd q p s
  | .testDriveExpiry ch => Sys2Proof.Machine.execTestDriveExpiry ch s
  | .calStart q p => Sys2Proof.Machine.execCalStart q p s
  | .trimArmIn q p => Sys2Proof.Machine.execTrimArmIn q p s
  | .trimArmOut q p => Sys2Proof.Machine.execTrimArmOut q p s
  | .trimCaptureZero q p => Sys2Proof.Machine.execTrimCaptureZero q p s
  | .trimCaptureSpan q p => Sys2Proof.Machine.execTrimCaptureSpan q p s
  | .trimMeasZero q p => Sys2Proof.Machine.execTrimMeasZero q p s
  | .trimMeasSpan q p => Sys2Proof.Machine.execTrimMeasSpan q p s
  | .trimCommit q p => Sys2Proof.Machine.execTrimCommit q p s
  | .trimCancel q p => Sys2Proof.Machine.execTrimCancel q p s
  | .trimReset q p => Sys2Proof.Machine.execTrimReset q p s
  | .trimCaptureEnd mean half1 half2 => Sys2Proof.Machine.execTrimCaptureEnd mean half1 half2 s
  | .trimWindowExpiry => Sys2Proof.Machine.execTrimWindowExpiry s
  | .zeroPress => Sys2Proof.Machine.execZeroPress s
  | .spanPress => Sys2Proof.Machine.execSpanPress s
  | .trimButtonsHeld => Sys2Proof.Machine.execTrimButtonsHeld s
  | .fskSend q p => Sys2Proof.Machine.execFskSend q p s
  | .fskTransmitStart ch => Sys2Proof.Machine.execFskTransmitStart ch s
  | .fskReplyTimeout ch => Sys2Proof.Machine.execFskReplyTimeout ch s
  | .fskFrameReceived ch bytes parityOk gapsOk => Sys2Proof.Machine.execFskFrameReceived ch bytes parityOk gapsOk s
  | .fskCharacter ch bytes first last parityErr => Sys2Proof.Machine.execFskCharacter ch bytes first last parityErr s
  | .abort q p => Sys2Proof.Machine.execAbort q p s
  | .journalRead q p => Sys2Proof.Machine.execJournalRead q p s
  | .faultRead q p => Sys2Proof.Machine.execFaultRead q p s
  | .faultAck q p => Sys2Proof.Machine.execFaultAck q p s
  | .faultPinRelease q p => Sys2Proof.Machine.execFaultPinRelease q p s
  | .wdogAnswer q p => Sys2Proof.Machine.execWdogAnswer q p s
  | .wdogPoll host q p => Sys2Proof.Machine.execWdogPoll host q p s
  | .hostWdogAnswer q p => Sys2Proof.Machine.execHostWdogAnswer q p s
  | .wdogKey q p => Sys2Proof.Machine.execWdogKey q p s
  | .wdogKeyArmExpiry => Sys2Proof.Machine.execWdogKeyArmExpiry s
  | .keepRead q p => Sys2Proof.Machine.execKeepRead q p s
  | .keepWrite q p => Sys2Proof.Machine.execKeepWrite q p s
  | .keepGroupEnd x => Sys2Proof.Machine.execKeepGroupEnd x s
  | .crcOpen q p => Sys2Proof.Machine.execCrcOpen q p s
  | .crcFeed q p => Sys2Proof.Machine.execCrcFeed q p s
  | .crcGet q p => Sys2Proof.Machine.execCrcGet q p s
  | .crcPut q p => Sys2Proof.Machine.execCrcPut q p s
  | .fwStageBegin q p => Sys2Proof.Machine.execFwStageBegin q p s
  | .fwStageData q p => Sys2Proof.Machine.execFwStageData q p s
  | .fwStageEnd q p => Sys2Proof.Machine.execFwStageEnd q p s
  | .fwStageDiscard q p => Sys2Proof.Machine.execFwStageDiscard q p s
  | .sectorEraseDone x => Sys2Proof.Machine.execSectorEraseDone x s
  | .fwSwap q p => Sys2Proof.Machine.execFwSwap q p s
  | .fwRollback q p => Sys2Proof.Machine.execFwRollback q p s
  | .settingsMigrationEnd x converted => Sys2Proof.Machine.execSettingsMigrationEnd x converted s
  | .handover => Sys2Proof.Machine.execHandover s
  | .tailDrop x reason => Sys2Proof.Machine.execTailDrop x reason s
  | .tadpoleTimeout x => Sys2Proof.Machine.execTadpoleTimeout x s
  | .claimTimeout => Sys2Proof.Machine.execClaimTimeout s
  | .soakEnd => Sys2Proof.Machine.execSoakEnd s
  | .ropeStatus q p => Sys2Proof.Machine.execRopeStatus q p s
  | .snapshot q p => Sys2Proof.Machine.execSnapshot q p s
  | .snapshotTimeout => Sys2Proof.Machine.execSnapshotTimeout s
  | .sleepPropose q p => Sys2Proof.Machine.execSleepPropose q p s
  | .frameHeaderWord w => Sys2Proof.Machine.execFrameHeaderWord w s
  | .framePayloadWord w => Sys2Proof.Machine.execFramePayloadWord w s
  | .angleWord w atMtime => Sys2Proof.Machine.execAngleWord w atMtime s
  | .frameBadWord => Sys2Proof.Machine.execFrameBadWord s
  | .frameMessageGap gap => Sys2Proof.Machine.execFrameMessageGap gap s
  | .frameLaneAlignment lane aligned => Sys2Proof.Machine.execFrameLaneAlignment lane aligned s
  | .udpDatagram x ip udp bytes => Sys2Proof.Machine.execUdpDatagram x ip udp bytes s
  | .ipv4Fragment x ip udp ident offset bytes more => Sys2Proof.Machine.execIpv4Fragment x ip udp ident offset bytes more s
  | .reassemblyTimeout x ident => Sys2Proof.Machine.execReassemblyTimeout x ident s
  | .arpRequest x ip sender => Sys2Proof.Machine.execArpRequest x ip sender s
  | .icmpEchoRequest x ip sender data => Sys2Proof.Machine.execIcmpEchoRequest x ip sender data s
  | .relayedMessage x ip udp header p => Sys2Proof.Machine.execRelayedMessage x ip udp header p s
  | .ep1OutTransfer bytes => Sys2Proof.Machine.execEp1OutTransfer bytes s
  | .usbPacketGap => Sys2Proof.Machine.execUsbPacketGap s
  | .identity => Sys2Proof.Machine.execIdentity s
  | .message bytes => Sys2Proof.Machine.execMessage bytes s
  | .counters => Sys2Proof.Machine.execCounters s
  | .locate seconds => Sys2Proof.Machine.execLocate seconds s
  | .locateExpiry => Sys2Proof.Machine.execLocateExpiry s
  | .usbBusReset => Sys2Proof.Machine.execUsbBusReset s
  | .usbSuspend => Sys2Proof.Machine.execUsbSuspend s
  | .usbReattach => Sys2Proof.Machine.execUsbReattach s
  | .spiBadFrame => Sys2Proof.Machine.execSpiBadFrame s
  | .spiWriteDout value => Sys2Proof.Machine.execSpiWriteDout value s
  | .spiWriteConfig addr value => Sys2Proof.Machine.execSpiWriteConfig addr value s
  | .spiWriteStatus value => Sys2Proof.Machine.execSpiWriteStatus value s
  | .spiWriteClaim reg value => Sys2Proof.Machine.execSpiWriteClaim reg value s
  | .spiWriteOther cycles frame => Sys2Proof.Machine.execSpiWriteOther cycles frame s
  | .spiWriteCommit => Sys2Proof.Machine.execSpiWriteCommit s
  | .compatSpliceTakeover x => Sys2Proof.Machine.execCompatSpliceTakeover x s
  | .loglineCommit => Sys2Proof.Machine.execLoglineCommit s
  | .loglineFailure x readAt => Sys2Proof.Machine.execLoglineFailure x readAt s
  | .replySend session => Sys2Proof.Machine.execReplySend session s
  | .eventSend session => Sys2Proof.Machine.execEventSend session s
  | .angleUpdate => Sys2Proof.Machine.execAngleUpdate s
  | .as0ZeroCrossing period => Sys2Proof.Machine.execAs0ZeroCrossing period s
  | .carrierSyncEdge width rising => Sys2Proof.Machine.execCarrierSyncEdge width rising s
  | .sourceLoss src => Sys2Proof.Machine.execSourceLoss src s
  | .acquireLock src angle => Sys2Proof.Machine.execAcquireLock src angle s
  | .relockComplete src => Sys2Proof.Machine.execRelockComplete src s
  | .flywheelLimit src => Sys2Proof.Machine.execFlywheelLimit src s
  | .inputValidAgain src angle => Sys2Proof.Machine.execInputValidAgain src angle s
  | .ptpAnnounce x domain a utcOffset => Sys2Proof.Machine.execPtpAnnounce x domain a utcOffset s
  | .ptpAnnounceTimeout x => Sys2Proof.Machine.execPtpAnnounceTimeout x s
  | .ptpSync x domain y => Sys2Proof.Machine.execPtpSync x domain y s
  | .ptpDelayReqSend x => Sys2Proof.Machine.execPtpDelayReqSend x s
  | .ptpDelayResp x delay logInterval => Sys2Proof.Machine.execPtpDelayResp x delay logInterval s
  | .executionDispatch engine => Sys2Proof.Machine.execExecutionDispatch engine s
  | .leapfrogExamine engine => Sys2Proof.Machine.execLeapfrogExamine engine s
  | .acquire engine => Sys2Proof.Machine.execAcquire engine s
  | .filter engine => Sys2Proof.Machine.execFilter engine s
  | .compare engine => Sys2Proof.Machine.execCompare engine s
  | .count engine => Sys2Proof.Machine.execCount engine s
  | .logic engine => Sys2Proof.Machine.execLogic engine s
  | .sequence engine => Sys2Proof.Machine.execSequence engine s
  | .drive engine => Sys2Proof.Machine.execDrive engine s
  | .forceSafe engine => Sys2Proof.Machine.execForceSafe engine s
  | .publish engine => Sys2Proof.Machine.execPublish engine s
  | .checkValue engine => Sys2Proof.Machine.execCheckValue engine s
  | .relay engine => Sys2Proof.Machine.execRelay engine s
  | .rebalance => Sys2Proof.Machine.execRebalance s
  | .migrationSwitch duty => Sys2Proof.Machine.execMigrationSwitch duty s
  | .shadowPlacement x => Sys2Proof.Machine.execShadowPlacement x s
  | .slowWindow engine taken cost completed busy => Sys2Proof.Machine.execSlowWindow engine taken cost completed busy s
  | .calibrateEnd => Sys2Proof.Machine.execCalibrateEnd s
  | .downlinkFrame x link => Sys2Proof.Machine.execDownlinkFrame x link s
  | .podOutputFrame link h payload => Sys2Proof.Machine.execPodOutputFrame link h payload s
  | .podConfigFrame link h sub payload => Sys2Proof.Machine.execPodConfigFrame link h sub payload s
  | .podRequestUrgent link h payload => Sys2Proof.Machine.execPodRequestUrgent link h payload s
  | .podRequestTrigger link h payload => Sys2Proof.Machine.execPodRequestTrigger link h payload s
  | .podRequestSelfCal link h payload => Sys2Proof.Machine.execPodRequestSelfCal link h payload s
  | .podTimeFrame link h payload => Sys2Proof.Machine.execPodTimeFrame link h payload s
  | .podFskFrame link h payload => Sys2Proof.Machine.execPodFskFrame link h payload s
  | .podIdleFrame link h => Sys2Proof.Machine.execPodIdleFrame link h s
  | .podBadFrame link x => Sys2Proof.Machine.execPodBadFrame link x s
  | .uplinkFrame x f => Sys2Proof.Machine.execUplinkFrame x f s
  | .uplinkBadFrame x link => Sys2Proof.Machine.execUplinkBadFrame x link s
  | .podUplinkSend link => Sys2Proof.Machine.execPodUplinkSend link s
  | .autonomousHoldStart link => Sys2Proof.Machine.execAutonomousHoldStart link s
  | .leaseLapse link => Sys2Proof.Machine.execLeaseLapse link s
  | .holdExpiry ch => Sys2Proof.Machine.execHoldExpiry ch s
  | .podTetherAcceptAny link => Sys2Proof.Machine.execPodTetherAcceptAny link s
  | .referenceFallback link => Sys2Proof.Machine.execReferenceFallback link s
  | .podPowerUp bay => Sys2Proof.Machine.execPodPowerUp bay s
  | .podPowerDown bay => Sys2Proof.Machine.execPodPowerDown bay s
  | .debounceChange ch => Sys2Proof.Machine.execDebounceChange ch s
  | .edgeCapture ch level tick => Sys2Proof.Machine.execEdgeCapture ch level tick s
  | .openVerdict ch isOpen => Sys2Proof.Machine.execOpenVerdict ch isOpen s
  | .overloadTrip ch => Sys2Proof.Machine.execOverloadTrip ch s
  | .shortTrip ch => Sys2Proof.Machine.execShortTrip ch s
  | .overtempTrip ch temp => Sys2Proof.Machine.execOvertempTrip ch temp s
  | .podIlimTrip pod largest => Sys2Proof.Machine.execPodIlimTrip pod largest s
  | .protectionRetry ch => Sys2Proof.Machine.execProtectionRetry ch s
  | .protectionClear ch => Sys2Proof.Machine.execProtectionClear ch s
  | .mismatchVerdict ch differs => Sys2Proof.Machine.execMismatchVerdict ch differs s
  | .offStateShortVerdict ch high => Sys2Proof.Machine.execOffStateShortVerdict ch high s
  | .levelChangeDeferred ch => Sys2Proof.Machine.execLevelChangeDeferred ch s
  | .conversionResult ch raw => Sys2Proof.Machine.execConversionResult ch raw s
  | .readbackResult ch raw => Sys2Proof.Machine.execReadbackResult ch raw s
  | .triggeredConversionEnd ch raw => Sys2Proof.Machine.execTriggeredConversionEnd ch raw s
  | .urgentConversionEnd ch raw => Sys2Proof.Machine.execUrgentConversionEnd ch raw s
  | .modulatorPowerDown ch => Sys2Proof.Machine.execModulatorPowerDown ch s
  | .modulatorStartUpEnd ch => Sys2Proof.Machine.execModulatorStartUpEnd ch s
  | .loopBreakTrip ch raw => Sys2Proof.Machine.execLoopBreakTrip ch raw s
  | .loopBreakConfirm ch => Sys2Proof.Machine.execLoopBreakConfirm ch s
  | .loopBreakRelease ch raw => Sys2Proof.Machine.execLoopBreakRelease ch raw s
  | .selfCalPhaseEnd pod => Sys2Proof.Machine.execSelfCalPhaseEnd pod s
  | .selfCalEnd pod temp priOff rbOff priGain rbGain diff current refDev => Sys2Proof.Machine.execSelfCalEnd pod temp priOff rbOff priGain rbGain diff current refDev s
  | .diagInputMeasurement pod value => Sys2Proof.Machine.execDiagInputMeasurement pod value s
  | .loopOvertemp ch hot => Sys2Proof.Machine.execLoopOvertemp ch hot s
  | .verifyOpenLoop ch => Sys2Proof.Machine.execVerifyOpenLoop ch s
  | .verifyCompliance ch => Sys2Proof.Machine.execVerifyCompliance ch s
  | .verifyClear ch bit => Sys2Proof.Machine.execVerifyClear ch bit s
  | .supplyVerdict ch bad => Sys2Proof.Machine.execSupplyVerdict ch bad s
  | .almChange pod level => Sys2Proof.Machine.execAlmChange pod level s
  | .heartbeatSend x => Sys2Proof.Machine.execHeartbeatSend x s
  | .heartbeatReceive x w => Sys2Proof.Machine.execHeartbeatReceive x w s
  | .controllerFailed x => Sys2Proof.Machine.execControllerFailed x s
  | .tetherGrant => Sys2Proof.Machine.execTetherGrant s
  | .tetherRenewal => Sys2Proof.Machine.execTetherRenewal s
  | .arbiterLeaseEnd => Sys2Proof.Machine.execArbiterLeaseEnd s
  | .arbiterResetPulse x => Sys2Proof.Machine.execArbiterResetPulse x s
  | .arbiterStart => Sys2Proof.Machine.execArbiterStart s
  | .arbiterRenewWatch x => Sys2Proof.Machine.execArbiterRenewWatch x s
  | .takeover x => Sys2Proof.Machine.execTakeover x s
  | .mirrorUpdate item => Sys2Proof.Machine.execMirrorUpdate item s
  | .spliceWordBad x => Sys2Proof.Machine.execSpliceWordBad x s
  | .spliceLost x => Sys2Proof.Machine.execSpliceLost x s
  | .spliceRestored x => Sys2Proof.Machine.execSpliceRestored x s
  | .bulkCopyComplete x => Sys2Proof.Machine.execBulkCopyComplete x s
  | .controllerBoot x ok0 ok1 logOk => Sys2Proof.Machine.execControllerBoot x ok0 ok1 logOk s
  | .wdogWindowClose d => Sys2Proof.Machine.execWdogWindowClose d s
  | .wdogCoreAnswer x token => Sys2Proof.Machine.execWdogCoreAnswer x token s
  | .wdogClockTrip x => Sys2Proof.Machine.execWdogClockTrip x s
  | .suspensionTimeout x => Sys2Proof.Machine.execSuspensionTimeout x s
  | .watchdogReset x => Sys2Proof.Machine.execWatchdogReset x s
  | .faultRaise x source injected => Sys2Proof.Machine.execFaultRaise x source injected s
  | .reactionTimerExpiry => Sys2Proof.Machine.execReactionTimerExpiry s
  | .faultPinMinHold => Sys2Proof.Machine.execFaultPinMinHold s
  | .partnerFaultReset x => Sys2Proof.Machine.execPartnerFaultReset x s
  | .conditionReraise x source => Sys2Proof.Machine.execConditionReraise x source s
  | .vbatRise => Sys2Proof.Machine.execVbatRise s
  | .powerFailWarning => Sys2Proof.Machine.execPowerFailWarning s
  | .powerFailClear => Sys2Proof.Machine.execPowerFailClear s
  | .holdUpSpent => Sys2Proof.Machine.execHoldUpSpent s
  | .dutyStoreWriteDone x duty => Sys2Proof.Machine.execDutyStoreWriteDone x duty s
  | .csfLaunch => Sys2Proof.Machine.execCsfLaunch s
  | .csfReceive f => Sys2Proof.Machine.execCsfReceive f s
  | .ropeCmdSnapshot w mask => Sys2Proof.Machine.execRopeCmdSnapshot w mask s
  | .ropeCmdSleepPropose w => Sys2Proof.Machine.execRopeCmdSleepPropose w s
  | .ropeCmdSleepCommit w => Sys2Proof.Machine.execRopeCmdSleepCommit w s
  | .ropeCmdSleepAbort w => Sys2Proof.Machine.execRopeCmdSleepAbort w s
  | .ropeCmdRopeReset w => Sys2Proof.Machine.execRopeCmdRopeReset w s
  | .ropeCmdSnapshotRefused w => Sys2Proof.Machine.execRopeCmdSnapshotRefused w s
  | .slotSend error => Sys2Proof.Machine.execSlotSend error s
  | .slotDataReceive h p => Sys2Proof.Machine.execSlotDataReceive h p s
  | .joinReceive h => Sys2Proof.Machine.execJoinReceive h s
  | .ropeAngleLoss => Sys2Proof.Machine.execRopeAngleLoss s
  | .masterTimeout => Sys2Proof.Machine.execMasterTimeout s
  | .noCsfTimeout => Sys2Proof.Machine.execNoCsfTimeout s
  | .bypassChange => Sys2Proof.Machine.execBypassChange s
  | .dormantEntry => Sys2Proof.Machine.execDormantEntry s
  | .wakePin => Sys2Proof.Machine.execWakePin s
  | .wakeFrameSend => Sys2Proof.Machine.execWakeFrameSend s
  | .wakeFrameReceive knot => Sys2Proof.Machine.execWakeFrameReceive knot s
  | .wake => Sys2Proof.Machine.execWake s
  | .sleepOrphanWake => Sys2Proof.Machine.execSleepOrphanWake s
  | .fyvailTransactionAbandon => Sys2Proof.Machine.execFyvailTransactionAbandon s
  | .holdOut d => Sys2Proof.Machine.execHoldOut d s
  | .yieldHalt d => Sys2Proof.Machine.execYieldHalt d s
  | .yieldHaltTimeout x => Sys2Proof.Machine.execYieldHaltTimeout x s
  | .haltInPlace d => Sys2Proof.Machine.execHaltInPlace d s
  | .resume d => Sys2Proof.Machine.execResume d s
  | .releaseDebug d => Sys2Proof.Machine.execReleaseDebug d s
  | .resetDie d => Sys2Proof.Machine.execResetDie d s
  | .fyvailMemoryWrite d addr data => Sys2Proof.Machine.execFyvailMemoryWrite d addr data s
  | .fyvailWrite d aport addr data => Sys2Proof.Machine.execFyvailWrite d aport addr data s
  | .coreStep x => Sys2Proof.Machine.execCoreStep x s
  | .coreBreakpointHit x => Sys2Proof.Machine.execCoreBreakpointHit x s
  | .engineBreakpointHit engine => Sys2Proof.Machine.execEngineBreakpointHit engine s
  | .engineStep engine => Sys2Proof.Machine.execEngineStep engine s
  | .extest d scan => Sys2Proof.Machine.execExtest d scan s
  | .intest d scan => Sys2Proof.Machine.execIntest d scan s
  | .idcode d => Sys2Proof.Machine.execIdcode d s
  | .samplePreload d scan => Sys2Proof.Machine.execSamplePreload d scan s
  | .bypass d bit => Sys2Proof.Machine.execBypass d bit s
  | .acquireInputInvalid src => Sys2Proof.Machine.execAcquireInputInvalid src s
  | .fskTransmitEnd ch => Sys2Proof.Machine.execFskTransmitEnd ch s
  | .loopOvertempFlagClear ch => Sys2Proof.Machine.execLoopOvertempFlagClear ch s
  | .loopOverloadVerdict ch exceeds => Sys2Proof.Machine.execLoopOverloadVerdict ch exceeds s
  | .calTempDeparture ch temp => Sys2Proof.Machine.execCalTempDeparture ch temp s
  | .ethernetLinkChange x link => Sys2Proof.Machine.execEthernetLinkChange x link s
  | .usbVbusChange present => Sys2Proof.Machine.execUsbVbusChange present s
  | .usbResume => Sys2Proof.Machine.execUsbResume s

end Sys2Proof.Machine
end

