-- ==== Sys2Proof/Safety.lean ====
section
/-! DEFINITION. What claims are stated in: when a request is admitted and accepted (R291), the state in which its effect takes
place, the state after its reply, and the agreement of the arbiter with its tether word (R361, R362, R366). -/

namespace Sys2Proof.Machine

/-! ## Requests (R291, R295, R296) -/

/-- A message that reaches a controller during a sleep agreement is a wake (R422). -/
def State.heard (s : State) (x : Side) : State := if (s.ctrl x).rope.sleepSt = 0 then s else s.hostWake

/-- A request without a reserved field set reaches the ACTIVE controller `x` on a port that serves it, past steps 2 to 9 of R291:
the module mode takes messages, no injection inverts its check, its tether is not stale, it is not halted, and its session, `SEQ`,
credit and `TAG` let it in. -/
def State.admits (s : State) (x : Side) (op : Nat) (q : Req) (p : List Word) : Bool :=
  let c := s.ctrl x
  q.port != .spi && q.port != .internal && s.receiver q.port == some x && c.running && !c.inReset && c.portServes q.port &&
    s.moduleMode x != .boot && s.moduleMode x != .dormant && !c.injects 5 (portCode q.port) && !reservedSet op p && c.isActive &&
    !(s.heard x).stale x && c.dbg.st != 3 && ((s.heard x).ctrl x).admission op q p == .admitted

/-- The state with the request in flight. -/
def State.entered (s : State) (x : Side) (op : Nat) (q : Req) (p : List Word) : State :=
  (s.heard x).setCtrl x (((s.heard x).ctrl x).enter op q p)

/-- An admitted request that is journalled is accepted at once: nothing waits before it, the controller commits, and the module
mode and its own checks answer OK (R62, R291, R296). -/
def State.accepts (s : State) (x : Side) (op : Nat) (q : Req) (p : List Word) : Bool :=
  let s1 := s.entered x op q p
  s.admits x op q p && journalled op p && (s1.ctrl x).waiting.isEmpty && (s1.ctrl x).commitsOp op &&
    s1.commitStatus x op q p == stOk && ((s1.ctrl x).undefinedCase op q p).isNone

/-- The state at the logline commit of an accepted request: its REQUEST entry stands, with status OK (R295, R297). -/
def State.begun (s : State) (x : Side) (op : Nat) (q : Req) (p : List Word) : State :=
  ((s.entered x op q p).journalReq x q op 0 stOk q.crc).modCtrl x fun c => c.modFlight q.tag fun f => { f with committed := true }

/-- The state once the reply to a request is formed, with the tags in flight at the STANDBY controller. -/
def State.replied (s : State) (x : Side) (q : Req) (status : Nat) (words : List Word) : State :=
  (s.modCtrl x fun c => c.finish q.tag status words).syncTags x

/-- The state after the answer of a request that is not journalled. -/
def State.answered (r : State × Nat × List Word) (x : Side) (q : Req) : State := r.1.replied x q r.2.1 r.2.2

/-- The state after the effect of a request and, if its reply is formed now, that reply with status OK. -/
def State.settled (r : State × Option (List Word)) (x : Side) (q : Req) : State :=
  match r.2 with
  | some ws => r.1.replied x q stOk ws
  | none => r.1.syncTags x

/-- The same for a request answered at End: its COMPLETE entry stands before its reply (R294, R298). -/
def State.ended (r : State × Option (List Word)) (x : Side) (q : Req) : State :=
  match r.2 with
  | some ws => (r.1.complete x q.tag stOk ws).syncTags x
  | none => r.1.syncTags x

/-- A whole message is framed for its port, its `CRC` is right and no reserved bit of its header is set (R283 to R285). -/
def intact (port : Port) (h : Word) (p : List Word) : Bool :=
  framed port h p && fld h 31 0 == messageCrc 0 h p && !anyField h [(75, 64), (35, 32)]

/-- A request that is served to its end: accepted if it is journalled, and admitted if it is not. -/
def State.completes (s : State) (x : Side) (op : Nat) (q : Req) (p : List Word) : Bool :=
  if journalled op p then s.accepts x op q p else s.admits x op q p

/-- The state a completed request leaves: its REQUEST entry and effect, or its answer. -/
def State.completed (s : State) (x : Side) (op : Nat) (q : Req) (p : List Word) : State :=
  if journalled op p then
    ((s.begun x op q p).carryOut x op q p (((s.entered x op q p).ctrl x).session q.session).lastEntry).syncTags x
  else State.answered ((s.entered x op q p).answer x op q p) x q

/-- The request that a row of the table stands for: its opcode, its header and its payload. A row that stands for none has none. -/
def requestOf : Instr → Option (Nat × Req × List Word)
  | .sessionOpen q p => some (0x01, q, p)
  | .sessionResume q p => some (0x02, q, p)
  | .sessionClose q p => some (0x03, q, p)
  | .cfgRead q p => some (0x10, q, p)
  | .cfgWriteDigitalChannel q p => some (0x11, q, p)
  | .cfgWriteLoopChannel q p => some (0x11, q, p)
  | .cfgWriteConversion q p => some (0x11, q, p)
  | .cfgWriteAngleCfg q p => some (0x11, q, p)
  | .cfgWriteStartMode q p => some (0x11, q, p)
  | .cfgWriteWdogCfg q p => some (0x11, q, p)
  | .cfgWriteHostWdogCfg q p => some (0x11, q, p)
  | .cfgWriteFaultCfg q p => some (0x11, q, p)
  | .injectionStart q p => some (0x11, q, p)
  | .cfgWriteRopeCfg q p => some (0x11, q, p)
  | .ropeResetRequest q p => some (0x11, q, p)
  | .cfgWritePortCfg q p => some (0x11, q, p)
  | .cfgWriteSpiWindow q p => some (0x11, q, p)
  | .modeRequest q p => some (0x12, q, p)
  | .dutyDefine q p => some (0x20, q, p)
  | .dutyStart q p => some (0x21, q, p)
  | .dutyStop q p => some (0x22, q, p)
  | .dutyQuery q p => some (0x23, q, p)
  | .placementQuery q p => some (0x24, q, p)
  | .sampleReadLatest q p => some (0x30, q, p)
  | .sampleReadConvert q p => some (0x30, q, p)
  | .sampleReadUrgent q p => some (0x30, q, p)
  | .outputSet q p => some (0x31, q, p)
  | .testDrive q p => some (0x32, q, p)
  | .testDriveEnd q p => some (0x32, q, p)
  | .calStart q p => some (0x38, q, p)
  | .trimArmIn q p => some (0x39, q, p)
  | .trimArmOut q p => some (0x39, q, p)
  | .trimCaptureZero q p => some (0x39, q, p)
  | .trimCaptureSpan q p => some (0x39, q, p)
  | .trimMeasZero q p => some (0x39, q, p)
  | .trimMeasSpan q p => some (0x39, q, p)
  | .trimCommit q p => some (0x39, q, p)
  | .trimCancel q p => some (0x39, q, p)
  | .trimReset q p => some (0x39, q, p)
  | .fskSend q p => some (0x3A, q, p)
  | .abort q p => some (0x40, q, p)
  | .journalRead q p => some (0x41, q, p)
  | .faultRead q p => some (0x50, q, p)
  | .faultAck q p => some (0x51, q, p)
  | .faultPinRelease q p => some (0x52, q, p)
  | .wdogAnswer q p => some (0x53, q, p)
  | .hostWdogAnswer q p => some (0x54, q, p)
  | .wdogKey q p => some (0x55, q, p)
  | .keepRead q p => some (0x60, q, p)
  | .keepWrite q p => some (0x61, q, p)
  | .crcOpen q p => some (0x68, q, p)
  | .crcFeed q p => some (0x69, q, p)
  | .crcGet q p => some (0x6A, q, p)
  | .crcPut q p => some (0x6B, q, p)
  | .fwStageBegin q p => some (0x70, q, p)
  | .fwStageData q p => some (0x70, q, p)
  | .fwStageEnd q p => some (0x70, q, p)
  | .fwStageDiscard q p => some (0x70, q, p)
  | .fwSwap q p => some (0x71, q, p)
  | .fwRollback q p => some (0x72, q, p)
  | .ropeStatus q p => some (0x78, q, p)
  | .snapshot q p => some (0x79, q, p)
  | .sleepPropose q p => some (0x7A, q, p)
  | .wdogPoll host q p => some (if host then 0x54 else 0x53, q, p)
  | _ => none

/-- The commands that act on a pod, on a channel of one, on the boundary of a die, on the supply or on the clock, or reset the module.
Every other command leaves all of these as they are. -/
def actsOnField : Instr → Bool
  | .fskFrameReceived _ _ _ _ | .fskCharacter _ _ _ _ _ | .angleUpdate | .podOutputFrame _ _ _ | .podConfigFrame _ _ _ _
  | .podTimeFrame _ _ _ | .podFskFrame _ _ _ | .podIdleFrame _ _ | .podBadFrame _ _ | .podUplinkSend _
  | .autonomousHoldStart _ | .leaseLapse _ | .holdExpiry _ | .podTetherAcceptAny _ | .referenceFallback _ | .podPowerUp _
  | .podPowerDown _ | .debounceChange _ | .edgeCapture _ _ _ | .openVerdict _ _ | .overloadTrip _ | .shortTrip _
  | .overtempTrip _ _ | .podIlimTrip _ _ | .protectionRetry _ | .protectionClear _ | .mismatchVerdict _ _
  | .offStateShortVerdict _ _ | .levelChangeDeferred _ | .conversionResult _ _ | .readbackResult _ _
  | .triggeredConversionEnd _ _ | .urgentConversionEnd _ _ | .modulatorPowerDown _ | .modulatorStartUpEnd _
  | .loopBreakTrip _ _ | .loopBreakConfirm _ | .loopBreakRelease _ _ | .selfCalPhaseEnd _ | .selfCalEnd _ _ _ _ _ _ _ _ _
  | .diagInputMeasurement _ _ | .loopOvertemp _ _ | .verifyOpenLoop _ | .verifyCompliance _ | .verifyClear _ _
  | .supplyVerdict _ _ | .almChange _ _ | .powerFailWarning | .powerFailClear | .extest _ _ | .intest _ _ | .idcode _
  | .samplePreload _ _ | .bypass _ _ | .fskTransmitEnd _ | .loopOvertempFlagClear _ | .loopOverloadVerdict _ _
  | .calTempDeparture _ _ | .usbVbusChange _ | .podRequestUrgent _ _ _ | .podRequestTrigger _ _ _
  | .podRequestSelfCal _ _ _ | .vbatRise | .holdUpSpent | .csfLaunch | .ropeCmdRopeReset _ => true
  | _ => false

/-- A controller runs and is not in reset. -/
def State.runs (s : State) (x : Side) : Bool := (s.ctrl x).running && !(s.ctrl x).inReset

/-! ## The arbiter (R361, R362, R366) -/

/-- The tether word says what the arbiter's state says: GRANT to the holder in HELD_A and HELD_B, and NONE otherwise. -/
def Arbiter.agrees (a : Arbiter) : Bool :=
  (match a.st with
    | .held x => a.kind == 1 && a.side == x
    | _ => a.kind == 0) && decide (a.renew < 16)

end Sys2Proof.Machine
end

