-- ==== Sys2Proof/Certificates/Slice0/Obligations.lean ====
section
/-! DEFINITION. The statements for the provers, from the rules of the spec: that every command completes and with what effect, what
commands leave alone, and what every step keeps. -/

open Sys2Proof Sys2Proof.Machine

/-- The queue's rule (log entry 1): a step takes the command at the front of the queue and is exec of it on the state with the queue's
rest; with an empty queue the block idles. -/
def Obligations.StepRunsTheFrontCommand : Prop :=
  ∀ (s : State),
    (∀ (c : Instr) (rest : List Instr), s.pending = c :: rest → step s = exec c (s.withQueue rest)) ∧
    (s.pending = [] → step s = .next s)

/-- What module reset leaves (R2, R8, R43, R174, R262, R305, R361, R366): BOOT, both controllers in reset, the arbiter in START with
`T_KIND` NONE, no pod with power or configuration, no session, no defined duty, every digital pin and loop channel unconfigured, every
trim and fault latch clear, both factory images in their slots and nothing in the queue. Where the spec gives no value the value is the
model's (log entries 5 to 11). -/
def Obligations.ResetState : Prop :=
  let s := State.reset
  s.pending = [] ∧ s.now = 0 ∧ s.supply = true ∧ s.startHold = true ∧
  s.arb.st = .start ∧ s.arb.kind = 0 ∧ s.arb.renew = 0 ∧ s.arb.steer = none ∧
  (∀ x, (s.ctrl x).inReset = true ∧ (s.ctrl x).running = false ∧ (s.ctrl x).mode = .boot ∧ (s.ctrl x).resetCause = 0 ∧
    (s.ctrl x).image = [] ∧ (s.ctrl x).duties = [] ∧ (s.ctrl x).sessions = [] ∧ (s.ctrl x).flights = [] ∧
    (s.ctrl x).faults.episode.isOpen = false ∧ (s.ctrl x).lock = false ∧ (s.ctrl x).dogsOff = false ∧ (s.ctrl x).arm = none ∧
    (s.ctrl x).sram = [] ∧ (s.ctrl x).nor = [] ∧ (s.ctrl x).slot0.state = 4 ∧ (s.ctrl x).slot1.state = 5 ∧
    (s.ctrl x).running1 = false ∧ (s.ctrl x).rope.role = 3 ∧ (s.ctrl x).rope.bypass = true ∧ (s.ctrl x).update.op = 0 ∧
    (s.ctrl x).dbg.st = 0 ∧ (s.ctrl x).as0.st = .noSignal ∧ (s.ctrl x).as1.st = .noSignal ∧ (s.ctrl x).as2.st = .noSignal ∧
    (s.ctrl x).as3.st = .locked) ∧
  (∀ l, (s.pod l).powered = false ∧ ((s.pod l).rxA).st = .hunt ∧ ((s.pod l).rxB).st = .hunt) ∧
  (∀ ch, (s.dig ch).configured = false ∧ (s.loop ch).configured = false) ∧
  s.attached = false ∧ s.active = none

/-- Every command leaves the rest of the queue as it is, and no command changes the straps (R382, R397: they are read at reset only). -/
def Obligations.StepKeepsQueueAndStraps : Prop :=
  (∀ (i : Instr) (s t : State), exec i s = .next t →
    t.pending = s.pending ∧ t.knotId = s.knotId ∧ t.compat = s.compat ∧ t.safeBoot = s.safeBoot) ∧
  (∀ (s t : State), step s = .next t →
    t.pending = s.pending.tail ∧ t.knotId = s.knotId ∧ t.compat = s.compat ∧ t.safeBoot = s.safeBoot)

/-- At reset the arbiter's state and its tether word agree. -/
def Obligations.ArbiterAgreesAtReset : Prop := State.reset.arb.agrees = true

/-- R361, R362, R366: from every state in which they agree, every step leaves a state in which the arbiter's state and its tether word
agree: `T_KIND` is GRANT and `T_SIDE` the holder in HELD_A and HELD_B, `T_KIND` is NONE in START and VACANT, and `T_RENEW` is below 16. -/
def Obligations.ArbiterStaysInAgreement : Prop :=
  ∀ (s t : State), s.arb.agrees = true → step s = .next t → t.arb.agrees = true

/-- R136, R165, R294, R300, R310, R314, R324, R427, R442, R444, R451, R469: an admitted request that is not journalled is answered as soon
as its reply is formed, with the status and the words of its own chapter: CFG_READ, DUTY_QUERY, PLACEMENT_QUERY, JOURNAL_READ,
FAULT_READ, ROPE_STATUS, KEEP_READ, CRC_OPEN, CRC_FEED, CRC_GET, CRC_PUT, SAMPLE_READ LATEST once its checks answer OK, and the answers
to watchdogs. -/
def Obligations.RequestsWithoutEntryAnswer : Prop :=
  ∀ (s : State) (x : Side) (q : Req) (p : List Word),
    (s.admits x 0x10 q p = true →
      let u := s.entered x 0x10 q p
      exec (.cfgRead q p) s = .next (State.answered (u, answerCfgRead x p u) x q)) ∧
    (s.admits x 0x23 q p = true →
      let u := s.entered x 0x23 q p
      exec (.dutyQuery q p) s = .next (State.answered (u, answerDutyQuery p (u.ctrl x)) x q)) ∧
    (s.admits x 0x24 q p = true →
      let u := s.entered x 0x24 q p
      exec (.placementQuery q p) s = .next (State.answered (u, answerPlacementQuery p (u.ctrl x)) x q)) ∧
    (s.admits x 0x41 q p = true →
      let u := s.entered x 0x41 q p
      exec (.journalRead q p) s = .next (State.answered (u, answerJournalRead p (u.ctrl x)) x q)) ∧
    (s.admits x 0x50 q p = true →
      let u := s.entered x 0x50 q p
      exec (.faultRead q p) s = .next (State.answered (u, answerFaultRead x p u) x q)) ∧
    (s.admits x 0x78 q p = true →
      let u := s.entered x 0x78 q p
      exec (.ropeStatus q p) s = .next (State.answered (answerRopeStatus p x u) x q)) ∧
    (s.admits x 0x60 q p = true →
      let u := s.entered x 0x60 q p
      exec (.keepRead q p) s = .next (State.answered (answerKeepRead p (u.ctrl x) u) x q)) ∧
    (s.admits x 0x68 q p = true →
      let u := s.entered x 0x68 q p
      let r := answerCrcOpen q p (u.ctrl x)
      exec (.crcOpen q p) s = .next (State.answered (u.setCtrl x r.1, r.2) x q)) ∧
    (s.admits x 0x69 q p = true →
      let u := s.entered x 0x69 q p
      let r := answerCrcFeed q p (u.ctrl x)
      exec (.crcFeed q p) s = .next (State.answered (u.setCtrl x r.1, r.2) x q)) ∧
    (s.admits x 0x6A q p = true →
      let u := s.entered x 0x6A q p
      exec (.crcGet q p) s = .next (State.answered (u, answerCrcGet q p (u.ctrl x)) x q)) ∧
    (s.admits x 0x6B q p = true →
      let u := s.entered x 0x6B q p
      let r := answerCrcPut x q p u
      exec (.crcPut q p) s = .next (r.1.replied x q r.2 [])) ∧
    (s.admits x 0x30 q p = true → journalled 0x30 p = false →
      let u := s.entered x 0x30 q p
      checkSample p (u.ctrl x) = stOk →
      let r := answerLatest p (u.ctrl x) u
      exec (.sampleReadLatest q p) s = .next ((u.setCtrl x r.1).replied x q stOk r.2)) ∧
    (s.admits x 0x53 q p = true →
      exec (.wdogAnswer q p) s = .next (State.answered (answerWdog x q p (s.entered x 0x53 q p)) x q)) ∧
    (s.admits x 0x54 q p = true →
      exec (.hostWdogAnswer q p) s = .next (State.answered (answerHostWdog x q p (s.entered x 0x54 q p)) x q)) ∧
    (s.admits x 0x53 q p = true →
      exec (.wdogPoll false q p) s = .next (State.answered (answerWdog x q p (s.entered x 0x53 q p)) x q)) ∧
    (s.admits x 0x54 q p = true →
      exec (.wdogPoll true q p) s = .next (State.answered (answerHostWdog x q p (s.entered x 0x54 q p)) x q))

/-- R49, R247, R254, R286, R305, R306, R307, R311, R314, R316, R317: an accepted SESSION_OPEN, SESSION_RESUME, SESSION_CLOSE, OUTPUT_SET,
TEST_DRIVE or CAL_START has its entry, its effect and its reply; CONVERT and URGENT of SAMPLE_READ are answered when their records are
there, and MODE_REQUEST when its mode stands. -/
def Obligations.SessionAndOutputRequestsRun : Prop :=
  ∀ (s : State) (x : Side) (q : Req) (p : List Word),
    (s.accepts x 0x01 q p = true →
      exec (.sessionOpen q p) s = .next (State.settled ((effectSessionOpen x q p (s.begun x 0x01 q p)).1, some (effectSessionOpen x q p (s.begun x 0x01 q p)).2) x q)) ∧
    (s.accepts x 0x02 q p = true →
      let r := effectSessionResume x q (((s.entered x 0x02 q p).ctrl x).session q.session).lastEntry (s.begun x 0x02 q p)
      exec (.sessionResume q p) s = .next (State.settled (r.1, some r.2) x q)) ∧
    (s.accepts x 0x03 q p = true →
      exec (.sessionClose q p) s = .next ((s.begun x 0x03 q p).replied x q stOk [])) ∧
    (s.accepts x 0x31 q p = true →
      exec (.outputSet q p) s = .next ((effectOutputSet x p (s.begun x 0x31 q p)).replied x q stOk [])) ∧
    (s.accepts x 0x32 q p = true →
      exec (.testDrive q p) s = .next ((effectTestDrive x q p (s.begun x 0x32 q p)).replied x q stOk [])) ∧
    (s.accepts x 0x32 q p = true →
      exec (.testDriveEnd q p) s = .next ((effectTestDrive x q p (s.begun x 0x32 q p)).replied x q stOk [])) ∧
    (s.accepts x 0x38 q p = true →
      exec (.calStart q p) s = .next ((effectCalStart x q p (s.begun x 0x38 q p)).replied x q stOk [])) ∧
    (s.accepts x 0x30 q p = true →
      exec (.sampleReadConvert q p) s = .next ((effectSample x q p (s.begun x 0x30 q p)).syncTags x)) ∧
    (s.accepts x 0x30 q p = true →
      exec (.sampleReadUrgent q p) s = .next ((effectSample x q p (s.begun x 0x30 q p)).syncTags x)) ∧
    (s.accepts x 0x12 q p = true →
      exec (.modeRequest q p) s = .next (State.settled (effectModeRequest x q p (s.begun x 0x12 q p)) x q))

/-- R92, R132, R133, R134, R175, R206, R233, R337, R357, R420, R441, R455: an accepted CFG_WRITE of any item (channels, conversions,
`ANGLE_CFG`, `START_MODE`, `WDOG_CFG`, `HOST_WDOG_CFG`, `FAULT_CFG` and an injection, `ROPE_CFG` and `RESET_REQ`, `PORT_CFG`,
`SPI_WINDOW`), and an accepted DUTY_DEFINE, DUTY_START or DUTY_STOP, has its entry, its effect and its reply. -/
def Obligations.ConfigurationAndDutyRequestsRun : Prop :=
  ∀ (s : State) (x : Side) (q : Req) (p : List Word),
    (s.accepts x 0x11 q p = true →
      let t := State.settled (effectCfgWrite x q p (s.begun x 0x11 q p)) x q
      exec (.cfgWriteDigitalChannel q p) s = .next t ∧
      exec (.cfgWriteLoopChannel q p) s = .next t ∧
      exec (.cfgWriteConversion q p) s = .next t ∧
      exec (.cfgWriteAngleCfg q p) s = .next t ∧
      exec (.cfgWriteStartMode q p) s = .next t ∧
      exec (.cfgWriteWdogCfg q p) s = .next t ∧
      exec (.cfgWriteHostWdogCfg q p) s = .next t ∧
      exec (.cfgWriteFaultCfg q p) s = .next t ∧
      exec (.injectionStart q p) s = .next t ∧
      exec (.cfgWriteRopeCfg q p) s = .next t ∧
      exec (.ropeResetRequest q p) s = .next t ∧
      exec (.cfgWritePortCfg q p) s = .next t ∧
      exec (.cfgWriteSpiWindow q p) s = .next t) ∧
    (s.accepts x 0x20 q p = true →
      exec (.dutyDefine q p) s = .next ((effectDutyDefine x q p (s.begun x 0x20 q p)).replied x q stOk [])) ∧
    (s.accepts x 0x21 q p = true →
      exec (.dutyStart q p) s = .next ((effectDutyStart x q p (s.begun x 0x21 q p)).replied x q stOk [])) ∧
    (s.accepts x 0x22 q p = true →
      exec (.dutyStop q p) s = .next ((effectDutyStop x q p (s.begun x 0x22 q p)).replied x q stOk []))

/-- R217, R218, R219, R224, R302, R438, R450, R452, R470: an accepted TRIM_ARM arms, measures, commits, cancels or resets, with its reply; a
capture it starts is answered at its end, or at once when the channel is armed for output. An accepted FSK_SEND, ABORT, FAULT_ACK,
FAULT_PIN_RELEASE or WDOG_KEY is answered at its commit, and KEEP_WRITE at the end of its write group. -/
def Obligations.TrimFaultAndStorageRequestsRun : Prop :=
  ∀ (s : State) (x : Side) (q : Req) (p : List Word),
    (s.accepts x 0x39 q p = true → endOp 0x39 p = false →
      let t := State.settled (effectTrim x q p (s.begun x 0x39 q p)) x q
      exec (.trimArmIn q p) s = .next t ∧
      exec (.trimArmOut q p) s = .next t ∧
      exec (.trimMeasZero q p) s = .next t ∧
      exec (.trimMeasSpan q p) s = .next t ∧
      exec (.trimCommit q p) s = .next t ∧
      exec (.trimCancel q p) s = .next t ∧
      exec (.trimReset q p) s = .next t) ∧
    (s.accepts x 0x39 q p = true → endOp 0x39 p = true →
      ∃ a, ((s.begun x 0x39 q p).ctrl x).arm = some a ∧
        let t := ((s.begun x 0x39 q p).trimAction x q (wordAt p 0) a).1.syncTags x
        exec (.trimCaptureZero q p) s = .next t ∧ exec (.trimCaptureSpan q p) s = .next t) ∧
    (s.accepts x 0x3a q p = true →
      exec (.fskSend q p) s = .next ((effectFskSend x q p (s.begun x 0x3a q p)).replied x q stOk [])) ∧
    (s.accepts x 0x40 q p = true →
      exec (.abort q p) s = .next ((effectAbort x p (s.begun x 0x40 q p)).replied x q stOk [])) ∧
    (s.accepts x 0x51 q p = true →
      exec (.faultAck q p) s = .next (State.settled ((effectFaultAck x (s.begun x 0x51 q p)).1, some (effectFaultAck x (s.begun x 0x51 q p)).2) x q)) ∧
    (s.accepts x 0x52 q p = true →
      exec (.faultPinRelease q p) s = .next ((effectPinRelease x (s.begun x 0x52 q p)).replied x q stOk [])) ∧
    (s.accepts x 0x55 q p = true →
      exec (.wdogKey q p) s = .next ((effectWdogKey x q (s.begun x 0x55 q p)).replied x q stOk [])) ∧
    (s.accepts x 0x61 q p = true →
      exec (.keepWrite q p) s = .next (State.ended (effectKeepWrite x q p (s.begun x 0x61 q p)) x q))

/-- R387, R388, R389, R395, R396, R419, R425: an accepted FW_STAGE, FW_SWAP, FW_ROLLBACK, SNAPSHOT or SLEEP_PROPOSE begins at its commit; it
is answered at its end. -/
def Obligations.UpdateAndRopeRequestsRun : Prop :=
  ∀ (s : State) (x : Side) (q : Req) (p : List Word),
    (s.accepts x 0x70 q p = true →
      let t := (effectFwStage x q p (s.begun x 0x70 q p)).syncTags x
      exec (.fwStageBegin q p) s = .next t ∧
      exec (.fwStageData q p) s = .next t ∧
      exec (.fwStageEnd q p) s = .next t ∧
      exec (.fwStageDiscard q p) s = .next t) ∧
    (s.accepts x 0x71 q p = true →
      exec (.fwSwap q p) s = .next ((effectFwSwap x q p (s.begun x 0x71 q p)).syncTags x)) ∧
    (s.accepts x 0x72 q p = true →
      exec (.fwRollback q p) s = .next ((effectFwRollback x q (s.begun x 0x72 q p)).syncTags x)) ∧
    (s.accepts x 0x79 q p = true →
      exec (.snapshot q p) s = .next ((effectSnapshot x q p (s.begun x 0x79 q p)).syncTags x)) ∧
    (s.accepts x 0x7a q p = true →
      exec (.sleepPropose q p) s = .next ((effectSleepPropose x q p (s.begun x 0x7a q p)).syncTags x))

/-- R295, R296: at LOGLINE_COMMIT the ACTIVE controller commits the oldest waiting message: its REQUEST entry stands with the status its
checks give, and an accepted message takes effect. -/
def Obligations.LoglineCommitRuns : Prop :=
  ∀ (s : State) (x : Side) (op : Nat) (q : Req) (p : List Word) (rest : List (Nat × Req × List Word)),
    s.active = some x → (s.ctrl x).waiting = (op, q, p) :: rest → (s.ctrl x).commitsOp op = true →
    let u := s.setCtrl x { s.ctrl x with waiting := rest }
    u.stale x = false →
    (u.commitStatus x op q p = stOk → (u.ctrl x).undefinedCase op q p = none →
      exec .loglineCommit s = .next (u.commitNow x op q p)) ∧
    (u.commitStatus x op q p ≠ stOk →
      exec .loglineCommit s = .next (((u.journalReq x q op 0 (u.commitStatus x op q p) q.crc).modCtrl x fun c =>
        c.modFlight q.tag fun f => { f with committed := true }).refuseMessage x op q p (u.commitStatus x op q p) |>.syncTags x))

/-- R359, R360, R364, R365: a controller whose line speaks sends its heartbeat word and counts it; the arbiter takes a valid word, declares
a silent controller failed, and pulses the reset of one that stays silent. -/
def Obligations.HeartbeatCommandsRun : Prop :=
  ∀ (s : State) (x : Side) (w : BitVec 64),
    (s.beats x = true →
      exec (.heartbeatSend x) s = .next ((s.emit (.heartbeat x (s.heartbeat x))).modCtrl x fun c =>
        { c with hbCount := (c.hbCount + 1) % 256, lastEpoch := s.epochRead c })) ∧
    (s.supply = true → (s.arb.beat x).accepts x s.now w = true →
      exec (.heartbeatReceive x w) s = .next { s with arb := s.arb.setBeat x ((s.arb.beat x).take s.now w) }) ∧
    (s.supply = true → (s.arb.beat x).accepts x s.now w = false → exec (.heartbeatReceive x w) s = .next s) ∧
    (s.supply = true → (s.arb.beat x).silent s.now = true →
      exec (.controllerFailed x) s = .next { s with arb := s.arb.setBeat x { s.arb.beat x with failed := true, okAt := none } }) ∧
    (s.supply = true → (s.arb.beat x).last = none → (s.arb.beat x).pulseAt = none → (s.arb.beat x).silentAt + ms 100 ≤ s.now →
      exec (.arbiterResetPulse x) s = .next
        (({ s with arb := s.arb.setBeat x { s.arb.beat x with pulseAt := some s.now } }.restart x 3).tendStaging)) ∧
    (∀ t, s.supply = true → (s.arb.beat x).pulseAt = none → (s.arb.beat x).last = some t → t + ms 100 ≤ s.now →
      exec (.arbiterResetPulse x) s = .next
        (({ s with arb := s.arb.setBeat x { s.arb.beat x with pulseAt := some s.now } }.restart x 3).tendStaging)) ∧
    (∀ t, s.supply = true → (s.arb.beat x).pulseAt = some t → t + ms 10000 ≤ s.now →
      exec (.arbiterResetPulse x) s = .next
        (({ s with arb := s.arb.setBeat x { s.arb.beat x with pulseAt := some s.now } }.restart x 3).tendStaging)) ∧
    ((s.ctrl x).isActive = true → s.compat = false → s.arb.kind = 1 → s.arb.side = x → s.arb.renewAt + ms 10 ≤ s.now →
      exec (.arbiterRenewWatch x) s = .next (s.raise x srcArbiter false))

/-- R361, R362, R363: the grant that is due gives the arbiter HELD, `T_KIND` GRANT, the side of the new holder, the next epoch and `T_RENEW`
0; a renewal counts `T_RENEW` modulo 16 and restarts the lease; at the end of the lease `T_KIND` becomes NONE, the epoch stays, and the
state is VACANT. -/
def Obligations.TetherCommandsRun : Prop :=
  ∀ (s : State),
    (∀ (y : Side) (why : Nat), s.grantDue = some (y, why) → ∃ t, exec .tetherGrant s = .next t ∧
      t.arb.st = .held y ∧ t.arb.kind = 1 ∧ t.arb.side = y ∧ t.arb.renew = 0 ∧ t.arb.epoch = s.arb.nextEpoch ∧
      t.arb.renewAt = s.now ∧ t.arb.steer = some y) ∧
    (s.grantDue = none → exec .tetherGrant s = .next s) ∧
    (∀ (x : Side), s.supply = true → s.compat = false → s.arb.st = .held x → s.grantDue = none → s.now < s.arb.renewAt + ms 20 →
      s.arb.renewAt + ms 5 ≤ s.now → (s.arb.beat x).failed = false → (s.arb.beat x).silent s.now = false →
      (s.arb.beat x).failReq = false → (s.arb.beat x).imageOk = true →
      exec .tetherRenewal s = .next { s with arb := { s.arb with renew := (s.arb.renew + 1) % 16, renewAt := s.now } }) ∧
    (∀ (x : Side), s.arb.st = .held x → s.arb.renewAt + ms 20 ≤ s.now →
      exec .arbiterLeaseEnd s = .next { s with arb := { s.arb with st := .vacant, since := s.now, kind := 0 } }) ∧
    (s.supply = true → ∃ t, exec .arbiterStart s = .next t ∧ t.arb.st = .start ∧ t.arb.kind = 0 ∧ t.arb.since = s.now ∧
      t.arb.restarted = s.firstGrant)

/-- R378, R382, R384, R385: a controller that may take over does; one that leaves reset boots the slot of R385, or finds no image and stays
in reset. -/
def Obligations.TakeoverAndBootRun : Prop :=
  ∀ (s : State) (x : Side),
    (s.mayTake x = true → exec (.takeover x) s = .next (s.takeOver x)) ∧
    (s.compat = true → (s.ctrl x).running = true → (s.ctrl x).inReset = false → (s.ctrl x).dbg.st ≠ 1 →
      (s.ctrl x).role ≠ .active → (s.ctrl x).spliceUp = false → (s.ctrl x).spliceAt + ms 2 ≤ s.now →
      exec (.compatSpliceTakeover x) s = .next ((s.modCtrl x fun c => { c with granted := true }).takeOver x)) ∧
    (∀ (ok0 ok1 logOk one : Bool), s.supply = true → (s.ctrl x).inReset = true → (s.ctrl x).update.op < 2 →
      bootSlot s.safeBoot (s.ctrl x) (fun b => if b then ok1 else ok0) = some one →
      exec (.controllerBoot x ok0 ok1 logOk) s = .next (s.started x one logOk)) ∧
    (∀ (ok0 ok1 logOk : Bool), s.supply = true → (s.ctrl x).inReset = true → (s.ctrl x).update.op < 2 →
      bootSlot s.safeBoot (s.ctrl x) (fun b => if b then ok1 else ok0) = none →
      exec (.controllerBoot x ok0 ok1 logOk) s = .next (s.modCtrl x fun c => { c with noImage := true }))

/-- R370, R373, R374, R380: the splice, the mirrored data set and the copy of a controller that resynchronises. -/
def Obligations.SpliceCommandsRun : Prop :=
  ∀ (s : State) (x : Side),
    (s.active = some x → s.isStandby x.other = true → (s.ctrl x).injects 4 0 = false →
      exec (.mirrorUpdate .image) s = .next (s.syncImage x) ∧
      (∀ n, exec (.mirrorUpdate (.dutyTable n)) s = .next (s.syncDuty x n)) ∧
      (∀ n, exec (.mirrorUpdate (.stageState n)) s = .next (s.syncDuty x n)) ∧
      exec (.mirrorUpdate .sessions) s = .next (s.syncTags x) ∧
      exec (.mirrorUpdate .tags) s = .next (s.syncTags x) ∧
      exec (.mirrorUpdate .logline) s = .next (s.syncLogline x) ∧
      exec (.mirrorUpdate .keepQueue) s = .next s ∧
      exec (.mirrorUpdate .tracker) s = .next (s.syncTracker x) ∧
      exec (.mirrorUpdate .episode) s = .next (s.syncEpisode x)) ∧
    ((s.ctrl x).running = true → (s.ctrl x).inReset = false → ((s.ctrl x).role = .standby ∨ (s.ctrl x).role = .syncing) →
      exec (.spliceWordBad x) s = .next (s.cutOff x (s.ctrl x).spliceUp)) ∧
    ((s.ctrl x).running = true → (s.ctrl x).inReset = false → (s.ctrl x).spliceUp = true →
      exec (.spliceLost x) s = .next (s.cutOff x false)) ∧
    ((s.ctrl x).running = true → (s.ctrl x).inReset = false → (s.ctrl x).role = .isolated → (s.ctrl x).dbg.st ≠ 1 →
      (s.ctrl x).spliceAt + ms 10 ≤ s.now →
      exec (.spliceRestored x) s = .next ((s.modCtrl x fun c =>
        { c with spliceUp := true, granted := c.granted && !s.compat }).takeRole x .syncing 7)) ∧
    (∀ (y : Side), s.active = some y → y = x.other → (s.ctrl x).running = true → (s.ctrl x).inReset = false →
      (s.ctrl x).role = .syncing → (s.ctrl x).spliceUp = true → (s.ctrl y).spliceUp = true → (s.ctrl y).mode ≠ .boot →
      (s.ctrl y).mode ≠ .dormant → (s.ctrl x).imageOk = true →
      exec (.bulkCopyComplete x) s = .next (s.bulkCopy y))

/-- R8, R492: the supply starts the module in BOOT, warns, recovers, and ends it; the straps stay as read. -/
def Obligations.SupplyCommandsRun : Prop :=
  ∀ (s : State),
    (s.supply = false → exec .vbatRise s = .next ({ s with supply := true, powerFail := false }.resetModule 0)) ∧
    (s.supply = true → exec .vbatRise s = .next s) ∧
    (s.supply = true → exec .powerFailWarning s = .next { s with powerFail := true }) ∧
    (s.powerFail = true → exec .powerFailClear s =
      .next (({ s with powerFail := false }.modCtrl .a Ctrl.beginGroups).modCtrl .b Ctrl.beginGroups)) ∧
    (s.supply = true → exec .holdUpSpent s = .next ({ s with supply := false, powerFail := false }.resetModule 0)) ∧
    (s.supply = false → exec .holdUpSpent s = .next s)

/-- R301, R430, R431, R436, R438, R440, R445, R446, R447, R448, R449: the watchdogs, the raises, the reaction timer, the pin and the resets
that follow a raise. -/
def Obligations.WatchdogAndFaultCommandsRun : Prop :=
  ∀ (s : State) (x : Side),
    ((s.ctrl x).dog.over s.now = true → (s.ctrl x).inReset = false →
      exec (.wdogWindowClose (.supervisor x)) s = .next (s.closeDog x)) ∧
    (∀ i, s.active = some x → ((s.ctrl x).hostDog i).state = 1 → ((s.ctrl x).hostDog i).dog.over s.now = true →
      exec (.wdogWindowClose (.host i)) s = .next (s.closeHostDog x i)) ∧
    (∀ (token : BitVec 32), (s.ctrl x).dog.st = 0 → (s.ctrl x).hostServed = false → (s.ctrl x).inReset = false →
      exec (.wdogCoreAnswer x token) s = .next (if (s.answerDog x none token.toNat).1 = 0 then
        (s.answerDog x none token.toNat).2.eraseNext x else (s.answerDog x none token.toNat).2)) ∧
    (∀ a, s.active = some x → (s.ctrl x).keyArm = some a → a.2 ≤ s.now →
      exec .wdogKeyArmExpiry s = .next (s.setCtrl x { s.ctrl x with keyArm := none })) ∧
    exec (.wdogClockTrip x) s = .next (s.raise x srcClock false) ∧
    ((s.ctrl x).dog.st = 2 → (s.ctrl x).dog.suspendAt + ms 4000 ≤ s.now →
      exec (.suspensionTimeout x) s = .next (s.endSuspension x)) ∧
    ((s.ctrl x).hbSilent = true → (s.ctrl x).inReset = false →
      exec (.watchdogReset x) s = .next ((s.restart x 1).tendStaging)) ∧
    (∀ source injected, exec (.faultRaise x source injected) s = .next (s.raise x source injected)) ∧
    (s.active = some x → (s.ctrl x).reactOver s.now = true →
      exec .reactionTimerExpiry s = .next ((s.escalate x).endCalibrate x)) ∧
    (s.active = some x → (s.ctrl x).faults.pinMin = true → (s.ctrl x).faults.pinAt + ms 10 ≤ s.now →
      exec .faultPinMinHold s =
        .next (s.setCtrl x { s.ctrl x with faults := { (s.ctrl x).faults with pinMin := false } }.autoPin)) ∧
    (s.firstGrant = true → (s.ctrl x).running = true → (s.ctrl x).inReset = false → (s.ctrl x).role ≠ .active →
      (s.ctrl x).faults.latched ≠ [] → (s.ctrl x).dbg.st ≠ 1 → (s.ctrl x).hbSilent = false →
      exec (.partnerFaultReset x) s = .next ((s.restart x 2).tendStaging)) ∧
    (∀ source, (s.ctrl x).isActive = true → 12 ≤ source → (s.ctrl x).faults.conds.contains source = true →
      (s.ctrl x).faults.episode.isOpen = false → (s.ctrl x).faults.episode.closedAt + ms 100 ≤ s.now →
      exec (.conditionReraise x source) s = .next (s.raise x source false)) ∧
    (∀ readAt, (s.ctrl x).running = true → (s.ctrl x).inReset = false →
      exec (.loglineFailure x readAt) s = .next (s.loglineFails x readAt false))

/-- R482, R483, R484, R485, R488: the debug commands act on a controller in the modes and roles the rules give them; the arbiter refuses
each. -/
def Obligations.DebugCommandsRun : Prop :=
  ∀ (s : State), s.supply = true →
    (exec (.holdOut .arbiter) s = .next (s.dieRefuses .arbiter) ∧ exec (.yieldHalt .arbiter) s = .next (s.dieRefuses .arbiter) ∧
      exec (.haltInPlace .arbiter) s = .next (s.dieRefuses .arbiter) ∧ exec (.resume .arbiter) s = .next (s.dieRefuses .arbiter) ∧
      exec (.releaseDebug .arbiter) s = .next (s.dieRefuses .arbiter) ∧
      exec (.resetDie .arbiter) s = .next (s.dieRefuses .arbiter)) ∧
    ∀ (x : Side),
      (holdModes.contains (s.ctrl x).mode = true → s.holder ≠ some x → ∃ t, exec (.holdOut (.ctrl x)) s = .next t ∧
        (t.ctrl x).dbg.st = 1 ∧ (t.ctrl x).role = .isolated ∧ (t.ctrl x).dog.st = 3 ∧ (t.ctrl x).mirrorOk = false) ∧
      (yieldModes.contains (s.ctrl x).mode = true → s.holder = some x → s.isStandby x.other = true →
        (s.ctrl x.other).mirrorOk = true →
        exec (.yieldHalt (.ctrl x)) s = .next ((s.modCtrl x fun c =>
          { c.modDebug fun g => { g with st := 2, since := s.now } with pausing := true }).dieDone (.ctrl x))) ∧
      ((s.ctrl x).mode = .maintain → s.holder = some x → (s.ctrl x).dogsOff = true → (s.ctrl x).faults.episode.isOpen = false →
        ((s.ctrl x).hostDogs.any fun p => p.2.state == 1) = false →
        exec (.haltInPlace (.ctrl x)) s = .next ((s.setCtrl x
          { (s.ctrl x).modDebug fun g => { g with st := 3, halted := true, since := s.now } with imageOk := true }).dieDone (.ctrl x))) ∧
      ((s.ctrl x).dbg.st = 3 → (s.ctrl x).dbg.held = [] →
        exec (.resume (.ctrl x)) s = .next ((s.setCtrl x ((s.ctrl x).resumeEngines.modDebug fun g =>
          { g with st := 0, halted := false, held := [] })).dieDone (.ctrl x))) ∧
      ((s.ctrl x).dbg.st = 1 → (s.ctrl x).dbg.latched = true →
        exec (.releaseDebug (.ctrl x)) s = .next ((s.restart x 4).dieDone (.ctrl x))) ∧
      ((s.ctrl x).mode ≠ .dormant → (s.holder ≠ some x ∨ (s.ctrl x).mode = .maintain) →
        exec (.resetDie (.ctrl x)) s = .next (((s.restart x 4).tendStaging).dieDone (.ctrl x))) ∧
      ((s.ctrl x).dbg.st = 2 → (s.ctrl x).dbg.since + ms 20 ≤ s.now → s.holder = some x →
        exec (.yieldHaltTimeout x) s = .next (s.setCtrl x
          { ((s.ctrl x).modDebug fun g => { g with st := 0, refuse := 7 }).unpause with yieldSet := false }))

/-- R475, R476, R477, R478, R480, R486, R487: writes over the Fyvail port, stepping, breakpoints, and the JTAG instructions. -/
def Obligations.DebugAccessRuns : Prop :=
  ∀ (s : State) (d : Die) (x : Side) (addr at_ scan : Nat) (data : BitVec 32),
    exec .fyvailTransactionAbandon s = .next s ∧
    (s.supply = true → Config.sramAddress addr = some at_ → at_ + 4 ≤ sramSize → (s.ctrl x).dbg.stopped = true →
      exec (.fyvailMemoryWrite (.ctrl x) addr data) s = .next ((s.modCtrl x fun c =>
        { c with sram := memStore sramEmpty c.sram at_ (fourBytes data) }).dieDone (.ctrl x))) ∧
    (s.supply = true → (s.ctrl x).dbg.stopped = false →
      exec (.fyvailMemoryWrite (.ctrl x) addr data) s = .next (s.dieRefuses (.ctrl x))) ∧
    (s.supply = true → (s.ctrl x).dbg.stopped = true →
      exec (.fyvailWrite (.ctrl x) 1 addr data) s = .next (s.debugCore x addr data)) ∧
    (s.supply = true → exec (.fyvailWrite (.ctrl x) 2 addr data) s = .next (s.debugEngine x addr data)) ∧
    (s.supply = true → exec (.fyvailWrite (.ctrl x) 3 addr data) s = .next (s.debugMemory x addr data)) ∧
    (s.supply = true → data.toNat / 2 ^ 28 = 0 → exec (.fyvailWrite (.ctrl x) 0 0 data) s = .next (s.dieDone (.ctrl x))) ∧
    (s.supply = true → exec (.fyvailWrite .arbiter at_ addr data) s = .next (s.dieRefuses .arbiter)) ∧
    ((s.ctrl x).dbg.stopped = true → ∃ t, exec (.coreStep x) s = .next t ∧ (t.ctrl x).dbg.halted = true ∧
      (t.ctrl x).dbg.corePc = Config.freeValue s.free ∧ t.wire = .fyvail (.ctrl x) dstatDone :: s.wire) ∧
    ((s.ctrl x).dbg.stopped = true →
      exec (.coreBreakpointHit x) s = .next (s.modCtrl x fun c => c.modDebug fun g => { g with halted := true })) ∧
    (s.supply = true → s.boundaryTest = true →
      exec (.extest d scan) s = .next (((s.capture d).loadScan d scan).setTest d 1) ∧
      exec (.intest d scan) s = .next (((s.capture d).loadScan d scan).setTest d 2)) ∧
    (s.supply = true → s.boundaryTest = false →
      exec (.extest d scan) s = .next ((s.emit (.jtag d scan)).setTest d 0) ∧
      exec (.intest d scan) s = .next ((s.emit (.jtag d scan)).setTest d 0)) ∧
    (s.supply = true → exec (.idcode d) s = .next ((s.emit (.jtag d (Config.idcode d).toNat)).setTest d 0)) ∧
    (s.supply = true → exec (.samplePreload d scan) s = .next (((s.capture d).loadScan d scan).setTest d 0)) ∧
    (s.supply = true → ∀ bit, exec (.bypass d bit) s = .next ((s.emit (.jtag d (b2n bit))).setTest d 0))

/-- R25, R283, R291, R342, R349, R350, R352, R354: a whole message whose framing, `CRC` and reserved bits are good and which is served to
its end has its request's effect, whichever way it came: relayed between controllers, as the last word of the Frame port, as a datagram
or as its only fragment, or as a transfer over USB. -/
def Obligations.IntactMessagesRun : Prop :=
  ∀ (s : State) (x y : Side) (ip udp : Nat) (h : Word) (p : List Word),
    (intact (ethPort y) h p = true → s.completes x (fld h 119 112) (headerReq (ethPort y) ip udp h) p = true →
      exec (.relayedMessage y ip udp h p) s = .next (s.completed x (fld h 119 112) (headerReq (ethPort y) ip udp h) p)) ∧
    (∀ bytes, s.ethUp y = true → (s.ctrl y).portServes (ethPort y) = true → datagramMessages bytes = some [(h, p)] →
      intact (ethPort y) h p = true → s.completes x (fld h 119 112) (headerReq (ethPort y) ip udp h) p = true →
      exec (.udpDatagram y ip udp bytes) s = .next (s.completed x (fld h 119 112) (headerReq (ethPort y) ip udp h) p)) ∧
    (∀ bytes ident, s.ethUp y = true → (s.ctrl y).portServes (ethPort y) = true → datagramMessages bytes = some [(h, p)] →
      (s.ctrl y).ports.reasm = [] → 0 < bytes.length → bytes.length ≤ 8192 → intact (ethPort y) h p = true →
      s.completes x (fld h 119 112) (headerReq (ethPort y) ip udp h) p = true →
      exec (.ipv4Fragment y ip udp ident 0 bytes false) s =
        .next (s.completed x (fld h 119 112) (headerReq (ethPort y) ip udp h) p)) ∧
    (∀ bytes, s.usbUp = true → transferMessage bytes = some (h, p) → intact .usb h p = true →
      s.completes x (fld h 119 112) (headerReq .usb 0 0 h) p = true →
      exec (.ep1OutTransfer bytes) s = .next (s.completed x (fld h 119 112) (headerReq .usb 0 0 h) p)) ∧
    (∀ bytes, s.usbUp = true → 16 ≤ bytes.length → bytes.length ≤ 4096 → transferMessage bytes = some (h, p) →
      intact .usb h p = true → (s.countUsb 3).completes x (fld h 119 112) (headerReq .usb 0 0 h) p = true →
      exec (.message bytes) s = .next ((s.countUsb 3).completed x (fld h 119 112) (headerReq .usb 0 0 h) p)) ∧
    ((∀ z, s.runs z = true → (s.ctrl z).aligned = true) → s.active = some x → intact .frame h [] = true →
      (s.frameBoth fun c => c.dropPartial.setFrame none).completes x (fld h 119 112) (headerReq .frame 0 0 h) [] = true →
      exec (.frameHeaderWord h) s =
        .next ((s.frameBoth fun c => c.dropPartial.setFrame none).completed x (fld h 119 112) (headerReq .frame 0 0 h) [])) ∧
    (∀ w, (∀ z, s.runs z = true → (s.ctrl z).aligned = true ∧ (s.ctrl z).ports.frame = some (h, p)) → s.active = some x →
      intact .frame h (p ++ [w]) = true →
      (s.frameBoth fun c => c.setFrame none).completes x (fld h 119 112) (headerReq .frame 0 0 h) (p ++ [w]) = true →
      exec (.framePayloadWord w) s =
        .next ((s.frameBoth fun c => c.setFrame none).completed x (fld h 119 112) (headerReq .frame 0 0 h) (p ++ [w])))

/-- R341, R342, R343: on the receivers of the controllers that run, a header word with `SYNC` opens a message and discards an open one as
partial, a payload word joins the open message or is counted as an orphan, a bad word is counted and discards the open message, and so
does a gap beyond 1 ms. -/
def Obligations.FrameWordsRun : Prop :=
  ∀ (s : State) (w : Word),
    ((∀ z, s.runs z = true → (s.ctrl z).aligned = true) → fld w 127 120 = 0xB6 → fld w 83 76 ≠ 0 →
      exec (.frameHeaderWord w) s = .next (s.frameBoth fun c => c.dropPartial.setFrame (some (w, [])))) ∧
    ((∀ z, s.runs z = true → (s.ctrl z).aligned = true ∧ (s.ctrl z).ports.frame = none) → fld w 127 120 ≠ 0xB6 →
      exec (.frameHeaderWord w) s = .next (s.frameBoth fun c => c.countPort 0 0)) ∧
    (∀ h p, (∀ z, s.runs z = true → (s.ctrl z).aligned = true ∧ (s.ctrl z).ports.frame = some (h, p)) →
      fld h 83 76 ≠ p.length + 1 →
      exec (.framePayloadWord w) s = .next (s.frameBoth fun c => c.setFrame (some (h, p ++ [w])))) ∧
    ((∀ z, s.runs z = true → (s.ctrl z).aligned = true ∧ (s.ctrl z).ports.frame = none) →
      exec (.framePayloadWord w) s = .next (s.frameBoth fun c => c.countPort 0 2)) ∧
    (exec .frameBadWord s = .next (s.frameBoth fun c =>
      if c.ports.frame.isSome then ((c.countPort 0 1).setFrame none).countPort 0 0 else c.countPort 0 0)) ∧
    (∀ gap, gap ≤ us 990 → exec (.frameMessageGap gap) s = .next s) ∧
    (∀ gap, us 1010 ≤ gap → exec (.frameMessageGap gap) s = .next (s.frameBoth fun c =>
      if c.ports.frame.isSome then (c.countPort 0 1).setFrame none else c)) ∧
    (∀ up, exec (.frameLaneAlignment 0 up) s = .next (s.frameBoth fun c => { c with ports := { c.ports with lane0 := up } })) ∧
    (∀ up, exec (.frameLaneAlignment 1 up) s = .next (s.frameBoth fun c => { c with ports := { c.ports with lane1 := up } }))

/-- R347, R348, R349, R350: a datagram that fails its checks is counted; a fragment joins its reassembly, a ninth is not begun, and one
beyond 8,192 bytes or 10 ms is abandoned and counted; ARP and ICMP are answered for the port's own address. -/
def Obligations.EthernetCommandsRun : Prop :=
  ∀ (s : State) (x : Side) (ip udp ident : Nat) (bytes : List Byte),
    (s.ethUp x = true → (s.ctrl x).portServes (ethPort x) = true → datagramMessages bytes = none →
      exec (.udpDatagram x ip udp bytes) s = .next (s.modCtrl x fun c => c.countPort (portCode (ethPort x)) 0)) ∧
    (s.ethUp x = true → (s.ctrl x).ports.reasm = [] → bytes.length ≤ 8192 →
      exec (.ipv4Fragment x ip udp ident 0 bytes true) s = .next (s.setCtrl x ((s.ctrl x).setReasm
        [{ ident, ip, udp, parts := [(0, bytes)], total := none, started := s.now }]))) ∧
    (∀ r offset more, s.ethUp x = true → (s.ctrl x).ports.reasm = [r] → r.ident = ident → r.ip = ip →
      8192 < offset + bytes.length →
      exec (.ipv4Fragment x ip udp ident offset bytes more) s =
        .next (s.setCtrl x (((s.ctrl x).setReasm []).countPort (portCode (ethPort x)) 1))) ∧
    (∀ offset more, s.ethUp x = true → 8 ≤ (s.ctrl x).ports.reasm.length →
      (∀ r ∈ (s.ctrl x).ports.reasm, r.ident ≠ ident) → exec (.ipv4Fragment x ip udp ident offset bytes more) s = .next s) ∧
    (∀ r, (s.ctrl x).ports.reasm = [r] → r.started + ms 10 ≤ s.now →
      exec (.reassemblyTimeout x r.ident) s =
        .next (s.setCtrl x (((s.ctrl x).setReasm []).countPort (portCode (ethPort x)) 1))) ∧
    (∀ sender, s.ethUp x = true → (s.ctrl x).ownAddress x = ip →
      exec (.arpRequest x ip sender) s = .next (s.emit (.arp x ip sender)) ∧
      exec (.icmpEchoRequest x ip sender bytes) s = .next (s.emit (.icmp x ip sender bytes))) ∧
    (∀ sender, (s.ctrl x).ownAddress x ≠ ip →
      exec (.arpRequest x ip sender) s = .next s ∧ exec (.icmpEchoRequest x ip sender bytes) s = .next s) ∧
    (∀ link, s.runs x = true → speedAllows (fld ((s.ctrl x).portCfg (portCode (ethPort x))) 81 80) link = true →
      exec (.ethernetLinkChange x link) s =
        .next (s.setCtrl x { s.ctrl x with ports := { (s.ctrl x).ports with ethLink := link } }))

/-- R24, R351, R352, R353, R354, R355: a transfer that is no message is discarded and counted; the vendor requests answer from the
controller the port is attached to; suspend, resume, bus reset, attachment and LOCATE. -/
def Obligations.UsbCommandsRun : Prop :=
  ∀ (s : State) (x : Side) (bytes : List Byte),
    (s.usbUp = true → transferMessage bytes = none → exec (.ep1OutTransfer bytes) s = .next (s.countUsb 0)) ∧
    (s.usbUp = true → transferMessage bytes = none → 16 ≤ bytes.length → bytes.length ≤ 4096 →
      exec (.message bytes) s = .next (s.countUsb 0)) ∧
    (s.usbUp = true → exec .usbPacketGap s = .next (s.countUsb 0)) ∧
    (s.usbUp = true → s.arb.steer = some x →
      exec .identity s = .next (s.emit (.usb (s.identityBytes x))) ∧
      exec .counters s = .next (s.emit (.usb ((List.range 4).flatMap fun i =>
        [tget 0 (s.ctrl x).ports.cnt (12 + i) / 256 % 256, tget 0 (s.ctrl x).ports.cnt (12 + i) % 256]))) ∧
      exec (.locate 0) s = .next { s with locate := none } ∧
      (∀ n, 1 ≤ n → n ≤ 600 → exec (.locate n) s = .next { s with locate := some (s.now + ms (1000 * n)) }) ∧
      (∀ n, 600 < n → exec (.locate n) s = .next s)) ∧
    (∀ t, s.locate = some t → t ≤ s.now → exec .locateExpiry s = .next { s with locate := none }) ∧
    (s.attached = true → exec .usbBusReset s = .next { s with usbLink := 1 }) ∧
    (s.usbUp = true → exec .usbSuspend s = .next { s with usbLink := 3 }) ∧
    (s.attached = true → s.usbLink = 3 → exec .usbResume s = .next { s with usbLink := 1 }) ∧
    (∀ t, s.detachAt = some t → t + ms 20 ≤ s.now →
      exec .usbReattach s = .next { s with detachAt := none, attached := s.vbus, usbLink := b2n s.vbus }) ∧
    (s.vbus = true → exec (.usbVbusChange false) s = .next { s with vbus := false, attached := false, usbLink := 0 }) ∧
    (s.vbus = false → s.arb.steer = some x → s.detachAt = none →
      exec (.usbVbusChange true) s = .next { s with vbus := true, attached := true, usbLink := 1 }) ∧
    (s.vbus = false → s.detachAt ≠ none →
      exec (.usbVbusChange true) s = .next { s with vbus := true, attached := false, usbLink := 0 })

/-- R22, R328, R329, R330, R332, R334: where the port is on, each frame is answered by the steered controller with the response to the
frame before it, and taken by every controller that runs: a bad frame is counted and flagged, a write is queued, or dropped when 64 wait,
a write of `STATUS` clears the flags written as 1, a claim is latched, and a read is answered in the next response; under COMPAT a claim
that then prevails takes over; the ACTIVE controller commits the oldest queued write. -/
def Obligations.SpiCommandsRun : Prop :=
  (∀ (s : State) (x y : Side) (v : BitVec 16), s.arb.steer = some x → s.runs x = true → s.spiTakes x = true → s.runs y = true →
      s.spiTakes y = true →
      let p := (s.ctrl y).spi
      let leaves := fun (o : Host.Outcome State Fault Refusal) (p' : Spi) =>
        ∃ t, o = .next t ∧ (t.ctrl y).spi = p' ∧ t.wire = .miso (s.misoFrame x) :: s.wire
      let queued := fun addr => { ((s.ctrl y).spiQueue addr v).spi with bad := false, last := v }
      let ignored := { p with flags := p.flags ||| 8, bad := true, last := 0, crcErr := satAt 65535 (p.crcErr + 1) }
      leaves (exec .spiBadFrame s) ignored ∧
      (∀ n f, mosiGood n f = false → leaves (exec (.spiWriteOther n f) s) ignored) ∧
      (∀ addr, addr < 128 → leaves (exec (.spiWriteOther 32 (mosiFrame false addr v)) s)
        { p with bad := false, last := s.spiRead y addr }) ∧
      leaves (exec (.spiWriteDout v) s) (queued 0x03) ∧
      (∀ addr, addr < 128 → addr ≠ 0x01 → addr ≠ 0x20 → addr ≠ 0x21 →
        leaves (exec (.spiWriteConfig addr v) s) (queued addr) ∧ leaves (exec (.spiWriteOther 32 (mosiFrame true addr v)) s) (queued addr)) ∧
      leaves (exec (.spiWriteStatus v) s) { p with flags := p.flags &&& ~~~(v.extractLsb' 12 4), bad := false, last := v } ∧
      (s.compat = false →
        leaves (exec (.spiWriteClaim .a v) s) { p with claimA := v &&& 0xFF, bad := false, last := v } ∧
        leaves (exec (.spiWriteClaim .b v) s) { p with claimB := v &&& 0xFF, bad := false, last := v })) ∧
  (∀ (s : State) (y : Side) (v : BitVec 16), s.compat = true →
      let u := s.spiShift 32 (mosiFrame true 0x20 v)
      (u.holder = s.holder → exec (.spiWriteClaim .a v) s = .next u) ∧
      (u.holder ≠ s.holder → u.holder = some y → u.resteer.mayTake y = true →
        exec (.spiWriteClaim .a v) s = .next (u.resteer.takeOver y))) ∧
  ∀ (s : State) (x : Side),
    (∀ r rest, s.active = some x → (s.ctrl x).spi.queue = r :: rest → (s.ctrl x).commitsOp 0x11 = true → s.stale x = false →
      let u := (s.modCtrl .a fun c => c.spiDone r).modCtrl .b fun c => c.spiDone r
      (u.spiStatus x r = stOk → u.spiUndefined x r = none) →
      exec .spiWriteCommit s = .next (u.spiCommitNow x r)) ∧
    (∀ r rest f, s.active = some x → (s.ctrl x).spi.queue = r :: rest → (s.ctrl x).commitsOp 0x11 = true → s.stale x = false →
      let u := (s.modCtrl .a fun c => c.spiDone r).modCtrl .b fun c => c.spiDone r
      u.spiStatus x r = stOk → u.spiUndefined x r = some f → exec .spiWriteCommit s = .fault f)

/-- R70, R76, R80, R81, R83, R85, R345: what each tracker command does on every controller that runs: a crossing or an edge gives the period
and the error, a lost input makes LOCKED and RELOCK FLYWHEEL, ACQUIRE locks on the angle acquired, RELOCK ends within 64 units, a
FLYWHEEL at its limit ends, and an accepted angle word is a sample of AS2; an angle update is 1 µs of time, in which the trackers of
both controllers advance. -/
def Obligations.TrackerAndUpdateCommandsRun : Prop :=
  (∀ (s : State) (src : Nat),
      (∀ period, inRange 0 period = true → exec (.as0ZeroCrossing period) s = .next (s.onRunning fun x u =>
        ((u.setPeriod x 0 period (u.clock (u.ctrl x) - (u.ctrl x).as0.lastEdge)).modCtrl x fun c =>
          { c with as0 := { c.as0 with lastEdge := u.clock (u.ctrl x) } }).measure x 0 (acOffset (u.ctrl x).angleCfg 0) none)) ∧
      (∀ width rising, 1000 ≤ width →
        (∀ x, s.runs x = true → acEdge (s.ctrl x).angleCfg = !rising ∧
          ((s.ctrl x).as1.edges = 0 ∨ (s.ctrl x).as1.period ≤ (s.clock (s.ctrl x) - (s.ctrl x).as1.lastEdge) * 8)) →
        exec (.carrierSyncEdge width rising) s = .next (s.onRunning fun x u => u.carrierEdge x)) ∧
      (∀ width rising, width < 1000 → exec (.carrierSyncEdge width rising) s = .next s) ∧
      (src < 3 → (∀ x, s.runs x = true → (((s.ctrl x).tracker src).st = .locked ∨ ((s.ctrl x).tracker src).st = .relock) ∧
          ((s.ctrl x).tracker src).lossDue src (s.clock (s.ctrl x)) ((s.ctrl x).rope.role == 1) = true) →
        exec (.sourceLoss src) s = .next (s.onRunning fun x u =>
          (u.modCtrl x fun c => c.setTracker src { c.tracker src with
            since := u.clock c, bigErr := 0, edges := 0, slew := 0, slope := 0 }).trackEnter x src .flywheel 0)) ∧
      (∀ angle, src < 3 → (∀ x, s.runs x = true → ((s.ctrl x).tracker src).st = .acquire) →
        exec (.acquireLock src angle) s = .next (s.onRunning fun x u =>
          let t := (u.ctrl x).tracker src
          let cyc := (t.numberAt (mtimeOf u (u.ctrl x)).toNat angle.toNat).getD (t.cycle + 1)
          (u.modCtrl x fun c => (c.setTracker src { t with
            angle, rem := 0, slew := 0, bigErr := 0, cycle := cyc
            t0 := BitVec.ofInt 32 ((mtimeOf u (u.ctrl x)).toNat - (angle.toNat * t.period / 262144 : Nat)) }).beginCycle src
              cyc).trackEnter x src .locked 0)) ∧
      (src < 3 → (∀ x, s.runs x = true → ((s.ctrl x).tracker src).st = .acquire) →
        exec (.acquireInputInvalid src) s = .next (s.onRunning fun x u =>
          (u.modCtrl x fun c => c.setTracker src { c.tracker src with edges := 0 }).trackEnter x src
            ((u.ctrl x).tracker src).from_ 0)) ∧
      (src < 3 → (∀ x, s.runs x = true → ((s.ctrl x).tracker src).st = .relock ∧ ((s.ctrl x).tracker src).slew.natAbs ≤ 64) →
        exec (.relockComplete src) s = .next (s.onRunning fun x u => u.trackEnter x src .locked 0)) ∧
      (src < 3 → (∀ x, s.runs x = true → ((s.ctrl x).tracker src).st = .flywheel ∧ acFallback (s.ctrl x).angleCfg src ≠ 1 ∧
          ((s.ctrl x).tracker src).since + flywheelLimit (s.ctrl x).angleCfg src ((s.ctrl x).tracker src) ≤ s.clock (s.ctrl x)) →
        exec (.flywheelLimit src) s = .next (s.onRunning fun x u => u.trackEnter x src .lost 0)) ∧
      (src < 3 → (∀ x, s.runs x = true → ((s.ctrl x).tracker src).st = .flywheel ∧ acFallback (s.ctrl x).angleCfg src = 1 ∧
          ((s.ctrl x).tracker src).since + flywheelLimit (s.ctrl x).angleCfg src ((s.ctrl x).tracker src) ≤ s.clock (s.ctrl x)) →
        exec (.flywheelLimit src) s = .next (s.onRunning fun x u => u.trackEnter x src .fallback 0)) ∧
      (∀ angle, src < 3 →
        (∀ x, s.runs x = true → ((s.ctrl x).tracker src).st = .noSignal ∨ ((s.ctrl x).tracker src).st = .lost) →
        exec (.inputValidAgain src angle) s = .next (s.onRunning fun x u =>
          (u.modCtrl x fun c => c.setTracker src { c.tracker src with from_ := (c.tracker src).st }).trackEnter x src .acquire 0)) ∧
      (∀ (angle : BitVec 16), src < 3 →
        (∀ x, s.runs x = true → let t := (s.ctrl x).tracker src
          (t.st = .flywheel ∨ t.st = .fallback) ∧
            t.agrees (angleError angle.toNat t.angle.toNat) (t.numberAt (mtimeOf s (s.ctrl x)).toNat angle.toNat) = true) →
        exec (.inputValidAgain src angle) s = .next (s.onRunning fun x u =>
          (u.modCtrl x fun c => c.setTracker src { c.tracker src with
            slew := angleError angle.toNat (c.tracker src).angle.toNat, bigErr := 0 }).trackEnter x src .locked 0)) ∧
      (∀ (angle : BitVec 16), src < 3 →
        (∀ x, s.runs x = true → let t := (s.ctrl x).tracker src
          (t.st = .flywheel ∨ t.st = .fallback) ∧
            t.agrees (angleError angle.toNat t.angle.toNat) (t.numberAt (mtimeOf s (s.ctrl x)).toNat angle.toNat) = false) →
        exec (.inputValidAgain src angle) s = .next (s.onRunning fun x u =>
          let t := (u.ctrl x).tracker src
          u.stepSource x src (angleError angle.toNat t.angle.toNat) .relock
            (t.numberAt (mtimeOf u (u.ctrl x)).toNat angle.toNat))) ∧
      (∀ w t, (∀ x, s.runs x = true → bitOf ((s.ctrl x).portCfg 0) 119 = true ∧ (s.ctrl x).rope.role ≠ 1 ∧
          (s.ctrl x).ports.aseq ≠ some (fld w 75 64)) → bitOf w 79 = true →
        exec (.angleWord w t) s = .next (s.onRunning fun x u =>
          (u.modCtrl x fun c => { c with ports := { c.ports with aseq := some (fld w 75 64) } }).as2Sample x t (fld w 127 112)
            (BitVec.ofNat 32 (fld w 111 80)) false))) ∧
  (∀ (s : State),
      let u := (({ s with now := s.now + 1000 }).trackAll .a).trackAll .b
      (∀ x, u.active = some x → exec .angleUpdate s = .next ((u.latchSnaps x).loneSleep x)) ∧
      (u.active = none → exec .angleUpdate s = .next u))

/-- R321, R358: the oldest reply, and the oldest event, of a session leave on its port in the order they were formed. -/
def Obligations.RepliesAndEventsLeave : Prop :=
  ∀ (s : State) (x : Side) (i : Nat),
    let n := (s.ctrl x).session i
    (∀ r rest, s.active = some x → n.replies = r :: rest → (∀ e ∈ n.events, r.order ≤ e.order) →
      s.portReady x r.req.port = true →
      exec (.replySend i) s = .next (((((s.setCtrl x ((s.ctrl x).setSession i { n with replies := rest })).emitOn x r.req.port
        (.message r.req.port r.req.ip r.req.udp (Reply.header { r with vol := (s.ctrl x).logl.isVolatile }) r.words)).replyLeft x
          r).syncTags x))) ∧
    (∀ e rest, s.active = some x → n.events = e :: rest → n.isOpen = true → (∀ r ∈ n.replies, e.order ≤ r.order) →
      s.portReady x n.evPort = true → e.op ≠ 0x80 →
      exec (.eventSend i) s = .next (((s.setCtrl x ((s.ctrl x).setSession i
          { n with events := rest, evSeq := (n.evSeq + 1) % 65536 })).emitOn x n.evPort
        (.message n.evPort n.evIp n.evUdp (n.eventHeader i e.op (s.ctrl x).logl.isVolatile e.words) e.words)).syncTags x)) ∧
    (∀ e rest, s.active = some x → n.events = e :: rest → n.isOpen = true → (∀ r ∈ n.replies, e.order ≤ r.order) →
      s.portReady x n.evPort = true → e.op = 0x80 →
      exec (.eventSend i) s = .next (((s.setCtrl x ((s.ctrl x).setSession i
          { n with events := rest, evSeq := (n.evSeq + 1) % 65536, dropped := 0, gap := false })).emitOn x n.evPort
        (.message n.evPort n.evIp n.evUdp (n.eventHeader i e.op (s.ctrl x).logl.isVolatile (n.eventWords e)) (n.eventWords e))).syncTags
          x))

/-- R96, R98, R99, R101: an Announce of the domain takes the place of its master's earlier one and leaves the best of the masters heard
selected; a timeout forgets those silent for 3 announce intervals, and so selects anew; the offset of the selected master is reported.
A Sync of the selected master gives a controller its own offset, that measured less the path delay, and it is applied by one that does not
stand by while PTP disciplines: by rate up to 1 ms, else by one step; LOCKED stands for at most 1 µs. A Delay_Req goes out at the
master's interval, and a Delay_Resp gives the path delay and the next interval. The other controller stays as it is, and a controller that
does not run takes none of them. -/
def Obligations.PtpCommandsRun : Prop :=
  ∀ (s : State) (x : Side),
    let c := s.ctrl x
    let dom := acDomain c.angleCfg
    let best := fun (t : TimeKeep) => (t.masters = [] → t.master = none) ∧
      (t.masters ≠ [] → ∃ m ∈ t.masters, t.master = some m.ident ∧ ∀ n ∈ t.masters, betterMaster n m = false) ∧
      (∀ m, t.selected = some m → t.utcOffset = m.utcOffset)
    (s.runs x = true →
      (∀ ident quality utc int, ∃ u, exec (.ptpAnnounce x dom { ident, quality, logInt := int } utc) s = .next u ∧
        (u.ctrl x).time.masters = { ident, quality, heardAt := s.clock c, logInt := int, utcOffset := utc } ::
          c.time.masters.filter (fun n => n.ident != ident) ∧
        best (u.ctrl x).time ∧ u.ctrl x.other = s.ctrl x.other) ∧
      (∀ d a utc, d ≠ dom → exec (.ptpAnnounce x d a utc) s = .next s) ∧
      (∃ u, exec (.ptpAnnounceTimeout x) s = .next u ∧
        (u.ctrl x).time.masters = c.time.masters.filter (fun m => decide (s.clock c < m.heardAt + 3 * logNs m.logInt)) ∧
        best (u.ctrl x).time ∧ u.ctrl x.other = s.ctrl x.other) ∧
      (∀ ident int off, c.time.master = some ident → -7 ≤ int → int ≤ 1 → ∃ u,
        exec (.ptpSync x dom { ident, logInt := int, offset := off }) s = .next u ∧
        u.ctrl x.other = s.ctrl x.other ∧
        let own := off - (c.time.delay : Int)
        let t := (u.ctrl x).time
        t.ownOffset = some own ∧
        ((c.role = .standby ∨ c.timeInUse ≠ 1) → t = { c.time with ownOffset := some own }) ∧
        (c.role ≠ .standby → c.timeInUse = 1 →
          t.offset = own ∧ t.everDisc = true ∧ t.state = (if own.natAbs ≤ 1000 then 2 else 1) ∧
          (own.natAbs ≤ 1000000 → t.offPs = c.time.offPs ∧ t.slewPs = -own * 1000) ∧
          (1000000 < own.natAbs → t.offPs = c.time.offPs - own * 1000 ∧ t.slewPs = 0))) ∧
      (∀ d y, c.takesSync d y.ident y.logInt = false → exec (.ptpSync x d y) s = .next s) ∧
      (c.time.delayDue (s.clock c) = true → ∃ u, exec (.ptpDelayReqSend x) s = .next u ∧
        u.wire = .delayReq x :: s.wire ∧ (u.ctrl x).time = { c.time with delayAt := some (s.clock c) } ∧
        u.ctrl x.other = s.ctrl x.other) ∧
      (c.time.delayDue (s.clock c) = false → exec (.ptpDelayReqSend x) s = .next s) ∧
      (∀ delay int, c.time.master ≠ none → ∃ u, exec (.ptpDelayResp x delay int) s = .next u ∧
        (u.ctrl x).time = { c.time with delay, delayInt := int } ∧ u.ctrl x.other = s.ctrl x.other) ∧
      (∀ delay int, c.time.master = none → exec (.ptpDelayResp x delay int) s = .next s)) ∧
    (s.runs x = false → ∀ (d utc delay : Nat) (int : Int) (a : Announce) (y : Sync),
      exec (.ptpAnnounce x d a utc) s = .next s ∧ exec (.ptpAnnounceTimeout x) s = .next s ∧
      exec (.ptpSync x d y) s = .next s ∧ exec (.ptpDelayReqSend x) s = .next s ∧
      exec (.ptpDelayResp x delay int) s = .next s)

/-- R145, R147, R148, R149, R161: a free engine takes the head of its cluster's queue; an idle one takes from a neighbour whose engines are
all at work; a window of more than 1.5 times its costs makes an engine SLOW. -/
def Obligations.EngineCommandsRun : Prop :=
  ∀ (s : State) (x : Side) (i : Nat), s.active = some x → i < 192 →
    (∀ e rest, (s.ctrl x).queue (i / 16) = e :: rest → (s.ctrl x).enginesRun = true → ((s.ctrl x).engine i).free = true →
      ((s.ctrl x).engine i).slow = false →
      exec (.executionDispatch i) s = .next ((s.setCtrl x ((s.ctrl x).setQueue (i / 16) rest)).take x i e false)) ∧
    (∀ e, (s.ctrl x).queue (i / 16) = [] → (s.ctrl x).enginesRun = true → ((s.ctrl x).engine i).free = true →
      ((s.ctrl x).engine i).slow = false →
      (s.ctrl x).stealable (min ((i / 16 + 1) % 12) ((i / 16 + 11) % 12)) = some e →
      (s.ctrl x).stealable (max ((i / 16 + 1) % 12) ((i / 16 + 11) % 12)) = none →
      let j := min ((i / 16 + 1) % 12) ((i / 16 + 11) % 12)
      exec (.leapfrogExamine i) s =
        .next ((s.setCtrl x (((s.ctrl x).setQueue j (((s.ctrl x).queue j).drop 1)).countSteal j (i / 16))).take x i e true)) ∧
    (∀ e e', (s.ctrl x).queue (i / 16) = [] → (s.ctrl x).enginesRun = true → ((s.ctrl x).engine i).free = true →
      ((s.ctrl x).engine i).slow = false →
      (s.ctrl x).stealable (min ((i / 16 + 1) % 12) ((i / 16 + 11) % 12)) = some e →
      (s.ctrl x).stealable (max ((i / 16 + 1) % 12) ((i / 16 + 11) % 12)) = some e' → e'.precedes e = true →
      let j := max ((i / 16 + 1) % 12) ((i / 16 + 11) % 12)
      exec (.leapfrogExamine i) s =
        .next ((s.setCtrl x (((s.ctrl x).setQueue j (((s.ctrl x).queue j).drop 1)).countSteal j (i / 16))).take x i e' true)) ∧
    (∀ taken, let g := (s.ctrl x).engine i
      ∃ t, exec (.slowWindow i taken g.winCost g.winDone (g.winBusy || g.run.isSome)) s = .next t ∧
        let h := (t.ctrl x).engine i
        h.run = g.run ∧ h.winCost = 0 ∧ h.winDone = false ∧ h.winBusy = g.run.isSome ∧
        ((3 * g.winCost < 2 * taken ∨ ((g.winBusy = true ∨ g.run ≠ none) ∧ g.winDone = false)) → h.slow = true ∧ h.fine = 0) ∧
        (2 * taken ≤ 3 * g.winCost → (g.winDone = true ∨ (g.winBusy = false ∧ g.run = none)) →
          (g.slow = false → h.slow = false) ∧
          (g.slow = true → 6 * g.winCost < 5 * taken → h.slow = true ∧ h.fine = 0) ∧
          (g.slow = true → 5 * taken ≤ 6 * g.winCost → g.fine < 9 → h.slow = true ∧ h.fine = g.fine + 1) ∧
          (g.slow = true → 5 * taken ≤ 6 * g.winCost → 9 ≤ g.fine → h.slow = false)))

/-- R114, R115, R116, R117, R118, R120, R122, R123, R124, R126, R127, R487: an engine that is not halted and is held by no breakpoint
carries out the stage it is at, of whichever of the eleven types; a stage with a breakpoint halts it first; a halted engine steps one
stage. -/
def Obligations.StageCommandsRun : Prop :=
  ∀ (s : State) (x : Side) (i : Nat) (e : Exec) (w : Word),
    s.active = some x → (s.ctrl x).stageOn i = some (e, w) →
    ((s.ctrl x).enginesRun = true → ((s.ctrl x).engine i).halted = false →
      ((s.ctrl x).breaksAt e = false ∨ ((s.ctrl x).engine i).pass = true) →
      (sType w = 1 → exec (.acquire i) s = .next (s.advance x i e w)) ∧
      (sType w = 2 → exec (.filter i) s = .next (s.advance x i e w)) ∧
      (sType w = 3 → exec (.compare i) s = .next (s.advance x i e w)) ∧
      (sType w = 4 → exec (.count i) s = .next (s.advance x i e w)) ∧
      (sType w = 5 → exec (.logic i) s = .next (s.advance x i e w)) ∧
      (sType w = 6 → exec (.sequence i) s = .next (s.advance x i e w)) ∧
      (sType w = 7 → exec (.drive i) s = .next (s.advance x i e w)) ∧
      (sType w = 8 → exec (.forceSafe i) s = .next (s.advance x i e w)) ∧
      (sType w = 9 → exec (.publish i) s = .next (s.advance x i e w)) ∧
      (sType w = 10 → exec (.checkValue i) s = .next (s.advance x i e w)) ∧
      (sType w = 11 → exec (.relay i) s = .next (s.advance x i e w))) ∧
    ((s.ctrl x).breaksAt e = true → ((s.ctrl x).engine i).halted = false → ((s.ctrl x).engine i).pass = false →
      exec (.engineBreakpointHit i) s =
        .next (s.setCtrl x ((s.ctrl x).setEngine i { (s.ctrl x).engine i with halted := true }))) ∧
    (((s.ctrl x).engine i).halted = true →
      exec (.engineStep i) s = .next (((s.setCtrl x ((s.ctrl x).setEngine i
        { (s.ctrl x).engine i with slow := false })).advance x i e w).modCtrl x fun d =>
          d.setEngine i { d.engine i with slow := ((s.ctrl x).engine i).slow, halted := (d.engine i).run.isSome }))

/-- R45, R155, R156, R159, R160, R254, R461, R473: the placement commands, a written duty record, the end of CALIBRATE, and the end of the
group at the head of the KEEP queue, which writes its words and answers the request it belongs to. -/
def Obligations.PlacementAndKeepCommandsRun : Prop :=
  (∀ (s : State) (x : Side) (duty : Nat),
      (s.active = some x → rebalances (s.ctrl x).mode = true → ∃ t, exec .rebalance s = .next t ∧
        (t.ctrl x).sched.rebalances = ((s.ctrl x).sched.rebalances + 1) % 4294967296 ∧
        (t.ctrl x).sched.lastRebal = mtime32 s (s.ctrl x) ∧ (t.ctrl x).sched.movedLast = 0 ∧ (t.ctrl x).duties = (s.ctrl x).duties) ∧
      (s.isStandby x = true →
        exec (.shadowPlacement x) s = .next (s.modCtrl x fun c => { c with sched := { c.sched with shadow := c.shadowOf } })) ∧
      (∀ k, s.active = some x → tget 0 (s.ctrl x).sched.migrating duty = k + 1 →
        ((s.ctrl x).sched.deferred.all fun m => fld (wordAt m.2.2 0) 127 116 != duty) = true → ∃ t, exec (.migrationSwitch duty) s = .next t ∧
        ((t.ctrl x).place duty).cluster = k ∧ ((t.ctrl x).place duty).moves = ((s.ctrl x).place duty).moves + 1 ∧
        ((t.ctrl x).place duty).lastMove = (s.ctrl x).sched.rebalances ∧
        (t.ctrl x).sched.movedLast = (s.ctrl x).sched.movedLast + 1 ∧ tget 0 (t.ctrl x).sched.migrating duty = 0) ∧
      (∀ r, (s.ctrl x).storing.find? (fun r => r.1 == duty) = some r →
        exec (.dutyStoreWriteDone x duty) s = .next (s.setCtrl x
          { s.ctrl x with storing := (s.ctrl x).storing.erase r, store := tset [] (s.ctrl x).store duty r.2 })) ∧
      (s.active = some x → (s.ctrl x).mode = .calibrate → s.calOver (s.ctrl x) = true → (s.ctrl x).escPending = true →
        exec .calibrateEnd s = .next (s.leaveCalibrate x .safeHold 1)) ∧
      (s.active = some x → (s.ctrl x).mode = .calibrate → s.calOver (s.ctrl x) = true → (s.ctrl x).escPending = false →
        (s.ctrl x).faults.episode.isOpen = false →
        exec .calibrateEnd s = .next (s.leaveCalibrate x (if s.safeBoot then .maintain else (s.ctrl x).startMode) 2))) ∧
  (∀ (s : State) (x : Side) (g : KeepGroup) (rest : List KeepGroup), (s.ctrl x).groups = g :: rest → g.begun = true →
      let u := s.modCtrl x fun c => { c.writeGroup g.words with groups := beginGroup s.powerFail rest }
      (g.tag = none → exec (.keepGroupEnd x) s = .next u) ∧
      (∀ t f, g.tag = some t → (u.ctrl x).flight t = some f → (u.ctrl x).isActive = true → endOp f.op f.payload = true →
        exec (.keepGroupEnd x) s = .next (u.complete x f.req.tag stOk g.reply)) ∧
      (∀ t f, g.tag = some t → (u.ctrl x).flight t = some f → (u.ctrl x).isActive = true → endOp f.op f.payload = false →
        exec (.keepGroupEnd x) s = .next ((u.modCtrl x fun c => c.finish f.req.tag stOk g.reply).syncTags x)))

/-- R50, R262, R264, R270, R272, R277: a controller that is not in reset sends a downlink frame on a link, at whose boundary a committed
change of mode takes effect; a powered pod sends its uplink frame with the next sequence; a bad uplink frame, and one of an undefined
type, is counted, and a good one is used unless the receiver hunts. -/
def Obligations.LinkCommandsRun : Prop :=
  ∀ (s : State) (x : Side) (link : Nat), link < 96 →
    ((s.ctrl x).inReset = false → (s.ctrl x).isActive = true →
      exec (.downlinkFrame x link) s = .next ((s.frameBoundary x link).sendDown x link)) ∧
    (link ≠ ((s.takeModeNext x false).ctrl x).window → s.frameBoundary x link = s.takeModeNext x false) ∧
    ((s.ctrl x).inReset = false → (s.ctrl x).isActive = false → exec (.downlinkFrame x link) s = .next (s.sendDown x link)) ∧
    ((s.ctrl x).inReset = true → exec (.downlinkFrame x link) s = .next s) ∧
    ((s.pod link).powered = true → ∃ t, exec (.podUplinkSend link) s = .next t ∧
      (t.pod link).upSeq = ((s.pod link).upSeq + 1) % 4096 ∧ t.ctrlA = s.ctrlA ∧ t.ctrlB = s.ctrlB) ∧
    ((s.ctrl x).inReset = false →
      exec (.uplinkBadFrame x link) s = .next (s.upState x link ((s.ctrl x).uplink link).rx.takeBad true)) ∧
    (∀ f : UpFrame, f.link = link → (s.ctrl x).inReset = false → uhType f ≠ b2n (decide (64 ≤ link)) →
      exec (.uplinkFrame x f) s = .next (s.upState x link ((s.ctrl x).uplink link).rx.takeBad true)) ∧
    (∀ (f : UpFrame), f.link = link → (s.ctrl x).inReset = false → uhType f = b2n (decide (64 ≤ link)) →
      let up := (s.ctrl x).uplink link
      let r := (up.rx.takeGood f.seq).1
      let g := (s.setCtrl x ((s.ctrl x).setUp link { up with lastGood := mtime32 s (s.ctrl x), lastAt := s.now })).upState x link r false
      ((up.rx.takeGood f.seq).2 = true → exec (.uplinkFrame x f) s = .next (g.upUse x f)) ∧
      ((up.rx.takeGood f.seq).2 = false → up.rx.st ≠ .hunt → exec (.uplinkFrame x f) s = .next (s.upState x link r true)) ∧
      ((up.rx.takeGood f.seq).2 = false → up.rx.st = .hunt → r.st ≠ .good → exec (.uplinkFrame x f) s = .next g) ∧
      ((up.rx.takeGood f.seq).2 = false → up.rx.st = .hunt → r.st = .good →
        let v := g.linkEvent x link
        exec (.uplinkFrame x f) s =
          .next (if (v.ctrl x).isActive = true ∧ v.holder = some x then v.startPod x link else v)))

/-- R262, R264: the receive state at either end of a link. Bad frames make GOOD DEGRADED at the third and HUNT at the sixteenth; 16 good
ones end DEGRADED; two with consecutive sequences end HUNT; no frame is used in HUNT, nor one whose sequence does not follow. -/
def Obligations.LinkReceiveState : Prop :=
  ∀ (r : Rx) (seq : Nat),
    (r.st ≠ .hunt → 15 ≤ r.bad → r.takeBad.st = .hunt) ∧
    (r.st = .good → r.bad < 2 → r.takeBad.st = .good ∧ r.takeBad.bad = r.bad + 1) ∧
    (r.st ≠ .hunt → 2 ≤ r.bad → r.bad < 15 → r.takeBad.st = .degraded ∧ r.takeBad.bad = r.bad + 1) ∧
    (r.st = .hunt → r.takeBad.st = .hunt ∧ r.takeBad.good = 0) ∧
    (r.st = .hunt → (r.takeGood seq).2 = false ∧
      ((r.takeGood seq).1.st = .good ↔ (r.good = 1 ∧ seq = (r.seq + 1) % 4096))) ∧
    (r.st ≠ .hunt → ((r.takeGood seq).2 = true ↔ seqFollows r.seq seq = true)) ∧
    (r.st ≠ .hunt → seqFollows r.seq seq = true → (r.takeGood seq).1.seq = seq ∧ (r.takeGood seq).1.bad = 0) ∧
    (r.st = .degraded → seqFollows r.seq seq = true → ((r.takeGood seq).1.st = .good ↔ 15 ≤ r.good)) ∧
    (r.st ≠ .hunt → seqFollows r.seq seq = false → r.takeGood seq = (r.takeBad, false))

/-- R176, R243, R247, R251, R266, R267, R268, R269, R280: a good frame that a pod uses and acts on carries out its output, configuration,
request, time or FSK payload; a request it has acted on already does nothing more; a frame whose tether word does not pass gives no
command. -/
def Obligations.PodFramesRun : Prop :=
  ∀ (s u : State) (link : Nat) (h : DownHdr) (w : Word),
    (s.podFrame link h = (u, true, true) →
      exec (.podOutputFrame link h w) s = .next (u.podOutput link w) ∧
      (∀ sub, exec (.podConfigFrame link h sub w) s = .next (u.podConfig link sub w)) ∧
      (64 ≤ link → (u.pod link).reqNo ≠ some (fld w 127 120) →
        let v := u.setPod link { u.pod link with reqNo := some (fld w 127 120) }
        exec (.podRequestUrgent link h w) s = .next ((reqPositions w).foldl (fun s k => s.startUrgent (chanAt link k)) v) ∧
        exec (.podRequestTrigger link h w) s = .next ((reqPositions w).foldl (fun s k =>
          s.startTrigger link (fld w 127 120) ((v.pod link).instantOf v.now (fld w 95 32) + v.trigDelay link w)
            ((v.ctrl h.side).skipReqs.contains (link, fld w 127 120)) (chanAt link k)) v) ∧
        exec (.podRequestSelfCal link h w) s = .next (v.startCal link)) ∧
      (64 ≤ link → u.modemTakes link (chanAt link (fld w 127 126)) = true → 1 ≤ fld w 125 122 → fld w 125 122 ≤ 12 →
        let ch := chanAt link (fld w 127 126)
        exec (.podFskFrame link h w) s = .next (u.setLoop ch { u.loop ch with
          txBytes := (u.loop ch).txBytes ++ toBytes ((numBytes 12 (fld w 95 0)).take (fld w 125 122)), sending := true })) ∧
      ((u.pod link).reqNo = some (fld w 127 120) →
        exec (.podRequestUrgent link h w) s = .next u ∧ exec (.podRequestTrigger link h w) s = .next u ∧
        exec (.podRequestSelfCal link h w) s = .next u)) ∧
    (∀ act, s.podFrame link h = (u, true, act) → (u.pod link).counts = h.side →
      exec (.podTimeFrame link h w) s = .next (u.podTime link w)) ∧
    (exec (.podIdleFrame link h) s = .next (s.podFrame link h).1) ∧
    (∀ used, s.podFrame link h = (u, used, false) →
      exec (.podOutputFrame link h w) s = .next u ∧ (∀ sub, exec (.podConfigFrame link h sub w) s = .next u) ∧
      exec (.podRequestUrgent link h w) s = .next u ∧ exec (.podRequestTrigger link h w) s = .next u ∧
      exec (.podRequestSelfCal link h w) s = .next u ∧ exec (.podFskFrame link h w) s = .next u)

/-- R184, R193, R264, R278, R279, R368, R369, R506: a bad frame, the holds, the lease and the reference link of a powered pod, and the power
of a bay. -/
def Obligations.PodTimersRun : Prop :=
  ∀ (s : State) (x : Side) (link : Nat),
    (link < 96 → (s.pod link).powered = true → ((s.pod link).rx x).takeBad.st ≠ .hunt →
      exec (.podBadFrame link x) s = .next (s.setPod link ((s.pod link).setRx x ((s.pod link).rx x).takeBad))) ∧
    (link < 96 → (s.pod link).powered = true → ((s.pod link).rx x).takeBad.st = .hunt →
      exec (.podBadFrame link x) s =
        .next (s.setPod link (((s.pod link).setRx x ((s.pod link).rx x).takeBad).setClaim x none))) ∧
    ((s.pod link).powered = true → (s.pod link).quiet = false → (s.pod link).lastGoodA + us 250 ≤ s.now →
      (s.pod link).lastGoodB + us 250 ≤ s.now → (s.isStarting link = false ∨ s.anyOut link = true) →
      exec (.autonomousHoldStart link) s = .next ((s.setPod link { s.pod link with quiet := true }).startHolds link .auto)) ∧
    ((s.pod link).powered = true → (s.pod link).lease = true → (s.pod link).leaseEnd ≤ s.now → s.compat = false →
      exec (.leaseLapse link) s = .next (s.lapse link)) ∧
    (s.compat = true → exec (.leaseLapse link) s = .next s) ∧
    (∀ ch h, isDigital ch = true → (s.dig ch).hold = some h → (s.pod (linkOf ch)).powered = true → h.ends ≤ s.now →
      exec (.holdExpiry ch) s = .next ((s.setDig ch ((s.dig ch).endHold (s.pod (linkOf ch)).mode s.now)).endHolds (linkOf ch)
        h.counts)) ∧
    (∀ ch h, isDigital ch = false → isLoop ch = true → (s.loop ch).hold = some h → (s.pod (linkOf ch)).powered = true →
      h.ends ≤ s.now →
      exec (.holdExpiry ch) s = .next ((s.putLoop ch ((s.loop ch).endHold (s.pod (linkOf ch)).mode (s.pod (linkOf ch)).alm
        s.now)).endHolds (linkOf ch) h.counts)) ∧
    ((s.pod link).powered = true → (s.pod link).lease = false → (s.pod link).lastPass + ms 1000 ≤ s.now →
      exec (.podTetherAcceptAny link) s = .next (s.setPod link { s.pod link with acceptAny := true })) ∧
    ((s.pod link).powered = true → (s.pod link).refFallback = false → (s.pod link).lastGood (s.pod link).refSide + us 10 < s.now →
      exec (.referenceFallback link) s = .next (s.setPod link { s.pod link with
        refFallback := true, refSeq := ((s.pod link).rx (s.pod link).refSide.other).seq
        refStart := frameStart ((s.pod link).lastGood (s.pod link).refSide.other) })) ∧
    (∀ bay, bay < 32 → exec (.podPowerUp bay) s = .next ((bayLinks bay).foldl State.podUp s) ∧
      exec (.podPowerDown bay) s = .next ((bayLinks bay).foldl State.podDown s))

/-- R172, R179, R184, R185, R187, R188, R189: a debounced change inverts the state of the channel, the first selected edge is captured and a
later one counted as lost, the protection switches off an overloaded, shorted or hot output and releases it, and the verdicts set their
bits of `DIAG`. -/
def Obligations.DigitalCommandsRun : Prop :=
  ∀ (s : State) (ch : Nat),
    (s.digLive ch = true →
      ((s.dig ch).since + debounceNs (s.modeAt ch) (s.dig ch).cfg ≤ s.now →
        let u := s.setDig ch { s.dig ch with state := !(s.dig ch).state, since := s.now }
        let v := if auxUse (s.modeAt ch) = 2 then u else u.latchEdge ch (!(s.dig ch).state) false ((s.pod (linkOf ch)).stamp s.now).2
        exec (.debounceChange ch) s =
          .next (if digIsIn (s.dig ch).cfg = true ∧ bitOf (s.dig ch).cfg 80 = true then v.signalWake else v)) ∧
      (s.now < (s.dig ch).since + debounceNs (s.modeAt ch) (s.dig ch).cfg → exec (.debounceChange ch) s = .next s) ∧
      (∀ level tick, auxUse (s.modeAt ch) = 2 → digIsIn (s.dig ch).cfg = true → selectsEdge (s.dig ch).cfg level = true →
        ((s.dig ch).capture = none → exec (.edgeCapture ch level tick) s =
          .next ((s.setDig ch { s.dig ch with lost := 0, capture := some (Capture.mk level true
              (s.pod (linkOf ch)).refSeq (tick % 1024) (s.pod (linkOf ch)).captures (s.dig ch).lost) }).setPod (linkOf ch)
            { s.pod (linkOf ch) with captures := (s.pod (linkOf ch)).captures + 1 })) ∧
        ((s.dig ch).capture ≠ none → exec (.edgeCapture ch level tick) s =
          .next (s.setDig ch { s.dig ch with lost := satAt 255 ((s.dig ch).lost + 1) }))) ∧
      (∀ o, digMode (s.dig ch).cfg = 2 → auxUse (s.modeAt ch) = 1 → dbit (s.dig ch).diag dOpen = !o →
        (s.dig ch).openFrom + ms 4 ≤ s.now →
        exec (.openVerdict ch o) s =
          .next (s.setDig ch { s.dig ch with diag := putBit (s.dig ch).diag dOpen o, openFrom := s.now })) ∧
      (∀ temp, 165 ≤ temp → digIsOut (s.dig ch).cfg = true → exec (.overtempTrip ch temp) s =
        .next ((s.setDig ch ({ s.dig ch with diag := putBit (s.dig ch).diag dOvertemp true }.switchOff s.now true)).endHolds
          (linkOf ch) false)) ∧
      (∀ temp, 165 ≤ temp → digIsOut (s.dig ch).cfg = false → exec (.overtempTrip ch temp) s =
        .next (s.setDig ch { s.dig ch with diag := putBit (s.dig ch).diag dOvertemp true })) ∧
      (∀ p, (s.dig ch).prot = some p → ovlLatch (s.dig ch).cfg = false → (p.thermal = true ∨ p.since + ms 100 ≤ s.now) →
        exec (.protectionRetry ch) s =
          .next (s.setDig ch ({ (s.dig ch).release with drivingAt := s.now }.settle (s.modeAt ch) s.now))) ∧
      (∀ l t, (s.dig ch).held = some l → (s.dig ch).lastChange = some t → t + us 25 ≤ s.now →
        exec (.levelChangeDeferred ch) s = .next (s.setDig ch ((s.dig ch).setDrive s.now l)))) ∧
    (s.digDrives ch = true →
      ((s.dig ch).drive = 2 → exec (.overloadTrip ch) s =
        .next ((s.setDig ch ({ s.dig ch with diag := putBit (s.dig ch).diag dOverload true }.switchOff s.now false)).endHolds
          (linkOf ch) false)) ∧
      ((s.dig ch).drive = 1 → exec (.shortTrip ch) s =
        .next ((s.setDig ch ({ s.dig ch with diag := putBit (s.dig ch).diag dShort true }.switchOff s.now false)).endHolds
          (linkOf ch) false)) ∧
      ((s.dig ch).prot = none → (s.dig ch).drivingAt + ms 10 ≤ s.now → (s.dig ch).drive = (s.dig ch).wanted (s.modeAt ch) →
        exec (.protectionClear ch) s = .next (s.setDig ch { s.dig ch with
          diag := putBit (putBit (putBit (putBit (s.dig ch).diag dOverload false) dIlim false) dOvertemp false) dShort false
          offShort := (s.dig ch).offShort && (s.dig ch).drive == 0 })) ∧
      (∀ t d, digMode (s.dig ch).cfg = 4 → (s.dig ch).drive ≠ 0 → (s.dig ch).lastChange = some t → t + us 30 ≤ s.now →
        exec (.mismatchVerdict ch d) s = .next (s.setDig ch { s.dig ch with diag := putBit (s.dig ch).diag dMismatch d })) ∧
      (∀ hi, digMode (s.dig ch).cfg = 4 → (s.dig ch).drive = 0 → (∀ t, (s.dig ch).lastChange = some t → t + ms 1 ≤ s.now) →
        exec (.offStateShortVerdict ch hi) s = .next (s.setDig ch { s.dig ch with offShort := hi }))) ∧
    (∀ pod k, pod < 64 → k < 16 → s.digDrives (chanAt pod k) = true → (s.dig (chanAt pod k)).drive = 2 →
      exec (.podIlimTrip pod [k]) s = .next ((s.setDig (chanAt pod k)
        ({ s.dig (chanAt pod k) with
          diag := putBit (putBit (s.dig (chanAt pod k)).diag dOverload true) dIlim true }.switchOff s.now false)).endHolds pod
            false))

/-- R229, R230, R243, R244, R247: the ends of conversion windows on a channel whose pod converts, a readback result, and the power of its
modulator. -/
def Obligations.ConversionCommandsRun : Prop :=
  ∀ (s : State) (ch : Nat) (raw : Int),
    let l := s.loop ch
    let p := s.pod (linkOf ch)
    (s.converts ch = true →
      (convKind l.conv ≠ 2 → l.urgent = false → s.windowEnds ch = true → (l.relock = false ∨ p.locks l = false) →
        (l.skipFirst = false ∨ p.calPhase ≠ 0) →
        let r := (s.closeWindow ch).addSegment (l.priRaw raw)
        exec (.conversionResult ch raw) s = .next ((s.setLoop ch { r.2 with
          index := l.nextIndex (p.indexNow s.now l), settle := l.settle - 1, trigSkip := false, skipFirst := false
          lastResult := s.now }).primary ch (p.indexNow s.now l) (s.windowNs ch) r.1 true (l.settle != 0) false l.trigSkip)) ∧
      (convKind l.conv ≠ 2 → l.urgent = false → s.windowEnds ch = true → (l.relock = false ∨ p.locks l = false) →
        l.skipFirst = true → p.calPhase = 0 →
        exec (.conversionResult ch raw) s = .next (s.setLoop ch { s.closeWindow ch with skipFirst := false })) ∧
      (convKind l.conv ≠ 2 → l.urgent = false → s.windowEnds ch = true → l.relock = true → p.locks l = true →
        exec (.conversionResult ch raw) s = .next (s.setLoop ch ({ s.closeWindow ch with
          relock := false, trigSkip := false, aborts := satAt 255 (l.aborts + 1) }.restart l.gridNo))) ∧
      (s.windowEnds ch = false → exec (.conversionResult ch raw) s = .next s) ∧
      (convKind l.conv = 2 → l.trigRun = true → l.trigStart + s.windowNs ch ≤ s.now + 488 →
        exec (.triggeredConversionEnd ch raw) s =
          .next (((s.setLoop ch { l with trigRun := false, trigSkip := false, lastResult := s.now }).primary ch 0 (s.windowNs ch)
            (l.priRaw raw) true false false l.trigSkip).convWritten ch false)) ∧
      (l.urgent = true → p.calPhase = 0 →
        exec (.urgentConversionEnd ch raw) s = .next (((s.setLoop ch ({ l with
          urgent := false, index := l.nextIndex l.urgentIndex, lastResult := s.now, trigSkip := false }.restart
            (s.gridNow l))).primary ch l.urgentIndex 1875000 (l.priRaw raw) true false false false).convWritten ch true)) ∧
      (loopMode l.cfg = 1 → convKind l.conv = 2 → fld l.conv 66 59 ≠ 0 → l.trigRun = false → l.urgent = false →
        l.lastResult + ms (10 * fld l.conv 66 59) ≤ s.now →
        exec (.modulatorPowerDown ch) s = .next (s.setLoop ch { l with powered := false }))) ∧
    (isLoop ch = true → l.starting = true →
      exec (.modulatorStartUpEnd ch) s =
        .next (s.setLoop ch ({ l with starting := false, powered := true }.restart (s.gridNow l)))) ∧
    (isLoop ch = true → p.powered = true → l.configured = true → loopMode l.cfg ≠ 0 → loopHeld p.mode = false →
      ∃ t, exec (.readbackResult ch raw) s = .next t ∧ (t.loop ch).rbIndex = (l.rbIndex + 1) % 64 ∧
        (bitOf l.conv 106 = true → ∃ pre flags r k, (t.pod (linkOf ch)).items = pre ++ [.value (pinOf ch) 1 l.rbIndex
          (if p.calPhase ≠ 0 then 0 else clampI (-500000) 12500000 (factored l.rbOff l.rbGain raw)) flags r k]) ∧
        (bitOf l.conv 106 = false → (t.loop ch).diag = l.diag → (t.pod (linkOf ch)).items = p.items))

/-- R203, R208, R209, R211, R249, R250: a wire break trips, is confirmed and is released; the verdicts on a loop channel set their bits of
`DIAG`; a source at 150 °C stops and later resumes; an `ALM` level that stands is taken. -/
def Obligations.LoopVerdictsRun : Prop :=
  ∀ (s : State) (ch : Nat) (raw : Int),
    (s.watchesBreak ch = true →
      ((s.loop ch).tripped = false →
        let u := s.interrupt ch raw
        exec (.loopBreakTrip ch raw) s = .next (u.putLoop ch { u.loop ch with tripped := true, tripAt := s.now, pending := true })) ∧
      ((s.loop ch).tripped = true → (s.loop ch).tripAt + us 1500 ≤ s.now →
        exec (.loopBreakConfirm ch) s = .next (s.putLoop ch { s.loop ch with diag := putBit (s.loop ch).diag lOpen true })) ∧
      ((s.loop ch).tripped = true → dbit (s.loop ch).diag lOpen = true →
        let u := s.interrupt ch raw
        exec (.loopBreakRelease ch raw) s = .next (u.putLoop ch { u.loop ch with
          tripped := false, pending := false, diag := putBit (u.loop ch).diag lOpen false })) ∧
      ((s.loop ch).tripped = true → dbit (s.loop ch).diag lOpen = false →
        exec (.loopBreakRelease ch raw) s = .next (s.putLoop ch { s.loop ch with
          tripped := false, pending := false, diag := putBit (s.loop ch).diag lOpen false }))) ∧
    (s.watchesSource ch = true →
      exec (.verifyOpenLoop ch) s = .next (s.setDiag ch lOpen true) ∧
      exec (.verifyCompliance ch) s = .next (s.setDiag ch lCompliance true)) ∧
    (s.loopLive ch = true →
      (loopMode (s.loop ch).cfg = 2 →
        exec (.verifyClear ch lOpen) s = .next (s.setDiag ch lOpen false) ∧
        exec (.verifyClear ch lCompliance) s = .next (s.setDiag ch lCompliance false) ∧
        exec (.verifyClear ch lMismatch) s = .next ((s.setLoop ch { s.loop ch with rbBad := 0 }).setDiag ch lMismatch false)) ∧
      (∀ bad, exec (.supplyVerdict ch bad) s = .next (s.setDiag ch lSupply bad)) ∧
      (loopMode (s.loop ch).cfg = 1 → ∀ o, exec (.loopOverloadVerdict ch o) s = .next (s.setDiag ch lOverload o)) ∧
      (loopMode (s.loop ch).cfg = 2 →
        exec (.loopOverloadVerdict ch true) s = .next (s.setLoop ch { s.loop ch with clampAt := some s.now }) ∧
        exec (.loopOverloadVerdict ch false) s = .next s) ∧
      ((s.loop ch).hot = false → exec (.loopOvertemp ch true) s =
        .next (s.regulate ch { s.loop ch with hot := true, diag := putBit (s.loop ch).diag lOvertemp true })) ∧
      ((s.loop ch).hot = true → exec (.loopOvertemp ch false) s =
        .next (s.regulate ch { s.loop ch with hot := false, coolAt := s.now })) ∧
      ((s.loop ch).hot = false → (s.loop ch).coolAt + ms 10 ≤ s.now →
        exec (.loopOvertempFlagClear ch) s = .next (s.setDiag ch lOvertemp false))) ∧
    (∀ pod level, pod < 32 → level < 4 → (s.pod (64 + pod)).powered = true → (s.pod (64 + pod)).almRead = true →
      (s.pod (64 + pod)).alm ≠ level →
      exec (.almChange pod level) s = .next (((linkChans (64 + pod)).foldl (fun s ch => s.regulate ch (s.loop ch))
        (s.setPod (64 + pod) { s.pod (64 + pod) with alm := level, almRead := true })).publish 0x0C pod [mkw [(127, 126, level)]])) ∧
    (∀ pod level, pod < 32 → level < 4 → (s.pod (64 + pod)).powered = true → (s.pod (64 + pod)).almRead = true →
      (s.pod (64 + pod)).alm = level →
      exec (.almChange pod level) s = .next ((linkChans (64 + pod)).foldl (fun s ch => s.regulate ch (s.loop ch))
        (s.setPod (64 + pod) { s.pod (64 + pod) with alm := level, almRead := true })))

/-- R227, R251, R253, R256: the phases and the end of a self-calibration, the departure of a channel's temperature, the diagnostic inputs,
and characters of an FSK modem. -/
def Obligations.PodMeasurementsRun : Prop :=
  ∀ (s : State) (pod : Nat), pod < 32 → (s.pod (64 + pod)).powered = true →
    let p := s.pod (64 + pod)
    (1 ≤ p.calPhase → p.calPhase ≤ 7 → p.calStart + ms (160 * p.calPhase) ≤ s.now →
      exec (.selfCalPhaseEnd pod) s = .next (s.setPod (64 + pod) { p with calPhase := p.calPhase + 1 })) ∧
    (∀ a b c d e f g h, p.calPhase ≠ 0 → p.calStart + ms 1280 ≤ s.now →
      ∃ t, exec (.selfCalEnd pod a b c d e f g h) s = .next t ∧ (t.pod (64 + pod)).calPhase = 0) ∧
    (∀ k temp, k < 4 → let ch := chanAt (64 + pod) k
      (s.loop ch).calCount ≠ 0 → (s.loop ch).departed = false → 20 < (temp - sext 8 (s.loop ch).calTemp.toNat).natAbs →
      ∃ t, exec (.calTempDeparture ch temp) s = .next t ∧ (t.loop ch).departed = true ∧ t.pods = s.pods) ∧
    (∀ v, exec (.diagInputMeasurement pod v) s = .next (s.setPod (64 + pod) { p with
      diagNext := if p.diagNext = 3 then 1 else p.diagNext + 1
      refBad := if p.diagNext = 1 then (if outOfLimit 1 v then 2 else p.refBad - 1) else p.refBad
      supplyBad := if p.diagNext = 2 then outOfLimit 2 v else p.supplyBad
      items := p.items ++ [.diag 0 (fld (mkw [(63, 40, twos 24 v), (39, 39, b2n (outOfLimit p.diagNext v)),
        (38, 36, p.diagNext)]) 63 32) (p.stamp s.now).1 (p.stamp s.now).2] })) ∧
    (∀ k b first last err, k < 4 → s.loopLive (chanAt (64 + pod) k) = true →
      fskActs p.mode (s.loop (chanAt (64 + pod) k)).cfg = true →
      exec (.fskCharacter (chanAt (64 + pod) k) [b] first last err) s = .next (s.setPod (64 + pod) { p with
        items := p.items ++ [.fsk k (fld (mkw [(63, 56, b.toNat), (39, 38, 1), (37, 37, b2n first), (36, 36, b2n last),
          (35, 35, b2n err)]) 63 32) (p.stamp s.now).1 (p.stamp s.now).2] }))

/-- R66, R223, R224, R225, R226, R227: the transmission of an FSK frame, its end, the 300 ms wait for a reply, and what a received frame is. -/
def Obligations.FskCommandsRun : Prop :=
  ∀ (s : State) (x : Side) (ch : Nat) (j : FskJob) (js : List FskJob), s.active = some x → isLoop ch = true →
    tget [] (s.ctrl x).fsk ch = j :: js →
    (j.phase = 0 → (s.ctrl x).fskStill ch = false → ∃ t, exec (.fskTransmitStart ch) s = .next t ∧
      tget [] (t.ctrl x).fsk ch = { j with phase := 1, tries := j.tries + 1, last := [] } :: js) ∧
    (j.phase = 1 → (s.loop ch).sending = false →
      exec (.fskTransmitEnd ch) s = .next (s.setCtrl x ((s.ctrl x).setFsk ch ({ j with phase := 2, endAt := s.now } :: js)))) ∧
    (j.phase = 1 → (s.loop ch).sending = true → ∃ t, exec (.fskTransmitEnd ch) s = .next t ∧ (t.loop ch).sending = false ∧
      tget [] (t.ctrl x).fsk ch = { j with phase := 2, endAt := s.now } :: js) ∧
    (j.phase = 2 → j.endAt + ms 300 ≤ s.now →
      exec (.fskReplyTimeout ch) s = .next (s.fskFailed x ch j js 1 [] (mtimeAgo s (s.ctrl x) j.endAt))) ∧
    (∀ bytes, fskActs (s.ctrl x).mode ((s.ctrl x).loopCfg ch) = true → j.phase = 2 → fskOther bytes = none →
      fskGood j bytes = true → fskSound bytes true true = true →
      exec (.fskFrameReceived ch bytes true true) s =
        .next (((s.fskTime (s.ctrl x) ch).2.modCtrl x fun c => c.setFsk ch js).fskOutcome x ch j 0 bytes (s.fskTime (s.ctrl x) ch).1)) ∧
    (∀ bytes gapsOk, fskActs (s.ctrl x).mode ((s.ctrl x).loopCfg ch) = true → j.phase = 2 →
      exec (.fskFrameReceived ch bytes false gapsOk) s =
        .next ((s.fskTime (s.ctrl x) ch).2.fskFailed x ch j js 2 bytes (s.fskTime (s.ctrl x) ch).1))

/-- R218, R219, R220, R317: the end of a trim capture, the buttons, the expiry of an armed window and of a test. -/
def Obligations.TrimEventsRun : Prop :=
  ∀ (s : State) (x : Side) (m : Arm), s.active = some x → (s.ctrl x).arm = some m →
    (m.out = false → m.capture = none →
      exec .zeroPress s = .next (s.startCapture x m false none) ∧ exec .spanPress s = .next (s.startCapture x m true none)) ∧
    (m.out = true → exec .zeroPress s = .next s ∧ exec .spanPress s = .next s) ∧
    (exec .trimButtonsHeld s = .next ((s.endArm x 5).tellTrim x none m.ch (m.done 0 0))) ∧
    (m.ends ≤ s.now → exec .trimWindowExpiry s = .next (s.endArm x 4)) ∧
    (s.now < m.ends → exec .trimWindowExpiry s = .next s) ∧
    (∀ mean h1 h2 tag, m.capture = some (false, tag) → m.startAt + ms 1000 ≤ s.now →
      let r := { m with capture := none }.judge false mean h1 h2
      let a := r.2.steps (r.1 == 0) s.now
      exec (.trimCaptureEnd mean h1 h2) s = .next ((s.modCtrl x fun c => c.putArm a).tellTrim x tag m.ch (a.reply s.now r.1))) ∧
    (∀ mean h1 h2 tag, m.capture = some (true, tag) → m.startAt + ms 1000 ≤ s.now → 2000 < (h1 - h2).natAbs →
      let a := { m with capture := none }.steps false s.now
      exec (.trimCaptureEnd mean h1 h2) s = .next ((s.modCtrl x fun c => c.putArm a).tellTrim x tag m.ch (a.reply s.now 1))) ∧
    (∀ ch t, (s.ctrl x).test ch = some t → t.ends ≤ s.now →
      exec (.testDriveExpiry ch) s = .next (s.setCtrl x (s.endTest (s.ctrl x) ch 0)))

/-- R391, R392, R393, R394, R396, R440: the end of a sector's erasure, of a settings migration, of a soak and of a swap without its claim; a
handover pauses the duties and yields once they are quiescent; a tadpole that fails, or is late, restarts into its frog. -/
def Obligations.FirmwareCommandsRun : Prop :=
  ∀ (s : State) (x : Side),
    (∀ y, s.active = some x → 1 < (s.ctrl x).update.left y → (s.ctrl y).erases = true →
      ∃ t, exec (.sectorEraseDone y) s = .next t ∧ (t.ctrl x).update.left y = (s.ctrl x).update.left y - 1 ∧
        (t.ctrl x).update.left y.other = (s.ctrl x).update.left y.other) ∧
    (∀ ws, s.migrates x = true → ∃ t, exec (.settingsMigrationEnd x ws) s = .next t ∧ (t.ctrl x).imageOk = true) ∧
    (s.active = some x → s.isStandby x.other = true → (s.ctrl x.other).mirrorOk = true → (s.ctrl x).yieldSet = false →
      (s.ctrl x).update.op = 2 → (s.ctrl x).update.phase = 4 → s.compat = false → (s.ctrl x).quiet = true →
      exec .handover s = .next (((s.modCtrl x fun c => { c with pausing := true }).sendAll x).modCtrl x fun c =>
        { c.markArea 3 with yieldSet := true })) ∧
    (s.active = some x → s.isStandby x.other = true → (s.ctrl x.other).mirrorOk = true → (s.ctrl x).yieldSet = false →
      (s.ctrl x).dbg.st = 2 → (s.ctrl x).update.op < 2 → (s.ctrl x).quiet = false →
      exec .handover s = .next (s.modCtrl x fun c => { c with pausing := true })) ∧
    (∀ why, s.tadpole x = true → 1 ≤ why → why ≤ 6 → exec (.tailDrop x why) s = .next (s.tailDrop x why)) ∧
    (∀ y, s.active = some y → s.tadpole x = true → s.isStandby x = false → (s.ctrl y).update.since + ms 10000 ≤ s.now →
      exec (.tadpoleTimeout x) s = .next (s.tailDrop x 6)) ∧
    (s.active = some x → (s.ctrl x).update.phase = 8 → (s.ctrl x).update.claimAt + ms 600000 ≤ s.now →
      exec .claimTimeout s = .next (((((s.modCtrl x fun c => { c.unpause with yieldSet := false }).endUpdate x 4 0 x.other 0).restart
        x.other 5).modCtrl x.other fun c => { c with running1 := (c.slotIn 4).getD c.running1 }))) ∧
    (s.active = some x → (s.ctrl x).update.op = 2 → (s.ctrl x).update.phase = 6 → (s.ctrl x).update.soakEnd ≤ s.now →
      s.ctrlA.onTrial = true → s.ctrlB.onTrial = true →
      exec .soakEnd s = .next ((s.modBoth Ctrl.accept).endUpdate x 1 0 x 0))

/-- R400, R408, R410, R416: the bypass follows its conditions; a knot that hears no CSF becomes MASTER after 2 s + n × 20 ms, one that has
heard none for 2 s falls from MEMBER to JOINING, and a member without one for 3 cycles loses the rope's angle and time. -/
def Obligations.RopeRolesRun : Prop :=
  ∀ (s : State) (x : Side), s.active = some x →
    (s.bypassed (s.ctrl x) = true → (s.ctrl x).rope.bypass = false →
      exec .bypassChange s = .next ((s.modRope x fun r => { r with bypass := true, present := 0, isOpen := false }).ropeRole x 3)) ∧
    (s.bypassed (s.ctrl x) = false → (s.ctrl x).rope.bypass = true →
      exec .bypassChange s = .next (s.modRope x fun r => { r with bypass := false, listenAt := s.now, lastCsf := none })) ∧
    (∀ t, (s.ctrl x).hears = true → ropeMode (s.ctrl x).mode = true → (s.ctrl x).rope.role ≠ 0 → (s.ctrl x).rope.yielded = false →
      (s.ctrl x).rope.lastCsf = some t → t + ms (2000 + 20 * s.knotId) ≤ s.now →
      exec .masterTimeout s = .next (s.becomeMaster x)) ∧
    ((s.ctrl x).hears = true → ropeMode (s.ctrl x).mode = true → (s.ctrl x).rope.role ≠ 0 → (s.ctrl x).rope.yielded = false →
      ((s.knotId = 0 ∧ (s.ctrl x).rope.lastCsf = none ∧ (s.ctrl x).rope.reform = false) ∨
        ((s.ctrl x).rope.reform = true ∧ (s.ctrl x).rope.wasMaster = true)) →
      exec .masterTimeout s = .next (s.becomeMaster x)) ∧
    (∀ t, (s.ctrl x).hears = true → (s.ctrl x).rope.role = 1 → (s.ctrl x).rope.lastCsf = some t → t + ms 2000 ≤ s.now →
      exec .noCsfTimeout s = .next (s.ropeRole x 2)) ∧
    (∀ t, (s.ctrl x).rope.role = 1 → (s.ctrl x).rope.lastCsf = some t → t + us 750 ≤ s.now →
      ∃ u, exec .ropeAngleLoss s = .next u ∧ (u.ctrl x).time.state = 3 ∧
        ∀ y, s.runs y = true → ((s.ctrl y).as2.st = .locked ∨ (s.ctrl y).as2.st = .relock) → (u.ctrl y).as2.st = .flywheel)

/-- R407, R409, R413, R414: the master launches the next cycle; a knot that is not master takes a CSF and forwards it; a knot sends its
slot, or a join request while JOINING; the slots of knots that are present are noted and forwarded, and a master grants a join. -/
def Obligations.RopeCyclesRun : Prop :=
  ∀ (s : State) (x : Side), s.active = some x → (s.ctrl x).hears = true →
    ((s.ctrl x).rope.role = 0 → (s.ctrl x).rope.gotCommit = false → exec .csfLaunch s = .next (s.launch x)) ∧
    ((s.ctrl x).rope.role = 0 → (s.ctrl x).rope.gotCommit = true → (s.ctrl x).rope.cycle + 1 = (s.ctrl x).rope.sleepS →
      exec .csfLaunch s = .next s) ∧
    (∀ f, csfGood f = true → (s.ctrl x).rope.role = 0 → exec (.csfReceive f) s = .next (s.masterCsf x f)) ∧
    (∀ f, csfGood f = true → (s.ctrl x).rope.role ≠ 0 → exec (.csfReceive f) s = .next (s.knotCsf x f)) ∧
    (∀ f, csfGood f = false → (s.ctrl x).rope.role = 0 → exec (.csfReceive f) s = .next (s.badFrame x)) ∧
    (∀ f, csfGood f = false → (s.ctrl x).rope.role ≠ 0 → exec (.csfReceive f) s = .next ((s.badFrame x).forwardCsf x f)) ∧
    (∀ error, ropeMode (s.ctrl x).mode = true → (s.ctrl x).rope.role < 2 → (s.ctrl x).rope.muted = false → error ≤ 250 →
      exec (.slotSend error) s = .next (s.dataSlot x)) ∧
    (∀ error, ropeMode (s.ctrl x).mode = true → (s.ctrl x).rope.role = 2 → (s.ctrl x).rope.muted = false → error ≤ 250 →
      exec (.slotSend error) s = .next (s.joinSlot x)) ∧
    (∀ error, ropeMode (s.ctrl x).mode = true → (s.ctrl x).rope.role < 3 → (s.ctrl x).rope.muted = false → 250 < error →
      exec (.slotSend error) s = .next ((s.modRope x fun r =>
        { r with muted := true, relock := 0, mutes := satAt 65535 (r.mutes + 1) }).ropeEvent x 3 s.knotId 0)) ∧
    (∀ h p chk, (s.ctrl x).rope.role ≠ 3 → slotCheck (s.ctrl x).rope.cycle h p = chk → fld h 127 124 ≠ s.knotId →
      nbit (s.ctrl x).rope.present.toNat (fld h 127 124) = false →
      exec (.slotDataReceive ⟨h, chk⟩ p) s = .next (s.emitRope x (.slot h p chk))) ∧
    (∀ h p chk, (s.ctrl x).rope.role ≠ 3 → slotCheck (s.ctrl x).rope.cycle h p = chk → fld h 127 124 ≠ s.knotId →
      nbit (s.ctrl x).rope.present.toNat (fld h 127 124) = true →
      let ws := p.mapIdx fun i w => (fld h (63 - 3 * i) (61 - 3 * i), fld h (36 - 4 * i) (33 - 4 * i), w)
      exec (.slotDataReceive ⟨h, chk⟩ p) s = .next ((((s.noteSlot x h).slotSleep x h).slotWords x (fld h 127 124) (ws.take 9)
        []).emitRope x (.slot h p chk))) ∧
    (∀ h p chk, (s.ctrl x).rope.role ≠ 3 → slotCheck (s.ctrl x).rope.cycle h p ≠ chk →
      exec (.slotDataReceive ⟨h, chk⟩ p) s = .next ((s.badFrame x).emitRope x (.slot h p chk))) ∧
    (∀ h chk, (s.ctrl x).rope.role = 0 → slotCheck (s.ctrl x).rope.cycle h [] = chk → fld h 127 124 ≠ s.knotId →
      (s.ctrl x).rope.sleepSt = 0 → ((s.ctrl x).rope.joinDue.any fun j => j.1 == fld h 127 124) = false →
      exec (.joinReceive ⟨h, chk⟩) s = .next (((s.noteSlot x h).emitRope x (.slot h [] chk)).modRope x fun r =>
        { r with joinDue := r.joinDue ++ [(fld h 127 124, 2)] }))

/-- R405, R419, R420, R421: a command word of a CSF does at a member or JOINING knot what its chapter says; a snapshot ends 2 s after its
latch. -/
def Obligations.RopeCommandsRun : Prop :=
  ∀ (s : State) (x : Side) (w mask : Word), s.active = some x →
    ((s.ctrl x).hears = true → ((s.ctrl x).rope.role = 1 ∨ (s.ctrl x).rope.role = 2) →
      exec (.ropeCmdSnapshot w mask) s = .next (s.cmdSnapshot x w mask) ∧
      exec (.ropeCmdSleepPropose w) s = .next (s.cmdPropose x w) ∧
      ((s.ctrl x).rope.sleepSt ≠ 0 → (s.ctrl x).rope.sleepS.toNat = fld w 119 88 →
        exec (.ropeCmdSleepCommit w) s = .next (((s.modRope x fun r => { r with gotCommit := true, sleepSt := 2 }).ropeEvent x 8 s.knotId
          0).answerSleep x 0 0 0)) ∧
      exec (.ropeCmdSleepAbort w) s = .next (s.cmdAbort x w) ∧
      exec (.ropeCmdRopeReset w) s = .next (s.cmdReset x) ∧
      exec (.ropeCmdSnapshotRefused w) s = .next (s.cmdRefused x w)) ∧
    (exec .snapshotTimeout s = .next (s.endSnaps x fun n => n.latched && decide (n.latchAt + ms 2000 ≤ s.now)))

/-- R36, R48, R421, R422, R423, R424: a committed agreement makes the module DORMANT; the WAKE pin and a wake frame wake it; wake frames are
sent after a wake the knot has seen; a member that loses the rope before the commit wakes the others. -/
def Obligations.SleepCommandsRun : Prop :=
  ∀ (s : State) (x : Side), s.active = some x →
    ((s.ctrl x).rope.gotCommit = true → (s.ctrl x).rope.sleepSt = 2 →
      ((s.ctrl x).mode = .commission ∨ (s.ctrl x).mode = .service ∨ (s.ctrl x).mode = .safeHold) →
      exec .dormantEntry s = .next ((s.draw.2.enterMode x .dormant (s.draw.1 % 16) 0xFFF 0).modRope x fun r =>
        { r with
          sleepSt := 0, gotCommit := false, sleptAt := s.clock (s.ctrl x), wakeSent := 0, woke := false, wakeBy := 0
          present := if r.role = 0 then BitVec.ofNat 16 s.ownBit else 0, lastCsf := none, joinDue := []
          cmds := [], asks := [], isOpen := false })) ∧
    (exec .wakePin s = .next s.signalWake) ∧
    ((s.ctrl x).rope.bypass = false → (s.ctrl x).mode = .dormant → (s.ctrl x).rope.wakeSeen = true → (s.ctrl x).rope.wakeBy = 0 →
      (s.ctrl x).rope.wakeSent < 4 → ((s.ctrl x).rope.wakeSent = 0 ∨ (s.ctrl x).rope.wakeAt + us 50 ≤ s.now) →
      exec .wakeFrameSend s = .next ((s.emitRope x (.wakeFrame s.knotId)).modRope x fun r =>
        { r with wakeSent := r.wakeSent + 1, wakeAt := s.now, woke := r.woke && decide (r.wakeSent < 3) })) ∧
    (∀ k, (s.ctrl x).rope.bypass = false → (s.ctrl x).mode = .dormant → k ≠ s.knotId → (s.ctrl x).rope.wakeSeen = false →
      exec (.wakeFrameReceive k) s = .next ((s.emitRope x (.wakeFrame k)).modRope x fun r => { r with wakeSeen := true, wakeBy := k + 1 })) ∧
    (∀ k, (s.ctrl x).mode ≠ .dormant → exec (.wakeFrameReceive k) s = .next s) ∧
    ((s.ctrl x).mode = .dormant → (s.ctrl x).rope.wakeSeen = true → ∃ t, exec .wake s = .next t ∧
      (t.ctrl x).mode = (if (s.ctrl x).escPending then .safeHold else (s.ctrl x).modeBefore) ∧ (t.ctrl x).rope.wakeSeen = false) ∧
    ((s.ctrl x).mode ≠ .dormant → (s.ctrl x).rope.role = 1 → (s.ctrl x).rope.sleepSt ≠ 0 → (s.ctrl x).rope.gotCommit = false →
      ∀ t, (s.ctrl x).rope.lastCsf = some t → t + us 750 ≤ s.now →
      exec .sleepOrphanWake s = .next (s.modRope x fun r => { r with woke := true, wakeSent := 0, wakeBy := 0, sleepSt := 0 }))

/-- R362, R363: in no step does the epoch of the tether word change but by a grant, and each grant from HELD_x or VACANT carries the
previous epoch plus 1. The tether changes hands only with a new epoch. -/
def Obligations.EpochChangesOnlyByGrants : Prop :=
  ∀ (s t : State), s.arb.st ≠ .start → step s = .next t → t.arb.st ≠ .start →
    (t.arb.epoch = s.arb.epoch ∨ (t.arb.epoch = s.arb.epoch + 1 ∧ t.arb.kind = 1 ∧ t.arb.renew = 0 ∧ ∃ y, t.arb.st = .held y)) ∧
    (∀ x y, s.arb.st = .held x → t.arb.st = .held y → x ≠ y → t.arb.epoch = s.arb.epoch + 1)

/-- R363, whole: the epoch of a grant from HELD_x or VACANT is the previous one plus 1, modulo 2^32; from START it is one more than the
largest `LAST_EPOCH` heard from either controller; and e is at least p when (e - p) mod 2^32 is below 2^31. A grant that is due carries
that epoch. -/
def Obligations.GrantEpochs : Prop :=
  (∀ a : Arbiter, a.st ≠ .start → a.nextEpoch.toNat = (a.epoch.toNat + 1) % 2 ^ 32) ∧
  (∀ (a : Arbiter) t u, a.st = .start → a.beatA.last = some t → a.beatB.last = some u →
    epochGe a.beatA.epoch a.beatB.epoch = true → a.nextEpoch = a.beatA.epoch + 1) ∧
  (∀ (a : Arbiter) t u, a.st = .start → a.beatA.last = some t → a.beatB.last = some u →
    epochGe a.beatB.epoch a.beatA.epoch = true → a.nextEpoch = a.beatB.epoch + 1) ∧
  (∀ (a : Arbiter) t, a.st = .start → a.beatA.last = some t → a.beatB.last = none → a.nextEpoch = a.beatA.epoch + 1) ∧
  (∀ (a : Arbiter) t, a.st = .start → a.beatA.last = none → a.beatB.last = some t → a.nextEpoch = a.beatB.epoch + 1) ∧
  (∀ e p : BitVec 32, epochGe e p = true ↔ (e.toNat + 2 ^ 32 - p.toNat) % 2 ^ 32 < 2 ^ 31) ∧
  (∀ (s : State) y why, s.grantDue = some (y, why) → ∃ t, exec .tetherGrant s = .next t ∧ t.arb.epoch = s.arb.nextEpoch)

/-- The frame of every command that acts on no pod, channel, supply or clock (`actsOnField` lists those that do): the pods, the digital
and loop channels, the boundary registers, the supply, USB's VBUS and the time stay as they are. -/
def Obligations.FieldSideFrame : Prop :=
  ∀ (i : Instr) (s t : State), actsOnField i = false → exec i s = .next t →
    t.pods = s.pods ∧ t.digs = s.digs ∧ t.loops = s.loops ∧ t.scans = s.scans ∧ t.supply = s.supply ∧
    t.powerFail = s.powerFail ∧ t.vbus = s.vbus ∧ t.now = s.now

/-- The frame of the commands on one digital channel or its protection, and of the verdicts and results on one loop channel: no controller
changes, nor the arbiter, nor a channel of the other kind, nor another channel of its own kind, nor another pod, nor the supply. -/
def Obligations.ChannelCommandsFrame : Prop :=
  (∀ (i : Instr) (s t : State) (ch : Nat),
      (i = .shortTrip ch ∨ i = .overloadTrip ch ∨ (∃ temp, i = .overtempTrip ch temp) ∨ i = .protectionRetry ch ∨
        i = .protectionClear ch ∨ (∃ d, i = .mismatchVerdict ch d) ∨ (∃ d, i = .offStateShortVerdict ch d) ∨
        i = .levelChangeDeferred ch ∨ (∃ o, i = .openVerdict ch o) ∨ (∃ l k, i = .edgeCapture ch l k)) →
      exec i s = .next t →
      t.ctrlA = s.ctrlA ∧ t.ctrlB = s.ctrlB ∧ t.arb = s.arb ∧ t.loops = s.loops ∧ t.now = s.now ∧ t.supply = s.supply ∧
      (∀ k, k ≠ ch → t.dig k = s.dig k) ∧ (∀ l, l ≠ linkOf ch → t.pod l = s.pod l)) ∧
  (∀ (i : Instr) (s t : State) (ch : Nat),
      (i = .verifyOpenLoop ch ∨ i = .verifyCompliance ch ∨ (∃ b, i = .verifyClear ch b) ∨ (∃ b, i = .supplyVerdict ch b) ∨
        (∃ b, i = .loopOverloadVerdict ch b) ∨ (∃ b, i = .loopOvertemp ch b) ∨ i = .loopOvertempFlagClear ch ∨
        i = .loopBreakConfirm ch ∨ i = .modulatorPowerDown ch ∨ i = .modulatorStartUpEnd ch ∨ (∃ r, i = .readbackResult ch r) ∨
        (∃ r, i = .conversionResult ch r)) →
      exec i s = .next t →
      t.ctrlA = s.ctrlA ∧ t.ctrlB = s.ctrlB ∧ t.arb = s.arb ∧ t.digs = s.digs ∧ t.now = s.now ∧ t.supply = s.supply ∧
      (∀ k, k ≠ ch → t.loop k = s.loop k) ∧ (∀ l, l ≠ linkOf ch → t.pod l = s.pod l))

/-- The frame of an admitted query outside a sleep agreement: of the controller that answers, only its sessions and the messages in
flight change, and with DUTY_QUERY, PLACEMENT_QUERY, JOURNAL_READ, CFG_READ and FAULT_READ nothing else anywhere but in the
mirrored data set of a STANDBY controller. -/
def Obligations.QueriesFrame : Prop :=
  ∀ (i : Instr) (s t : State) (x : Side) (op : Nat) (q : Req) (p : List Word),
    (i = .cfgRead q p ∨ i = .dutyQuery q p ∨ i = .placementQuery q p ∨ i = .journalRead q p ∨ i = .faultRead q p) →
    requestOf i = some (op, q, p) → s.admits x op q p = true → (s.ctrl x).rope.sleepSt = 0 → exec i s = .next t →
    { t.ctrl x with sessions := (s.ctrl x).sessions, flights := (s.ctrl x).flights } = s.ctrl x ∧
    (s.isStandby x.other = false → t.ctrl x.other = s.ctrl x.other) ∧
    t.arb = s.arb ∧ t.wire = s.wire

/-- R63, whole: a request that is refused at its commit, under R49, R62 or the checks of its own chapter, leaves its REQUEST entry with
the refusal status and its reply, and no effect. (A WDOG_KEY that its mode allows and its own chapter refuses also ends its sequence,
R438, and is not meant here.) So does LOGLINE_COMMIT for a message that waited. -/
def Obligations.RefusedRequestsHaveNoEffect : Prop :=
  (∀ (i : Instr) (s : State) (x : Side) (op : Nat) (q : Req) (p : List Word),
    requestOf i = some (op, q, p) → s.admits x op q p = true → journalled op p = true →
    let u := s.entered x op q p
    let st := u.commitStatus x op q p
    (u.ctrl x).waiting = [] → (u.ctrl x).commitsOp op = true → st ≠ stOk →
    (op = 0x55 → modeStatus (u.ctrl x).mode op p (u.ctrl x) ≠ stOk) →
    exec i s = .next ((((u.journalReq x q op 0 st q.crc).modCtrl x fun c =>
      c.modFlight q.tag fun f => { f with committed := true }).modCtrl x fun c => c.finish q.tag st []).syncTags x)) ∧
  (∀ (s : State) (x : Side) (op : Nat) (q : Req) (p : List Word) (rest : List (Nat × Req × List Word)),
    s.active = some x → (s.ctrl x).waiting = (op, q, p) :: rest → (s.ctrl x).commitsOp op = true →
    let u := s.setCtrl x { s.ctrl x with waiting := rest }
    let st := u.commitStatus x op q p
    u.stale x = false → st ≠ stOk → op ≠ 0x55 →
    exec .loglineCommit s = .next ((((u.journalReq x q op 0 st q.crc).modCtrl x fun c =>
      c.modFlight q.tag fun f => { f with committed := true }).modCtrl x fun c => c.finish q.tag st []).syncTags x))

/-- R450, whole: FAULT_PIN_RELEASE is refused with BUSY while an episode is open or within 10 ms of the last assertion; otherwise it
releases the collector's hold and answers OK, and leaves the holds of the start-up path and of the arbiter. A payload is refused. -/
def Obligations.FaultPinReleaseFollowsItsRule : Prop :=
  ∀ (s : State) (x : Side) (q : Req) (p : List Word), s.admits x 0x52 q p = true →
    let u := s.entered x 0x52 q p
    let f := (u.ctrl x).faults
    (u.ctrl x).waiting = [] → (u.ctrl x).commitsOp 0x52 = true →
    (p = [] → (f.episode.isOpen = true ∨ (f.episode.number ≠ 0 ∧ s.now < f.pinAt + ms 10)) →
      ∃ t, exec (.faultPinRelease q p) s = .next t ∧ (t.ctrl x).faults.pinHeld = f.pinHeld ∧
        t.startHold = s.startHold ∧ t.arb = s.arb ∧
        t = ((((u.journalReq x q 0x52 0 stBusy q.crc).modCtrl x fun c =>
          c.modFlight q.tag fun g => { g with committed := true }).modCtrl x fun c => c.finish q.tag stBusy []).syncTags x)) ∧
    (p = [] → f.episode.isOpen = false → (f.episode.number = 0 ∨ f.pinAt + ms 10 ≤ s.now) →
      ∃ t, exec (.faultPinRelease q p) s = .next t ∧ (t.ctrl x).faults.pinHeld = false ∧
        t.startHold = s.startHold ∧ t.arb = s.arb ∧
        t = (effectPinRelease x (s.begun x 0x52 q p)).replied x q stOk []) ∧
    (p ≠ [] → ∃ t, exec (.faultPinRelease q p) s = .next t ∧ (t.ctrl x).faults.pinHeld = f.pinHeld ∧
      t.startHold = s.startHold ∧ t.arb = s.arb)

/-- R9, whole: a channel ID below 0x400 is digital, with pod id >> 4 and pin id & 15; 0x400 to 0x47F is a loop, with loop pod
(id - 0x400) >> 2 and position id & 3; 0x480 to 0xFFF is neither. The links of loop pods follow the 64 of digital pods. -/
def Obligations.ChannelIds : Prop :=
  ∀ ch : Nat, ch < 4096 →
    (isDigital ch = true ↔ ch ≤ 0x3FF) ∧ (isLoop ch = true ↔ 0x400 ≤ ch ∧ ch ≤ 0x47F) ∧
    (isDigital ch = true → linkOf ch = ch >>> 4 ∧ pinOf ch = ch &&& 15 ∧ linkOf ch < 64) ∧
    (isLoop ch = true → linkOf ch = 64 + ((ch - 0x400) >>> 2) ∧ pinOf ch = ch &&& 3 ∧ linkOf ch < 96) ∧
    (0x480 ≤ ch → isDigital ch = false ∧ isLoop ch = false)

/-- R41, whole: the auxiliary comparator is in WB use (1) in SERVICE and SAFE_HOLD, in EDGE use (2) in COMMISSION, RECOVERY and MAINTAIN,
and idle (0) in BOOT, CALIBRATE and DORMANT. -/
def Obligations.AuxiliaryComparatorByMode : Prop :=
  ∀ m : Mode,
    (auxUse m = 1 ↔ m = .service ∨ m = .safeHold) ∧
    (auxUse m = 2 ↔ m = .commission ∨ m = .recovery ∨ m = .maintain) ∧
    (auxUse m = 0 ↔ m = .boot ∨ m = .calibrate ∨ m = .dormant)

/-- R411, whole: a master that receives a good CSF with another serial compares the serials. With the higher it becomes JOINING, raises
`STRAP_CONFLICT`, sends no CSF any more and asks to join in its slot; with the lower it keeps its role and strips the foreign CSF. -/
def Obligations.MasterMeetsMaster : Prop :=
  ∀ (s : State) (x : Side) (f : Csf), s.active = some x → (s.ctrl x).hears = true → (s.ctrl x).rope.role = 0 →
    csfGood f = true →
    (fld f.header 71 40 < Config.serialNumber.toNat → ∃ t, exec (.csfReceive f) s = .next t ∧
      (t.ctrl x).rope.role = 2 ∧ (t.ctrl x).rope.conflict = true ∧ t.wire = s.wire ∧ exec .csfLaunch t = .next t ∧
      (ropeMode (s.ctrl x).mode = true → (s.ctrl x).rope.muted = false → exec (.slotSend 0) t = .next (t.joinSlot x))) ∧
    (Config.serialNumber.toNat < fld f.header 71 40 → exec (.csfReceive f) s = .next s)

/-- R367, R369: a pod acts on a frame's commands only when it uses the frame and, outside COMPAT, the frame's tether word passes: its
check value and kind, its side, and its epoch, which the pod then takes. One word passes on at most one link of a pod. -/
def Obligations.PodsActOnPassedWordsOnly : Prop :=
  (∀ (s u : State) (link : Nat) (h : DownHdr) (used : Bool), s.podFrame link h = (u, used, true) →
    used = true ∧ (s.pod link).powered = true ∧ link < 96 ∧
    (s.compat = false → tetherOk h.tether = true ∧ tetherKind h.tether = 1 ∧ tetherSide h.tether = h.side ∧
      ((s.pod link).acceptAny = true ∨
        (tetherEpoch h.tether = (s.pod link).epoch ∧ (s.pod link).leaseRuns s.now = true) ∨
        (tetherEpoch h.tether ≠ (s.pod link).epoch ∧ epochGe (tetherEpoch h.tether) (s.pod link).epoch = true)) ∧
      (u.pod link).epoch = tetherEpoch h.tether)) ∧
  (∀ (p : Pod) (now : Nat) (w : BitVec 48), p.grantPasses now .a w = true → p.grantPasses now .b w = false)

/-- R480: a Fyvail write to MEMORY changes at most the four bytes of SRAM of its own controller that the address selects, and only while
that controller's core is stopped; every other byte of SRAM and NOR reads as before, and the memories keep their form. -/
def Obligations.FyvailMemoryWriteBytes : Prop :=
  ∀ (s : State) (x : Side) (addr : Nat) (data : BitVec 32),
    (∀ a, s.supply = true → (s.ctrl x).dbg.stopped = true → Config.sramAddress addr = some a → a + 4 ≤ sramSize →
      ∃ t, exec (.fyvailMemoryWrite (.ctrl x) addr data) s = .next t ∧
        (∀ n, n < a ∨ a + 4 ≤ n → memByte sramEmpty (t.ctrl x).sram n = memByte sramEmpty (s.ctrl x).sram n) ∧
        (∀ k, k < 4 → memByte sramEmpty (t.ctrl x).sram (a + k) = (fourBytes data).getD k 0)) ∧
    (∀ d t, exec (.fyvailMemoryWrite d addr data) s = .next t →
      (∀ y n, (∀ a, Config.sramAddress addr = some a → n < a ∨ a + 4 ≤ n) →
        memByte sramEmpty (t.ctrl y).sram n = memByte sramEmpty (s.ctrl y).sram n) ∧
      (∀ y, (s.ctrl y).dbg.stopped = false → (t.ctrl y).sram = (s.ctrl y).sram) ∧
      (∀ y, (t.ctrl y).nor = (s.ctrl y).nor ∧ (t.ctrl y).keep = (s.ctrl y).keep) ∧
      (∀ y, (s.ctrl y).sram.wf sramEmpty = true → (t.ctrl y).sram.wf sramEmpty = true))

/-- R117, R118: LOGIC makes T of V, of the latch or of another duty's T as `OP` says and keeps S and V; COUNT leaves every counter at
most 16,383, and T 1 exactly when V holds a channel. -/
def Obligations.LogicAndCountStages : Prop :=
  ∀ (s : State) (x : Side) (e : Exec) (w : Word),
    let r := (stageLogic x e w s).2.1
    let m := BitVec.ofNat 64 (fld w 63 0)
    (stageLogic x e w s).1 = s ∧ r.S = e.S ∧ r.V = e.V ∧ r.cmds = e.cmds ∧
    (fld w 111 108 = 0 → (r.T = true ↔ (e.T = true ∨ (e.V &&& m) ≠ 0))) ∧
    (fld w 111 108 = 1 → (r.T = true ↔ (e.V &&& m) = m)) ∧
    (fld w 111 108 = 2 → r.T = (!e.T)) ∧
    (fld w 111 108 = 3 → (r.T = true ↔ (e.T = true ∨ tget false e.stages.latches e.stage = true)) ∧
      tget false r.stages.latches e.stage = r.T) ∧
    (fld w 111 108 = 4 → bitOf w 91 = false →
      (r.T = true ↔ (e.T = true ∧ ((s.ctrl x).duty (fld w 107 96)).running = true ∧ ((s.ctrl x).duty (fld w 107 96)).t = true))) ∧
    (fld w 111 108 = 5 → bitOf w 91 = false →
      (r.T = true ↔ (e.T = true ∨ (((s.ctrl x).duty (fld w 107 96)).running = true ∧ ((s.ctrl x).duty (fld w 107 96)).t = true)))) ∧
    (let k := (stageCount x e w s).2.1;
      (stageCount x e w s).1 = s ∧ k.S = e.S ∧ k.cmds = e.cmds ∧
      ((∀ i, tget 0 e.stages.counts (64 * e.stage + i) ≤ 16383) → ∀ i, tget 0 k.stages.counts (64 * e.stage + i) ≤ 16383) ∧
      (e.card.set.length ≤ 64 → (k.T = true ↔ k.V ≠ 0)) ∧
      (∀ j, j < 64 * e.stage → tget 0 k.stages.counts j = tget 0 e.stages.counts j))
end

