-- ==== Sys2Proof/Laws/State.lean ====
section
/-! SUPPORT. What each update of the state leaves alone, field by field, and the part of the state that almost every command
leaves alone: the command queue, the straps, and the arbiter's state and tether word. -/

namespace Sys2Proof.Machine

/-! ## Field lemmas of the updates of the state -/

@[simp] theorem State.setCtrl_pending (s : State) (x : Side) (c : Ctrl) : (s.setCtrl x c).pending = s.pending := by cases x <;> rfl
@[simp] theorem State.setCtrl_now (s : State) (x : Side) (c : Ctrl) : (s.setCtrl x c).now = s.now := by cases x <;> rfl
@[simp] theorem State.setCtrl_free (s : State) (x : Side) (c : Ctrl) : (s.setCtrl x c).free = s.free := by cases x <;> rfl
@[simp] theorem State.setCtrl_knotId (s : State) (x : Side) (c : Ctrl) : (s.setCtrl x c).knotId = s.knotId := by cases x <;> rfl
@[simp] theorem State.setCtrl_compat (s : State) (x : Side) (c : Ctrl) : (s.setCtrl x c).compat = s.compat := by cases x <;> rfl
@[simp] theorem State.setCtrl_safeBoot (s : State) (x : Side) (c : Ctrl) : (s.setCtrl x c).safeBoot = s.safeBoot := by cases x <;> rfl
@[simp] theorem State.setCtrl_supply (s : State) (x : Side) (c : Ctrl) : (s.setCtrl x c).supply = s.supply := by cases x <;> rfl
@[simp] theorem State.setCtrl_powerFail (s : State) (x : Side) (c : Ctrl) : (s.setCtrl x c).powerFail = s.powerFail := by cases x <;> rfl
@[simp] theorem State.setCtrl_startHold (s : State) (x : Side) (c : Ctrl) : (s.setCtrl x c).startHold = s.startHold := by cases x <;> rfl
@[simp] theorem State.setCtrl_firstGrant (s : State) (x : Side) (c : Ctrl) : (s.setCtrl x c).firstGrant = s.firstGrant := by cases x <;> rfl
@[simp] theorem State.setCtrl_arb (s : State) (x : Side) (c : Ctrl) : (s.setCtrl x c).arb = s.arb := by cases x <;> rfl
@[simp] theorem State.setCtrl_pods (s : State) (x : Side) (c : Ctrl) : (s.setCtrl x c).pods = s.pods := by cases x <;> rfl
@[simp] theorem State.setCtrl_digs (s : State) (x : Side) (c : Ctrl) : (s.setCtrl x c).digs = s.digs := by cases x <;> rfl
@[simp] theorem State.setCtrl_loops (s : State) (x : Side) (c : Ctrl) : (s.setCtrl x c).loops = s.loops := by cases x <;> rfl
@[simp] theorem State.setCtrl_vbus (s : State) (x : Side) (c : Ctrl) : (s.setCtrl x c).vbus = s.vbus := by cases x <;> rfl
@[simp] theorem State.setCtrl_attached (s : State) (x : Side) (c : Ctrl) : (s.setCtrl x c).attached = s.attached := by cases x <;> rfl
@[simp] theorem State.setCtrl_usbLink (s : State) (x : Side) (c : Ctrl) : (s.setCtrl x c).usbLink = s.usbLink := by cases x <;> rfl
@[simp] theorem State.setCtrl_detachAt (s : State) (x : Side) (c : Ctrl) : (s.setCtrl x c).detachAt = s.detachAt := by cases x <;> rfl
@[simp] theorem State.setCtrl_locate (s : State) (x : Side) (c : Ctrl) : (s.setCtrl x c).locate = s.locate := by cases x <;> rfl
@[simp] theorem State.setCtrl_scans (s : State) (x : Side) (c : Ctrl) : (s.setCtrl x c).scans = s.scans := by cases x <;> rfl
@[simp] theorem State.setCtrl_wire (s : State) (x : Side) (c : Ctrl) : (s.setCtrl x c).wire = s.wire := by cases x <;> rfl

@[simp] theorem State.setCtrl_ctrl (s : State) (x : Side) (c : Ctrl) : (s.setCtrl x c).ctrl x = c := by cases x <;> rfl
@[simp] theorem State.setCtrl_ctrl_other (s : State) (x : Side) (c : Ctrl) : (s.setCtrl x c).ctrl x.other = s.ctrl x.other := by
  cases x <;> rfl
@[simp] theorem State.setCtrl_other_ctrl (s : State) (x : Side) (c : Ctrl) : (s.setCtrl x.other c).ctrl x = s.ctrl x := by
  cases x <;> rfl
@[simp] theorem State.modCtrl_ctrl (s : State) (x : Side) (f : Ctrl → Ctrl) : (s.modCtrl x f).ctrl x = f (s.ctrl x) := by
  simp [State.modCtrl]
@[simp] theorem State.modCtrl_ctrl_other (s : State) (x : Side) (f : Ctrl → Ctrl) :
    (s.modCtrl x f).ctrl x.other = s.ctrl x.other := by simp [State.modCtrl]
@[simp] theorem State.modCtrl_other_ctrl (s : State) (x : Side) (f : Ctrl → Ctrl) :
    (s.modCtrl x.other f).ctrl x = s.ctrl x := by simp [State.modCtrl]

@[simp] theorem State.modCtrl_pending (s : State) (x : Side) (f : Ctrl → Ctrl) : (s.modCtrl x f).pending = s.pending := by cases x <;> rfl
@[simp] theorem State.modCtrl_now (s : State) (x : Side) (f : Ctrl → Ctrl) : (s.modCtrl x f).now = s.now := by cases x <;> rfl
@[simp] theorem State.modCtrl_free (s : State) (x : Side) (f : Ctrl → Ctrl) : (s.modCtrl x f).free = s.free := by cases x <;> rfl
@[simp] theorem State.modCtrl_knotId (s : State) (x : Side) (f : Ctrl → Ctrl) : (s.modCtrl x f).knotId = s.knotId := by cases x <;> rfl
@[simp] theorem State.modCtrl_compat (s : State) (x : Side) (f : Ctrl → Ctrl) : (s.modCtrl x f).compat = s.compat := by cases x <;> rfl
@[simp] theorem State.modCtrl_safeBoot (s : State) (x : Side) (f : Ctrl → Ctrl) : (s.modCtrl x f).safeBoot = s.safeBoot := by cases x <;> rfl
@[simp] theorem State.modCtrl_supply (s : State) (x : Side) (f : Ctrl → Ctrl) : (s.modCtrl x f).supply = s.supply := by cases x <;> rfl
@[simp] theorem State.modCtrl_powerFail (s : State) (x : Side) (f : Ctrl → Ctrl) : (s.modCtrl x f).powerFail = s.powerFail := by cases x <;> rfl
@[simp] theorem State.modCtrl_startHold (s : State) (x : Side) (f : Ctrl → Ctrl) : (s.modCtrl x f).startHold = s.startHold := by cases x <;> rfl
@[simp] theorem State.modCtrl_firstGrant (s : State) (x : Side) (f : Ctrl → Ctrl) : (s.modCtrl x f).firstGrant = s.firstGrant := by cases x <;> rfl
@[simp] theorem State.modCtrl_arb (s : State) (x : Side) (f : Ctrl → Ctrl) : (s.modCtrl x f).arb = s.arb := by cases x <;> rfl
@[simp] theorem State.modCtrl_pods (s : State) (x : Side) (f : Ctrl → Ctrl) : (s.modCtrl x f).pods = s.pods := by cases x <;> rfl
@[simp] theorem State.modCtrl_digs (s : State) (x : Side) (f : Ctrl → Ctrl) : (s.modCtrl x f).digs = s.digs := by cases x <;> rfl
@[simp] theorem State.modCtrl_loops (s : State) (x : Side) (f : Ctrl → Ctrl) : (s.modCtrl x f).loops = s.loops := by cases x <;> rfl
@[simp] theorem State.modCtrl_vbus (s : State) (x : Side) (f : Ctrl → Ctrl) : (s.modCtrl x f).vbus = s.vbus := by cases x <;> rfl
@[simp] theorem State.modCtrl_attached (s : State) (x : Side) (f : Ctrl → Ctrl) : (s.modCtrl x f).attached = s.attached := by cases x <;> rfl
@[simp] theorem State.modCtrl_usbLink (s : State) (x : Side) (f : Ctrl → Ctrl) : (s.modCtrl x f).usbLink = s.usbLink := by cases x <;> rfl
@[simp] theorem State.modCtrl_detachAt (s : State) (x : Side) (f : Ctrl → Ctrl) : (s.modCtrl x f).detachAt = s.detachAt := by cases x <;> rfl
@[simp] theorem State.modCtrl_locate (s : State) (x : Side) (f : Ctrl → Ctrl) : (s.modCtrl x f).locate = s.locate := by cases x <;> rfl
@[simp] theorem State.modCtrl_scans (s : State) (x : Side) (f : Ctrl → Ctrl) : (s.modCtrl x f).scans = s.scans := by cases x <;> rfl
@[simp] theorem State.modCtrl_wire (s : State) (x : Side) (f : Ctrl → Ctrl) : (s.modCtrl x f).wire = s.wire := by cases x <;> rfl

@[simp] theorem State.emit_pending (s : State) (o : Out) : (s.emit o).pending = s.pending := rfl
@[simp] theorem State.emit_now (s : State) (o : Out) : (s.emit o).now = s.now := rfl
@[simp] theorem State.emit_free (s : State) (o : Out) : (s.emit o).free = s.free := rfl
@[simp] theorem State.emit_knotId (s : State) (o : Out) : (s.emit o).knotId = s.knotId := rfl
@[simp] theorem State.emit_compat (s : State) (o : Out) : (s.emit o).compat = s.compat := rfl
@[simp] theorem State.emit_safeBoot (s : State) (o : Out) : (s.emit o).safeBoot = s.safeBoot := rfl
@[simp] theorem State.emit_supply (s : State) (o : Out) : (s.emit o).supply = s.supply := rfl
@[simp] theorem State.emit_powerFail (s : State) (o : Out) : (s.emit o).powerFail = s.powerFail := rfl
@[simp] theorem State.emit_startHold (s : State) (o : Out) : (s.emit o).startHold = s.startHold := rfl
@[simp] theorem State.emit_firstGrant (s : State) (o : Out) : (s.emit o).firstGrant = s.firstGrant := rfl
@[simp] theorem State.emit_ctrlA (s : State) (o : Out) : (s.emit o).ctrlA = s.ctrlA := rfl
@[simp] theorem State.emit_ctrlB (s : State) (o : Out) : (s.emit o).ctrlB = s.ctrlB := rfl
@[simp] theorem State.emit_arb (s : State) (o : Out) : (s.emit o).arb = s.arb := rfl
@[simp] theorem State.emit_pods (s : State) (o : Out) : (s.emit o).pods = s.pods := rfl
@[simp] theorem State.emit_digs (s : State) (o : Out) : (s.emit o).digs = s.digs := rfl
@[simp] theorem State.emit_loops (s : State) (o : Out) : (s.emit o).loops = s.loops := rfl
@[simp] theorem State.emit_vbus (s : State) (o : Out) : (s.emit o).vbus = s.vbus := rfl
@[simp] theorem State.emit_attached (s : State) (o : Out) : (s.emit o).attached = s.attached := rfl
@[simp] theorem State.emit_usbLink (s : State) (o : Out) : (s.emit o).usbLink = s.usbLink := rfl
@[simp] theorem State.emit_detachAt (s : State) (o : Out) : (s.emit o).detachAt = s.detachAt := rfl
@[simp] theorem State.emit_locate (s : State) (o : Out) : (s.emit o).locate = s.locate := rfl
@[simp] theorem State.emit_scans (s : State) (o : Out) : (s.emit o).scans = s.scans := rfl

@[simp] theorem State.emit_wire (s : State) (o : Out) : (s.emit o).wire = o :: s.wire := rfl
@[simp] theorem State.emit_ctrl (s : State) (o : Out) (x : Side) : (s.emit o).ctrl x = s.ctrl x := by cases x <;> rfl

@[simp] theorem State.setPod_pending (s : State) (i : Nat) (v : Pod) : (s.setPod i v).pending = s.pending := rfl
@[simp] theorem State.setPod_now (s : State) (i : Nat) (v : Pod) : (s.setPod i v).now = s.now := rfl
@[simp] theorem State.setPod_free (s : State) (i : Nat) (v : Pod) : (s.setPod i v).free = s.free := rfl
@[simp] theorem State.setPod_knotId (s : State) (i : Nat) (v : Pod) : (s.setPod i v).knotId = s.knotId := rfl
@[simp] theorem State.setPod_compat (s : State) (i : Nat) (v : Pod) : (s.setPod i v).compat = s.compat := rfl
@[simp] theorem State.setPod_safeBoot (s : State) (i : Nat) (v : Pod) : (s.setPod i v).safeBoot = s.safeBoot := rfl
@[simp] theorem State.setPod_supply (s : State) (i : Nat) (v : Pod) : (s.setPod i v).supply = s.supply := rfl
@[simp] theorem State.setPod_powerFail (s : State) (i : Nat) (v : Pod) : (s.setPod i v).powerFail = s.powerFail := rfl
@[simp] theorem State.setPod_startHold (s : State) (i : Nat) (v : Pod) : (s.setPod i v).startHold = s.startHold := rfl
@[simp] theorem State.setPod_firstGrant (s : State) (i : Nat) (v : Pod) : (s.setPod i v).firstGrant = s.firstGrant := rfl
@[simp] theorem State.setPod_ctrlA (s : State) (i : Nat) (v : Pod) : (s.setPod i v).ctrlA = s.ctrlA := rfl
@[simp] theorem State.setPod_ctrlB (s : State) (i : Nat) (v : Pod) : (s.setPod i v).ctrlB = s.ctrlB := rfl
@[simp] theorem State.setPod_arb (s : State) (i : Nat) (v : Pod) : (s.setPod i v).arb = s.arb := rfl
@[simp] theorem State.setPod_digs (s : State) (i : Nat) (v : Pod) : (s.setPod i v).digs = s.digs := rfl
@[simp] theorem State.setPod_loops (s : State) (i : Nat) (v : Pod) : (s.setPod i v).loops = s.loops := rfl
@[simp] theorem State.setPod_vbus (s : State) (i : Nat) (v : Pod) : (s.setPod i v).vbus = s.vbus := rfl
@[simp] theorem State.setPod_attached (s : State) (i : Nat) (v : Pod) : (s.setPod i v).attached = s.attached := rfl
@[simp] theorem State.setPod_usbLink (s : State) (i : Nat) (v : Pod) : (s.setPod i v).usbLink = s.usbLink := rfl
@[simp] theorem State.setPod_detachAt (s : State) (i : Nat) (v : Pod) : (s.setPod i v).detachAt = s.detachAt := rfl
@[simp] theorem State.setPod_locate (s : State) (i : Nat) (v : Pod) : (s.setPod i v).locate = s.locate := rfl
@[simp] theorem State.setPod_scans (s : State) (i : Nat) (v : Pod) : (s.setPod i v).scans = s.scans := rfl
@[simp] theorem State.setPod_wire (s : State) (i : Nat) (v : Pod) : (s.setPod i v).wire = s.wire := rfl

@[simp] theorem State.setPod_ctrl (s : State) (i : Nat) (v : Pod) (x : Side) : (s.setPod i v).ctrl x = s.ctrl x := by
  cases x <;> rfl

@[simp] theorem State.setDig_pending (s : State) (i : Nat) (v : DigCh) : (s.setDig i v).pending = s.pending := rfl
@[simp] theorem State.setDig_now (s : State) (i : Nat) (v : DigCh) : (s.setDig i v).now = s.now := rfl
@[simp] theorem State.setDig_free (s : State) (i : Nat) (v : DigCh) : (s.setDig i v).free = s.free := rfl
@[simp] theorem State.setDig_knotId (s : State) (i : Nat) (v : DigCh) : (s.setDig i v).knotId = s.knotId := rfl
@[simp] theorem State.setDig_compat (s : State) (i : Nat) (v : DigCh) : (s.setDig i v).compat = s.compat := rfl
@[simp] theorem State.setDig_safeBoot (s : State) (i : Nat) (v : DigCh) : (s.setDig i v).safeBoot = s.safeBoot := rfl
@[simp] theorem State.setDig_supply (s : State) (i : Nat) (v : DigCh) : (s.setDig i v).supply = s.supply := rfl
@[simp] theorem State.setDig_powerFail (s : State) (i : Nat) (v : DigCh) : (s.setDig i v).powerFail = s.powerFail := rfl
@[simp] theorem State.setDig_startHold (s : State) (i : Nat) (v : DigCh) : (s.setDig i v).startHold = s.startHold := rfl
@[simp] theorem State.setDig_firstGrant (s : State) (i : Nat) (v : DigCh) : (s.setDig i v).firstGrant = s.firstGrant := rfl
@[simp] theorem State.setDig_ctrlA (s : State) (i : Nat) (v : DigCh) : (s.setDig i v).ctrlA = s.ctrlA := rfl
@[simp] theorem State.setDig_ctrlB (s : State) (i : Nat) (v : DigCh) : (s.setDig i v).ctrlB = s.ctrlB := rfl
@[simp] theorem State.setDig_arb (s : State) (i : Nat) (v : DigCh) : (s.setDig i v).arb = s.arb := rfl
@[simp] theorem State.setDig_pods (s : State) (i : Nat) (v : DigCh) : (s.setDig i v).pods = s.pods := rfl
@[simp] theorem State.setDig_loops (s : State) (i : Nat) (v : DigCh) : (s.setDig i v).loops = s.loops := rfl
@[simp] theorem State.setDig_vbus (s : State) (i : Nat) (v : DigCh) : (s.setDig i v).vbus = s.vbus := rfl
@[simp] theorem State.setDig_attached (s : State) (i : Nat) (v : DigCh) : (s.setDig i v).attached = s.attached := rfl
@[simp] theorem State.setDig_usbLink (s : State) (i : Nat) (v : DigCh) : (s.setDig i v).usbLink = s.usbLink := rfl
@[simp] theorem State.setDig_detachAt (s : State) (i : Nat) (v : DigCh) : (s.setDig i v).detachAt = s.detachAt := rfl
@[simp] theorem State.setDig_locate (s : State) (i : Nat) (v : DigCh) : (s.setDig i v).locate = s.locate := rfl
@[simp] theorem State.setDig_scans (s : State) (i : Nat) (v : DigCh) : (s.setDig i v).scans = s.scans := rfl
@[simp] theorem State.setDig_wire (s : State) (i : Nat) (v : DigCh) : (s.setDig i v).wire = s.wire := rfl

@[simp] theorem State.setDig_ctrl (s : State) (i : Nat) (v : DigCh) (x : Side) : (s.setDig i v).ctrl x = s.ctrl x := by
  cases x <;> rfl

@[simp] theorem State.setLoop_pending (s : State) (i : Nat) (v : LoopCh) : (s.setLoop i v).pending = s.pending := rfl
@[simp] theorem State.setLoop_now (s : State) (i : Nat) (v : LoopCh) : (s.setLoop i v).now = s.now := rfl
@[simp] theorem State.setLoop_free (s : State) (i : Nat) (v : LoopCh) : (s.setLoop i v).free = s.free := rfl
@[simp] theorem State.setLoop_knotId (s : State) (i : Nat) (v : LoopCh) : (s.setLoop i v).knotId = s.knotId := rfl
@[simp] theorem State.setLoop_compat (s : State) (i : Nat) (v : LoopCh) : (s.setLoop i v).compat = s.compat := rfl
@[simp] theorem State.setLoop_safeBoot (s : State) (i : Nat) (v : LoopCh) : (s.setLoop i v).safeBoot = s.safeBoot := rfl
@[simp] theorem State.setLoop_supply (s : State) (i : Nat) (v : LoopCh) : (s.setLoop i v).supply = s.supply := rfl
@[simp] theorem State.setLoop_powerFail (s : State) (i : Nat) (v : LoopCh) : (s.setLoop i v).powerFail = s.powerFail := rfl
@[simp] theorem State.setLoop_startHold (s : State) (i : Nat) (v : LoopCh) : (s.setLoop i v).startHold = s.startHold := rfl
@[simp] theorem State.setLoop_firstGrant (s : State) (i : Nat) (v : LoopCh) : (s.setLoop i v).firstGrant = s.firstGrant := rfl
@[simp] theorem State.setLoop_ctrlA (s : State) (i : Nat) (v : LoopCh) : (s.setLoop i v).ctrlA = s.ctrlA := rfl
@[simp] theorem State.setLoop_ctrlB (s : State) (i : Nat) (v : LoopCh) : (s.setLoop i v).ctrlB = s.ctrlB := rfl
@[simp] theorem State.setLoop_arb (s : State) (i : Nat) (v : LoopCh) : (s.setLoop i v).arb = s.arb := rfl
@[simp] theorem State.setLoop_pods (s : State) (i : Nat) (v : LoopCh) : (s.setLoop i v).pods = s.pods := rfl
@[simp] theorem State.setLoop_digs (s : State) (i : Nat) (v : LoopCh) : (s.setLoop i v).digs = s.digs := rfl
@[simp] theorem State.setLoop_vbus (s : State) (i : Nat) (v : LoopCh) : (s.setLoop i v).vbus = s.vbus := rfl
@[simp] theorem State.setLoop_attached (s : State) (i : Nat) (v : LoopCh) : (s.setLoop i v).attached = s.attached := rfl
@[simp] theorem State.setLoop_usbLink (s : State) (i : Nat) (v : LoopCh) : (s.setLoop i v).usbLink = s.usbLink := rfl
@[simp] theorem State.setLoop_detachAt (s : State) (i : Nat) (v : LoopCh) : (s.setLoop i v).detachAt = s.detachAt := rfl
@[simp] theorem State.setLoop_locate (s : State) (i : Nat) (v : LoopCh) : (s.setLoop i v).locate = s.locate := rfl
@[simp] theorem State.setLoop_scans (s : State) (i : Nat) (v : LoopCh) : (s.setLoop i v).scans = s.scans := rfl
@[simp] theorem State.setLoop_wire (s : State) (i : Nat) (v : LoopCh) : (s.setLoop i v).wire = s.wire := rfl

@[simp] theorem State.setLoop_ctrl (s : State) (i : Nat) (v : LoopCh) (x : Side) : (s.setLoop i v).ctrl x = s.ctrl x := by
  cases x <;> rfl

@[simp] theorem State.draw_pending (s : State) : (s.draw.2).pending = s.pending := rfl
@[simp] theorem State.draw_now (s : State) : (s.draw.2).now = s.now := rfl
@[simp] theorem State.draw_knotId (s : State) : (s.draw.2).knotId = s.knotId := rfl
@[simp] theorem State.draw_compat (s : State) : (s.draw.2).compat = s.compat := rfl
@[simp] theorem State.draw_safeBoot (s : State) : (s.draw.2).safeBoot = s.safeBoot := rfl
@[simp] theorem State.draw_supply (s : State) : (s.draw.2).supply = s.supply := rfl
@[simp] theorem State.draw_powerFail (s : State) : (s.draw.2).powerFail = s.powerFail := rfl
@[simp] theorem State.draw_startHold (s : State) : (s.draw.2).startHold = s.startHold := rfl
@[simp] theorem State.draw_firstGrant (s : State) : (s.draw.2).firstGrant = s.firstGrant := rfl
@[simp] theorem State.draw_ctrlA (s : State) : (s.draw.2).ctrlA = s.ctrlA := rfl
@[simp] theorem State.draw_ctrlB (s : State) : (s.draw.2).ctrlB = s.ctrlB := rfl
@[simp] theorem State.draw_arb (s : State) : (s.draw.2).arb = s.arb := rfl
@[simp] theorem State.draw_pods (s : State) : (s.draw.2).pods = s.pods := rfl
@[simp] theorem State.draw_digs (s : State) : (s.draw.2).digs = s.digs := rfl
@[simp] theorem State.draw_loops (s : State) : (s.draw.2).loops = s.loops := rfl
@[simp] theorem State.draw_vbus (s : State) : (s.draw.2).vbus = s.vbus := rfl
@[simp] theorem State.draw_attached (s : State) : (s.draw.2).attached = s.attached := rfl
@[simp] theorem State.draw_usbLink (s : State) : (s.draw.2).usbLink = s.usbLink := rfl
@[simp] theorem State.draw_detachAt (s : State) : (s.draw.2).detachAt = s.detachAt := rfl
@[simp] theorem State.draw_locate (s : State) : (s.draw.2).locate = s.locate := rfl
@[simp] theorem State.draw_scans (s : State) : (s.draw.2).scans = s.scans := rfl
@[simp] theorem State.draw_wire (s : State) : (s.draw.2).wire = s.wire := rfl

@[simp] theorem State.withQueue_now (s : State) (q : List Instr) : (s.withQueue q).now = s.now := rfl
@[simp] theorem State.withQueue_free (s : State) (q : List Instr) : (s.withQueue q).free = s.free := rfl
@[simp] theorem State.withQueue_knotId (s : State) (q : List Instr) : (s.withQueue q).knotId = s.knotId := rfl
@[simp] theorem State.withQueue_compat (s : State) (q : List Instr) : (s.withQueue q).compat = s.compat := rfl
@[simp] theorem State.withQueue_safeBoot (s : State) (q : List Instr) : (s.withQueue q).safeBoot = s.safeBoot := rfl
@[simp] theorem State.withQueue_supply (s : State) (q : List Instr) : (s.withQueue q).supply = s.supply := rfl
@[simp] theorem State.withQueue_powerFail (s : State) (q : List Instr) : (s.withQueue q).powerFail = s.powerFail := rfl
@[simp] theorem State.withQueue_startHold (s : State) (q : List Instr) : (s.withQueue q).startHold = s.startHold := rfl
@[simp] theorem State.withQueue_firstGrant (s : State) (q : List Instr) : (s.withQueue q).firstGrant = s.firstGrant := rfl
@[simp] theorem State.withQueue_ctrlA (s : State) (q : List Instr) : (s.withQueue q).ctrlA = s.ctrlA := rfl
@[simp] theorem State.withQueue_ctrlB (s : State) (q : List Instr) : (s.withQueue q).ctrlB = s.ctrlB := rfl
@[simp] theorem State.withQueue_arb (s : State) (q : List Instr) : (s.withQueue q).arb = s.arb := rfl
@[simp] theorem State.withQueue_pods (s : State) (q : List Instr) : (s.withQueue q).pods = s.pods := rfl
@[simp] theorem State.withQueue_digs (s : State) (q : List Instr) : (s.withQueue q).digs = s.digs := rfl
@[simp] theorem State.withQueue_loops (s : State) (q : List Instr) : (s.withQueue q).loops = s.loops := rfl
@[simp] theorem State.withQueue_vbus (s : State) (q : List Instr) : (s.withQueue q).vbus = s.vbus := rfl
@[simp] theorem State.withQueue_attached (s : State) (q : List Instr) : (s.withQueue q).attached = s.attached := rfl
@[simp] theorem State.withQueue_usbLink (s : State) (q : List Instr) : (s.withQueue q).usbLink = s.usbLink := rfl
@[simp] theorem State.withQueue_detachAt (s : State) (q : List Instr) : (s.withQueue q).detachAt = s.detachAt := rfl
@[simp] theorem State.withQueue_locate (s : State) (q : List Instr) : (s.withQueue q).locate = s.locate := rfl
@[simp] theorem State.withQueue_scans (s : State) (q : List Instr) : (s.withQueue q).scans = s.scans := rfl
@[simp] theorem State.withQueue_wire (s : State) (q : List Instr) : (s.withQueue q).wire = s.wire := rfl

@[simp] theorem State.withQueue_pending (s : State) (q : List Instr) : (s.withQueue q).pending = q := rfl
@[simp] theorem State.withQueue_ctrl (s : State) (q : List Instr) (x : Side) : (s.withQueue q).ctrl x = s.ctrl x := by cases x <;> rfl

/-! ## The part of the state that commands leave alone -/

/-- The queue, the straps, and the arbiter's state, epoch, `T_KIND`, `T_SIDE` and `T_RENEW`. -/
abbrev Kept := (List Instr × Nat × Bool × Bool) × (ArbSt × BitVec 32 × Nat × Side × Nat)

/-- With them the pods and their channels, the boundary registers, time, the supply and VBUS. -/
abbrev Framed := Kept × (Tab Pod × Tab DigCh × Tab LoopCh × Tab Nat × Nat × Bool × Bool × Bool)

/-- The arbiter state and the fields of the tether word (R361, R366). -/
def Arbiter.key (a : Arbiter) : ArbSt × BitVec 32 × Nat × Side × Nat := (a.st, a.epoch, a.kind, a.side, a.renew)

@[simp] theorem setBeat_key (a : Arbiter) (x : Side) (b : Beat) : (a.setBeat x b).key = a.key := by cases x <;> rfl

@[simp] theorem withSteer_key (a : Arbiter) (x : Option Side) : Arbiter.key { a with steer := x } = a.key := rfl

/-- The part of a state that most commands leave alone. -/
def State.core (s : State) :
    Framed := (((s.pending, s.knotId, s.compat, s.safeBoot), s.arb.key), (s.pods, s.digs, s.loops, s.scans, s.now, s.supply, s.powerFail, s.vbus))

@[simp] theorem core_mk (a b c d e f g h i j k l m n o p q r t u v w z) :
  State.core (State.mk a b c d e f g h i j k l m n o p q r t u v w z) = (((a, d, e, f), m.key), (n, o, p, w, b, g, h, q)) := rfl

@[simp] theorem core_eta (s : State) : ((s.pending, s.knotId, s.compat, s.safeBoot), s.arb.key) = s.core.1 := rfl

@[simp] theorem core_eta2 (s : State) :
    (s.pods, s.digs, s.loops, s.scans, s.now, s.supply, s.powerFail, s.vbus) = s.core.2 := rfl

@[simp] theorem core_eta3 (s : State) : (s.core.1, s.core.2) = s.core := rfl

@[simp] theorem State_setCtrl_core (s : State) (x : Side) (c : Ctrl) : (s.setCtrl x c).core = s.core := by cases x <;> rfl

@[simp] theorem State_modCtrl_core (s : State) (x : Side) (f : Ctrl → Ctrl) :
    (s.modCtrl x f).core = s.core := by simp [State.modCtrl]

theorem foldl_core {α : Type} (g : State → α → State) (h : ∀ s a, (g s a).core = s.core) (l : List α) (s : State) :
    (l.foldl g s).core = s.core := by
  induction l generalizing s with
  | nil => rfl
  | cons a t ih => simp [ih, h]

@[simp] theorem foldl_core' {α : Type} (g : State → α → State) (l : List α) (s : State) (h : ∀ s a, (g s a).core = s.core) :
    (l.foldl g s).core = s.core := foldl_core g h l s

@[simp] theorem ite_core (p : Prop) [Decidable p] (a b : State) :
    (if p then a else b).core = if p then a.core else b.core := by split <;> rfl

@[simp] theorem State_onActive_core (s : State) (f : Side → Ctrl → State) (h : ∀ x, (f x (s.ctrl x)).core = s.core) :
    (s.onActive f).core = s.core := by
  unfold State.onActive; split <;> simp [h]

theorem onActive_t {s s0 : State} (f : Side → Ctrl → State) (hs : s.core = s0.core) (h : ∀ x, (f x (s.ctrl x)).core = s0.core) :
    (s.onActive f).core = s0.core := by
  unfold State.onActive; split <;> simp [h, hs]

theorem foldl_t {α : Type} {s s0 : State} (g : State → α → State) (l : List α) (h : ∀ s a, (g s a).core = s.core) (hs : s.core = s0.core) :
    (l.foldl g s).core = s0.core := by rw [foldl_core g h, hs]

theorem ite_t {p : Prop} [Decidable p] {a b s0 : State} (ha : a.core = s0.core) (hb : b.core = s0.core) :
    (if p then a else b).core = s0.core := by split <;> assumption

@[simp] theorem ite_fst' {α β : Type} (p : Prop) [Decidable p] (a b : α × β) :
    (if p then a else b).1 = if p then a.1 else b.1 := by split <;> rfl

@[simp] theorem ite_snd' {α β : Type} (p : Prop) [Decidable p] (a b : α × β) :
    (if p then a else b).2 = if p then a.2 else b.2 := by split <;> rfl

/-- Every next state of an outcome has the part `k`. -/
def Keeps (o : Host.Outcome State Fault Refusal) (k : Framed) : Prop := ∀ t, o = .next t → t.core = k

@[simp] theorem keeps_next (t k) : Keeps (.next t) k ↔ t.core = k := ⟨fun h => h t rfl, fun h t' e => by cases e; exact h⟩

@[simp] theorem keeps_fault (f k) : Keeps (.fault f) k := fun _ h => nomatch h

@[simp] theorem keeps_refused (f k) : Keeps (.refused f) k := fun _ h => nomatch h

theorem keeps_ite {c : Prop} [Decidable c] {a b : Host.Outcome State Fault Refusal} {k} (ha : Keeps a k) (hb : Keeps b k) :
    Keeps (if c then a else b) k := by split <;> assumption

theorem onActive_t1 {s s0 : State} (f : Side → Ctrl → State) (hs : s.core.1 = s0.core.1) (h : ∀ x, (f x (s.ctrl x)).core.1 = s0.core.1) :
    (s.onActive f).core.1 = s0.core.1 := by
  unfold State.onActive; split <;> simp [h, hs]

@[simp] theorem State_onActive_core1 (s : State) (f : Side → Ctrl → State) (h : ∀ x, (f x (s.ctrl x)).core.1 = s.core.1) :
    (s.onActive f).core.1 = s.core.1 := onActive_t1 f rfl h

theorem foldl_t1 {α : Type} {s s0 : State} (g : State → α → State) (l : List α) (h : ∀ s a, (g s a).core.1 = s.core.1) (hs : s.core.1 = s0.core.1) :
    (l.foldl g s).core.1 = s0.core.1 := by
  induction l generalizing s with
  | nil => exact hs
  | cons a t ih => exact ih ((h s a).trans hs)

@[simp] theorem foldl_core1 {α : Type} (g : State → α → State) (l : List α) (s : State) (h : ∀ s a, (g s a).core.1 = s.core.1) :
    (l.foldl g s).core.1 = s.core.1 := foldl_t1 g l h rfl

/-- Every next state of an outcome has the kept part `k`. -/
def Keeps1 (o : Host.Outcome State Fault Refusal) (k : Kept) : Prop := ∀ t, o = .next t → t.core.1 = k

@[simp] theorem keeps1_next (t k) : Keeps1 (.next t) k ↔ t.core.1 = k := ⟨fun h => h t rfl, fun h t' e => by cases e; exact h⟩

@[simp] theorem keeps1_fault (f k) : Keeps1 (.fault f) k := fun _ h => nomatch h

@[simp] theorem keeps1_refused (f k) : Keeps1 (.refused f) k := fun _ h => nomatch h

theorem keeps1_ite {c : Prop} [Decidable c] {a b : Host.Outcome State Fault Refusal} {k} (ha : Keeps1 a k) (hb : Keeps1 b k) :
    Keeps1 (if c then a else b) k := by split <;> assumption

/-- The arbiter as it starts: no lease in force (R361, R365). -/
def freshKey : ArbSt × BitVec 32 × Nat × Side × Nat := (.start, 0, 0, .a, 0)

/-- The kept part is unchanged, or the arbiter has started again. -/
def Follows (s : State) (k : Framed) : Prop := s.core = k ∨ s.core.1 = (k.1.1, freshKey)

theorem follows_of_eq {s : State} {k : Framed} (h : s.core = k) : Follows s k := .inl h

theorem follows_trans {s t : State} {k : Framed} (h : Follows t s.core) (h' : Follows s k) : Follows t k := by
  rcases h with h | h <;> rcases h' with h' | h' <;> simp [Follows, h, h']

theorem follows_congr {s t : State} {k : Framed} (h : t.core = s.core) : Follows t k ↔ Follows s k := by simp [Follows, h]

end Sys2Proof.Machine
end

