-- ==== Sys2Proof/Laws/FrameOps.lean ====
section
/-! SUPPORT. Frame lemmas of the shared operations, the engines, the watchdogs and the duty operations: each leaves the command queue, the straps and the tether word as they were
(`State.core`), or says what it makes of them. -/

namespace Sys2Proof.Machine

@[simp] theorem State_setPod_core (s : State) (l : Nat) (p : Pod) : (s.setPod l p).core.1 = s.core.1 := rfl

@[simp] theorem State_setDig_core (s : State) (c : Nat) (d : DigCh) : (s.setDig c d).core.1 = s.core.1 := rfl

@[simp] theorem State_setLoop_core (s : State) (c : Nat) (d : LoopCh) : (s.setLoop c d).core.1 = s.core.1 := rfl

@[simp] theorem State_emit_core (s : State) (o : Out) : (s.emit o).core = s.core := rfl

@[simp] theorem State_emitOn_core (s : State) (x : Side) (port : Port) (o : Out) :
    (s.emitOn x port o).core = s.core := by
  simp [State.emitOn]

@[simp] theorem State_draw_core (s : State) : (s.draw).2.core = s.core := rfl

@[simp] theorem State_publish_core (s : State) (code subject : Nat) (body : List Word) :
    (s.publish code subject body).core = s.core := by
  simp [State.publish]

@[simp] theorem State_roleEvent_core (s : State) (x : Side) (before after : Role) (cause : Nat) :
    (s.roleEvent x before after cause).core = s.core := by
  simp [State.roleEvent]

@[simp] theorem State_journal_core (s : State) (x : Side) (op session tag kind seq status port digest : Nat) :
    (s.journal x op session tag kind seq status port digest).core = s.core := by
  simp [State.journal]

@[simp] theorem State_hwMode_core (s : State) (x : Side) (before after : Mode) (cause : Nat) :
    (s.hwMode x before after cause).core = s.core := by
  simp [State.hwMode]

@[simp] theorem State_answerNow_core (s : State) (x : Side) (q : Req) (op status : Nat) :
    (s.answerNow x q op status).core = s.core := by
  simp [State.answerNow]

@[simp] theorem State_journalReq_core (s : State) (x : Side) (q : Req) (op kind status digest : Nat) :
    (s.journalReq x q op kind status digest).core = s.core := by
  simp [State.journalReq]

@[simp] theorem State_syncTags_core (s : State) (x : Side) : (s.syncTags x).core = s.core := by
  simp [State.syncTags]

@[simp] theorem State_complete_core (s : State) (x : Side) (tag status : Nat) (words : List Word) :
    (s.complete x tag status words).core = s.core := by
  unfold State.complete
  split <;> simp

@[simp] theorem State_mirrorWord_core (s : State) (c d : Ctrl) (p : Nat × Word) : (s.mirrorWord c d p).2.core = s.core := by
  simp [State.mirrorWord]

@[simp] theorem State_mirrorWords_core (s : State) (c d : Ctrl) (ps : List (Nat × Word)) : (s.mirrorWords c d ps).2.core = s.core := by
  induction ps generalizing s with
  | nil => rfl
  | cons p t ih => simp [State.mirrorWords, ih]

@[simp] theorem State_postGroup_core (s : State) (x : Side) (tag : Nat) (ws : List (Nat × Word)) (reply : List Word) :
    (s.postGroup x tag ws reply).1.core = s.core := by
  simp [State.postGroup]

@[simp] theorem State_lastGasp_core (s : State) (x : Side) (entry : Word) (cause : Nat) :
    (s.lastGasp x entry cause).core = s.core := by
  simp [State.lastGasp]

@[simp] theorem State_readKeep_core (s : State) (c : Ctrl) (a : Nat) : (s.readKeep c a).2.core = s.core := by
  simp [State.readKeep]

@[simp] theorem State_readKeepRun_core (n a : Nat) (c : Ctrl) (s : State) : (State.readKeepRun n a c s).2.core = s.core := by
  induction n generalizing a s with
  | zero => rfl
  | succ n ih => simp [State.readKeepRun, ih]

@[simp] theorem answerKeepRead_core (p : List Word) (c : Ctrl) (s : State) : (answerKeepRead p c s).1.core = s.core := by
  simp [answerKeepRead]

@[simp] theorem effectKeepWrite_core (x : Side) (q : Req) (p : List Word) (s : State) :
    (effectKeepWrite x q p s).1.core = s.core := by
  simp [effectKeepWrite]

@[simp] theorem execKeepGroupEnd_core (x : Side) (s : State) (k) (hk : s.core = k) : Keeps (execKeepGroupEnd x s) k := by
  subst hk
  unfold execKeepGroupEnd
  dsimp only; (repeat' split) <;> simp

@[simp] theorem rollBackAll_core (gs : List KeepGroup) (x : Side) (s : State) : (rollBackAll gs x s).core = s.core := by
  induction gs generalizing s with
  | nil => simp [rollBackAll]
  | cons g t ih => simp [rollBackAll, ih]

@[simp] theorem State_putFree_core (s : State) (x : Side) (ch : Nat) : (s.putFree x ch).core = s.core := by
  simp [State.putFree]

@[simp] theorem State_putFrees_core (s : State) (x : Side) (chs : List Nat) : (s.putFrees x chs).core = s.core := by
  simp [State.putFrees]

@[simp] theorem State_syncImage_core (s : State) (x : Side) : (s.syncImage x).core = s.core := by
  simp [State.syncImage]

@[simp] theorem effectOutputSet_core (x : Side) (p : List Word) (s : State) : (effectOutputSet x p s).core = s.core := by
  simp [effectOutputSet]

@[simp] theorem State_freeTest_core (s : State) (x : Side) (ch : Nat) (t : Test) :
    (s.freeTest x ch t).1.core = s.core := by
  simp [State.freeTest]

@[simp] theorem effectTestDrive_core (x : Side) (q : Req) (p : List Word) (s : State) :
    (effectTestDrive x q p s).core = s.core := by
  simp [effectTestDrive]

@[simp] theorem execTestDriveExpiry_core (ch : Nat) (s : State) (k) (hk : s.core = k) :
    Keeps (execTestDriveExpiry ch s) k := by
  subst hk
  unfold execTestDriveExpiry
  simp only [keeps_next]
  refine onActive_t _ rfl (fun _ => ?_)
  split <;> simp

@[simp] theorem execRebalance_core (s : State) (k) (hk : s.core = k) : Keeps (execRebalance s) k := by
  subst hk
  simp [execRebalance]

@[simp] theorem execShadowPlacement_core (x : Side) (s : State) (k) (hk : s.core = k) :
    Keeps (execShadowPlacement x s) k := by
  subst hk
  unfold execShadowPlacement
  split <;> simp

@[simp] theorem State_usbDetach_core (s : State) : (s.usbDetach).core = s.core := rfl

@[simp] theorem State_steerTo_core (s : State) (y : Side) : (s.steerTo y).core = s.core := by
  simp [State.steerTo]

@[simp] theorem State_resteer_core (s : State) : (s.resteer).core = s.core := by
  unfold State.resteer
  split <;> simp

@[simp] theorem State_takeRole_core (s : State) (x : Side) (r : Role) (cause : Nat) :
    (s.takeRole x r cause).core = s.core := by
  simp [State.takeRole]

@[simp] theorem State_demote_core (s : State) (x : Side) : (s.demote x).core = s.core := by
  simp [State.demote]

@[simp] theorem State_withTether_core (s : State) (x : Side) (f : State → State) (h : (f s).core = s.core) : (s.withTether x f).core = s.core := by
  unfold State.withTether; split <;> simp [*]

@[simp] theorem State_syncDuty_core (s : State) (x : Side) (n : Nat) : (s.syncDuty x n).core = s.core := by
  simp [State.syncDuty]

@[simp] theorem State_releaseExec_core (s : State) (x : Side) (e : Exec) : (s.releaseExec x e).core = s.core := by
  simp [State.releaseExec]

@[simp] theorem State_settleExec_core (s : State) (x : Side) (i : Nat) (e : Exec) : (s.settleExec x i e).core = s.core := by
  simp [State.settleExec]

@[simp] theorem State_take_core (s : State) (x : Side) (i : Nat) (e : Exec) (stolen : Bool) :
    (s.take x i e stolen).core = s.core := by
  simp [State.take]

@[simp] theorem execExecutionDispatch_core (engine : Nat) (s : State) (k) (hk : s.core = k) :
    Keeps (execExecutionDispatch engine s) k := by
  subst hk
  unfold execExecutionDispatch
  simp only [keeps_next]
  refine onActive_t _ rfl (fun _ => ?_)
  split <;> simp

@[simp] theorem execLeapfrogExamine_core (engine : Nat) (s : State) (k) (hk : s.core = k) :
    Keeps (execLeapfrogExamine engine s) k := by
  subst hk
  unfold execLeapfrogExamine
  simp only [keeps_next]
  refine onActive_t _ rfl (fun _ => ?_)
  split <;> simp

@[simp] theorem execSlowWindow_core (engine taken cost : Nat) (completed busy : Bool) (s : State) (k) (hk : s.core = k) :
    Keeps (execSlowWindow engine taken cost completed busy s) k := by
  subst hk
  simp [execSlowWindow]

@[simp] theorem stageAcquire_core (x : Side) (e : Exec) (w : Word) (s : State) : (stageAcquire x e w s).1.core = s.core := by
  simp [stageAcquire]

@[simp] theorem stageFilter_core (x : Side) (e : Exec) (w : Word) (s : State) : (stageFilter x e w s).1.core = s.core := by
  simp [stageFilter]

@[simp] theorem compareBit_core (x : Side) (e : Exec) (w : Word) (a : State × BitVec 64) (i ch : Nat) : (compareBit x e w a i ch).1.core = a.1.core := by
  unfold compareBit
  dsimp only
  split
  · rfl
  · split
    · rfl
    · split <;> first | rfl | simp

@[simp] theorem compareFold_core (x : Side) (e : Exec) (w : Word) (l : List (Nat × Nat)) (a : State × BitVec 64) : (l.foldl (fun a p => compareBit x e w a p.2 p.1) a).1.core = a.1.core := by
  induction l generalizing a with
  | nil => rfl
  | cons p t ih => simp [ih]

@[simp] theorem stageCompare_core (x : Side) (e : Exec) (w : Word) (s : State) : (stageCompare x e w s).1.core = s.core := by
  simp [stageCompare]

@[simp] theorem stageCount_core (_x : Side) (e : Exec) (w : Word) (s : State) : (stageCount _x e w s).1.core = s.core := rfl

@[simp] theorem stageLogic_core (x : Side) (e : Exec) (w : Word) (s : State) : (stageLogic x e w s).1.core = s.core := by
  unfold stageLogic
  dsimp only; split <;> simp

@[simp] theorem stageSequence_core (x : Side) (e : Exec) (_w : Word) (s : State) :
    (stageSequence x e _w s).1.core = s.core := rfl

@[simp] theorem stageDrive_core (x : Side) (e : Exec) (w : Word) (s : State) : (stageDrive x e w s).1.core = s.core := by
  simp [stageDrive]

@[simp] theorem stageForce_core (x : Side) (e : Exec) (w : Word) (s : State) : (stageForce x e w s).1.core = s.core := by
  simp [stageForce]

@[simp] theorem stagePublish_core (x : Side) (e : Exec) (w : Word) (s : State) : (stagePublish x e w s).1.core = s.core := by
  simp [stagePublish]

@[simp] theorem stageCheck_core (_x : Side) (e : Exec) (w : Word) (s : State) : (stageCheck _x e w s).1.core = s.core := by
  simp [stageCheck]

@[simp] theorem stageRelay_core (_x : Side) (e : Exec) (w : Word) (s : State) : (stageRelay _x e w s).1.core = s.core := by
  simp [stageRelay]

@[simp] theorem runStage_core (x : Side) (e : Exec) (w : Word) (s : State) : (runStage x e w s).1.core = s.core := by
  unfold runStage
  split <;> simp

@[simp] theorem State_advance_core (s : State) (x : Side) (i : Nat) (e : Exec) (w : Word) :
    (s.advance x i e w).core = s.core := by
  simp [State.advance]

@[simp] theorem State_onStage_core (s : State) (i t : Nat) : (s.onStage i t).core = s.core := by
  unfold State.onStage
  refine onActive_t _ rfl (fun _ => ?_)
  split <;> simp

@[simp] theorem execAcquire_core (engine : Nat) (s : State) (k) (hk : s.core = k) : Keeps (execAcquire engine s) k := by
  subst hk
  simp [execAcquire]

@[simp] theorem execFilter_core (engine : Nat) (s : State) (k) (hk : s.core = k) : Keeps (execFilter engine s) k := by
  subst hk
  simp [execFilter]

@[simp] theorem execCompare_core (engine : Nat) (s : State) (k) (hk : s.core = k) : Keeps (execCompare engine s) k := by
  subst hk
  simp [execCompare]

@[simp] theorem execCount_core (engine : Nat) (s : State) (k) (hk : s.core = k) : Keeps (execCount engine s) k := by
  subst hk
  simp [execCount]

@[simp] theorem execLogic_core (engine : Nat) (s : State) (k) (hk : s.core = k) : Keeps (execLogic engine s) k := by
  subst hk
  simp [execLogic]

@[simp] theorem execSequence_core (engine : Nat) (s : State) (k) (hk : s.core = k) : Keeps (execSequence engine s) k := by
  subst hk
  simp [execSequence]

@[simp] theorem execDrive_core (engine : Nat) (s : State) (k) (hk : s.core = k) : Keeps (execDrive engine s) k := by
  subst hk
  simp [execDrive]

@[simp] theorem execForceSafe_core (engine : Nat) (s : State) (k) (hk : s.core = k) : Keeps (execForceSafe engine s) k := by
  subst hk
  simp [execForceSafe]

@[simp] theorem execPublish_core (engine : Nat) (s : State) (k) (hk : s.core = k) : Keeps (execPublish engine s) k := by
  subst hk
  simp [execPublish]

@[simp] theorem execCheckValue_core (engine : Nat) (s : State) (k) (hk : s.core = k) :
    Keeps (execCheckValue engine s) k := by
  subst hk
  simp [execCheckValue]

@[simp] theorem execRelay_core (engine : Nat) (s : State) (k) (hk : s.core = k) : Keeps (execRelay engine s) k := by
  subst hk
  simp [execRelay]

@[simp] theorem execEngineBreakpointHit_core (engine : Nat) (s : State) (k) (hk : s.core = k) :
    Keeps (execEngineBreakpointHit engine s) k := by
  subst hk
  unfold execEngineBreakpointHit
  simp only [keeps_next]
  refine onActive_t _ rfl (fun _ => ?_)
  split <;> simp

@[simp] theorem execEngineStep_core (engine : Nat) (s : State) (k) (hk : s.core = k) :
    Keeps (execEngineStep engine s) k := by
  subst hk
  unfold execEngineStep
  simp only [keeps_next]
  refine onActive_t _ rfl (fun _ => ?_)
  split <;> simp

@[simp] theorem State_syncDuties_core (s : State) (x : Side) (ns : List Nat) : (s.syncDuties x ns).core = s.core := by
  simp [State.syncDuties]

@[simp] theorem effectDutyDefine_core (x : Side) (q : Req) (p : List Word) (s : State) :
    (effectDutyDefine x q p s).core = s.core := by
  simp [effectDutyDefine]

@[simp] theorem effectDutyStart_core (x : Side) (q : Req) (p : List Word) (s : State) :
    (effectDutyStart x q p s).core = s.core := by
  simp [effectDutyStart]

@[simp] theorem effectDutyStop_core (x : Side) (q : Req) (p : List Word) (s : State) :
    (effectDutyStop x q p s).core = s.core := by
  simp [effectDutyStop]

@[simp] theorem execMigrationSwitch_core (duty : Nat) (s : State) (k) (hk : s.core = k) :
    Keeps (execMigrationSwitch duty s) k := by
  subst hk
  simp [execMigrationSwitch]

@[simp] theorem execDutyStoreWriteDone_core (x : Side) (duty : Nat) (s : State) (k) (hk : s.core = k) :
    Keeps (execDutyStoreWriteDone x duty s) k := by
  subst hk
  unfold execDutyStoreWriteDone
  dsimp only; split <;> simp

@[simp] theorem State_syncEpisode_core (s : State) (x : Side) : (s.syncEpisode x).core = s.core := by
  simp [State.syncEpisode]

@[simp] theorem State_openEpisode_core (s : State) (x : Side) (src : Nat) (inj : Bool) (at_ : BitVec 64) :
    (s.openEpisode x src inj at_).core = s.core := by
  simp [State.openEpisode]

@[simp] theorem State_raiseActive_core (s : State) (x : Side) (src : Nat) (inj : Bool) (at_ : BitVec 64) :
    (s.raiseActive x src inj at_).core = s.core := by
  simp [State.raiseActive]

@[simp] theorem State_raise_core (s : State) (x : Side) (src : Nat) (inj : Bool) : (s.raise x src inj).core = s.core := by
  simp [State.raise]

@[simp] theorem State_startDog_core (s : State) (x : Side) : (s.startDog x).core = s.core := by
  simp [State.startDog]

@[simp] theorem State_resumeDog_core (s : State) (x : Side) : (s.resumeDog x).core = s.core := by
  simp [State.resumeDog]

@[simp] theorem State_enableDogs_core (s : State) : (s.enableDogs).core = s.core := by
  simp [State.enableDogs]

@[simp] theorem State_dogBad_core (s : State) (x : Side) (v : Nat) : (s.dogBad x v).core = s.core := by
  simp [State.dogBad]

@[simp] theorem State_closeDog_core (s : State) (x : Side) : (s.closeDog x).core = s.core := by
  simp [State.closeDog]

@[simp] theorem State_answerDog_core (s : State) (x : Side) (seq : Option Nat) (token : Nat) :
    (s.answerDog x seq token).2.core = s.core := by
  simp [State.answerDog]

@[simp] theorem State_eraseNext_core (s : State) (x : Side) : (s.eraseNext x).core = s.core := by
  unfold State.eraseNext
  split <;> simp

@[simp] theorem execWdogCoreAnswer_core (x : Side) (token : BitVec 32) (s : State) (k) (hk : s.core = k) :
    Keeps (execWdogCoreAnswer x token s) k := by
  subst hk
  unfold execWdogCoreAnswer
  dsimp only; split <;> simp

@[simp] theorem State_startHostDog_core (s : State) (x : Side) (i : Nat) : (s.startHostDog x i).core = s.core := by
  simp [State.startHostDog]

@[simp] theorem State_hostLost_core (s : State) (x : Side) (i : Nat) : (s.hostLost x i).core = s.core := by
  simp [State.hostLost]

@[simp] theorem State_hostBad_core (s : State) (x : Side) (i : Nat) : (s.hostBad x i).core = s.core := by
  simp [State.hostBad]

@[simp] theorem State_closeHostDog_core (s : State) (x : Side) (i : Nat) : (s.closeHostDog x i).core = s.core := by
  simp [State.closeHostDog]

@[simp] theorem State_answerHostDog_core (s : State) (x : Side) (i seq token : Nat) :
    (s.answerHostDog x i seq token).2.core = s.core := by
  simp [State.answerHostDog]

@[simp] theorem execWdogWindowClose_core (d : Dog) (s : State) (k) (hk : s.core = k) :
    Keeps (execWdogWindowClose d s) k := by
  subst hk
  unfold execWdogWindowClose
  (repeat' split) <;> simp

@[simp] theorem State_dogReply_core (s : State) (x : Side) (result : Nat) : (s.dogReply x result).1.core = s.core := by
  simp [State.dogReply]

@[simp] theorem answerWdog_core (x : Side) (q : Req) (p : List Word) (s : State) : (answerWdog x q p s).1.core = s.core := by
  simp [answerWdog]

@[simp] theorem State_hostDogReply_core (s : State) (x : Side) (i result : Nat) :
    (s.hostDogReply x i result).1.core = s.core := by
  simp [State.hostDogReply]

@[simp] theorem answerHostWdog_core (x : Side) (q : Req) (p : List Word) (s : State) :
    (answerHostWdog x q p s).1.core = s.core := by
  simp [answerHostWdog]

@[simp] theorem refusedWdogKey_core (st : Nat) (s : State) (x : Side) : (refusedWdogKey st s x).core = s.core := by
  simp [refusedWdogKey]

@[simp] theorem effectWdogKey_core (x : Side) (q : Req) (s : State) : (effectWdogKey x q s).core = s.core := by
  unfold effectWdogKey
  dsimp only; split <;> simp

@[simp] theorem execWdogKeyArmExpiry_core (s : State) (k) (hk : s.core = k) : Keeps (execWdogKeyArmExpiry s) k := by
  subst hk
  unfold execWdogKeyArmExpiry
  simp only [keeps_next]
  refine onActive_t _ rfl (fun _ => ?_)
  split <;> simp

@[simp] theorem execWdogClockTrip_core (x : Side) (s : State) (k) (hk : s.core = k) : Keeps (execWdogClockTrip x s) k := by
  subst hk
  simp [execWdogClockTrip]

@[simp] theorem State_endSuspension_core (s : State) (x : Side) : (s.endSuspension x).core = s.core := by
  simp [State.endSuspension]

@[simp] theorem execSuspensionTimeout_core (x : Side) (s : State) (k) (hk : s.core = k) :
    Keeps (execSuspensionTimeout x s) k := by
  subst hk
  unfold execSuspensionTimeout
  dsimp only; split <;> simp

@[simp] theorem State_fwEvent_core (s : State) (op phase outcome reason : Nat) (side : Side) (version : BitVec 32) (count : Nat) :
    (s.fwEvent op phase outcome reason side version count).core = s.core := by
  simp [State.fwEvent]

@[simp] theorem State_restart_core (s : State) (x : Side) (cause : Nat) : (s.restart x cause).core = s.core := by
  simp [State.restart]

@[simp] theorem State_restartInto_core (s : State) (x : Side) (one : Bool) (u : Update) :
    (s.restartInto x one u).core = s.core := by
  simp [State.restartInto]

@[simp] theorem State_testLogline_core (s : State) (x : Side) (ok : Bool) : (s.testLogline x ok).core = s.core := by
  simp [State.testLogline]

@[simp] theorem State_started_core (s : State) (x : Side) (one logOk : Bool) : (s.started x one logOk).core = s.core := by
  simp [State.started]

@[simp] theorem effectFskSend_core (x : Side) (q : Req) (p : List Word) (s : State) :
    (effectFskSend x q p s).core = s.core := by
  simp [effectFskSend]

@[simp] theorem State_fskOutcome_core (s : State) (x : Side) (ch : Nat) (j : FskJob) (kind : Nat) (bytes : List Byte) (time : Nat) :
    (s.fskOutcome x ch j kind bytes time).core = s.core := by
  simp [State.fskOutcome]

@[simp] theorem State_fskEndTime_core (s : State) (x : Side) (j : FskJob) : (s.fskEndTime x j).2.core = s.core := by
  simp [State.fskEndTime]

@[simp] theorem State_fskAbort_core (s : State) (x : Side) (ch : Nat) : (s.fskAbort x ch).core = s.core := by
  simp [State.fskAbort]

@[simp] theorem State_fskAborts_core (s : State) (x : Side) (which : Nat → Bool) : (s.fskAborts x which).core = s.core := by
  simp [State.fskAborts]

@[simp] theorem execFskTransmitStart_core (ch : Nat) (s : State) (k) (hk : s.core = k) :
    Keeps (execFskTransmitStart ch s) k := by
  subst hk
  unfold execFskTransmitStart
  simp only [keeps_next]
  refine onActive_t _ rfl (fun _ => ?_)
  split <;> simp

@[simp] theorem State_fskFailed_core (s : State) (x : Side) (ch : Nat) (j : FskJob) (js : List FskJob) (kind : Nat) (bytes : List Byte) (time : Nat) :
    (s.fskFailed x ch j js kind bytes time).core = s.core := by
  simp [State.fskFailed]

@[simp] theorem execFskTransmitEnd_core (ch : Nat) (s : State) (k) (hk : s.core.1 = k) :
    Keeps1 (execFskTransmitEnd ch s) k := by
  subst hk
  unfold execFskTransmitEnd
  (try dsimp only)
  (repeat' (first | (refine keeps1_ite ?_ ?_) | split)) <;> simp only [keeps1_next] <;> (repeat' (first | split | (refine onRunning_t1 _ (fun _ _ => ?_) ?_) | (refine onActive_t1 _ ?_ (fun _ => ?_)) | (refine foldl_t1 _ _ (fun _ _ => ?_) ?_) | (dsimp only))) <;> simp

@[simp] theorem execFskReplyTimeout_core (ch : Nat) (s : State) (k) (hk : s.core = k) :
    Keeps (execFskReplyTimeout ch s) k := by
  subst hk
  unfold execFskReplyTimeout
  simp only [keeps_next]
  refine onActive_t _ rfl (fun _ => ?_)
  split <;> simp

@[simp] theorem State_fskTime_core (s : State) (c : Ctrl) (ch : Nat) : (s.fskTime c ch).2.core = s.core := by
  unfold State.fskTime
  split <;> simp

@[simp] theorem execFskFrameReceived_core (ch : Nat) (bytes : List Byte) (parityOk gapsOk : Bool) (s : State) (k) (hk : s.core.1 = k) :
    Keeps1 (execFskFrameReceived ch bytes parityOk gapsOk s) k := by
  subst hk
  unfold execFskFrameReceived
  simp only [keeps1_next]
  refine onActive_t1 _ rfl (fun _ => ?_)
  (repeat' (first | split | dsimp only)) <;> simp

@[simp] theorem State_tellTrim_core (s : State) (x : Side) (tag : Option Nat) (ch : Nat) (w : Word) :
    (s.tellTrim x tag ch w).core = s.core := by
  unfold State.tellTrim
  split <;> simp

@[simp] theorem State_dropCapture_core (s : State) (x : Side) (result : Nat) : (s.dropCapture x result).core = s.core := by
  unfold State.dropCapture
  (repeat' split) <;> simp

@[simp] theorem State_endArm_core (s : State) (x : Side) (result : Nat) : (s.endArm x result).core = s.core := by
  simp [State.endArm]

@[simp] theorem State_commitTrim_core (s : State) (x : Side) (a : Arm) (tag : Nat) :
    (s.commitTrim x a tag).1.core = s.core := by
  simp [State.commitTrim]

@[simp] theorem State_startCapture_core (s : State) (x : Side) (a : Arm) (span : Bool) (tag : Option Nat) :
    (s.startCapture x a span tag).core = s.core := by
  simp [State.startCapture]

@[simp] theorem State_failStep_core (s : State) (x : Side) (a : Arm) (result : Nat) :
    (s.failStep x a result).1.core = s.core := by
  simp [State.failStep]

@[simp] theorem State_trimAction_core (s : State) (x : Side) (q : Req) (w : Word) (a : Arm) :
    (s.trimAction x q w a).1.core = s.core := by
  unfold State.trimAction
  dsimp only; split <;> simp

@[simp] theorem State_armTrim_core (s : State) (x : Side) (q : Req) (w : Word) (out : Bool) :
    (s.armTrim x q w out).1.core = s.core := by
  simp [State.armTrim]

@[simp] theorem State_resetTrim_core (s : State) (x : Side) (q : Req) (ch : Nat) : (s.resetTrim x q ch).1.core = s.core := by
  unfold State.resetTrim
  dsimp only
  split <;> simp

@[simp] theorem effectTrim_core (x : Side) (q : Req) (p : List Word) (s : State) : (effectTrim x q p s).1.core = s.core := by
  unfold effectTrim
  dsimp only
  split
  · exact State_armTrim_core ..
  · exact State_armTrim_core ..
  · exact State_resetTrim_core ..
  · split
    · exact State_trimAction_core ..
    · rfl

@[simp] theorem execTrimCaptureEnd_core (mean half1 half2 : Int) (s : State) (k) (hk : s.core = k) :
    Keeps (execTrimCaptureEnd mean half1 half2 s) k := by
  subst hk
  unfold execTrimCaptureEnd
  simp only [keeps_next]
  refine onActive_t _ rfl (fun _ => ?_)
  (repeat' (first | split | dsimp only)) <;> simp

@[simp] theorem State_press_core (s : State) (span : Bool) : (s.press span).core = s.core := by
  unfold State.press
  refine onActive_t _ rfl (fun _ => ?_)
  split <;> simp

@[simp] theorem execZeroPress_core (s : State) (k) (hk : s.core = k) : Keeps (execZeroPress s) k := by
  subst hk
  simp [execZeroPress]

@[simp] theorem execSpanPress_core (s : State) (k) (hk : s.core = k) : Keeps (execSpanPress s) k := by
  subst hk
  simp [execSpanPress]

@[simp] theorem execTrimButtonsHeld_core (s : State) (k) (hk : s.core = k) : Keeps (execTrimButtonsHeld s) k := by
  subst hk
  unfold execTrimButtonsHeld
  simp only [keeps_next]
  refine onActive_t _ rfl (fun _ => ?_)
  split <;> simp

@[simp] theorem execTrimWindowExpiry_core (s : State) (k) (hk : s.core = k) : Keeps (execTrimWindowExpiry s) k := by
  subst hk
  unfold execTrimWindowExpiry
  simp only [keeps_next]
  refine onActive_t _ rfl (fun _ => ?_)
  split <;> simp

end Sys2Proof.Machine
end

