-- ==== Sys2Proof/Laws/FrameEffects.lean ====
section
/-! SUPPORT. Frame lemmas of the effects and answers of requests, and the commands of angle and time: each leaves the command queue, the straps and the tether word as they were
(`State.core`), or says what it makes of them. -/

namespace Sys2Proof.Machine

@[simp] theorem State_closeSession_core (s : State) (x : Side) (i keep : Nat) : (s.closeSession x i keep).core = s.core := by
  simp [State.closeSession]

@[simp] theorem effectSessionOpen_core (x : Side) (q : Req) (p : List Word) (s : State) :
    (effectSessionOpen x q p s).1.core = s.core := by
  simp [effectSessionOpen]

@[simp] theorem effectSessionResume_core (x : Side) (q : Req) (last : Nat) (s : State) :
    (effectSessionResume x q last s).1.core = s.core := by
  simp [effectSessionResume]

@[simp] theorem State_replyLeft_core (s : State) (x : Side) (r : Reply) : (s.replyLeft x r).core = s.core := by
  unfold State.replyLeft
  dsimp only; (repeat' split) <;> simp

@[simp] theorem execReplySend_core (session : Nat) (s : State) (k) (hk : s.core = k) :
    Keeps (execReplySend session s) k := by
  subst hk
  unfold execReplySend
  simp only [keeps_next]
  refine onActive_t _ rfl (fun _ => ?_)
  split <;> simp

@[simp] theorem execEventSend_core (session : Nat) (s : State) (k) (hk : s.core = k) :
    Keeps (execEventSend session s) k := by
  subst hk
  unfold execEventSend
  simp only [keeps_next]
  refine onActive_t _ rfl (fun _ => ?_)
  split <;> simp

@[simp] theorem State_addConv_core (s : State) (x : Side) (j : ConvJob) : (s.addConv x j).core = s.core := by
  simp [State.addConv]

@[simp] theorem effectSample_core (x : Side) (q : Req) (p : List Word) (s : State) :
    (effectSample x q p s).core = s.core := by
  simp [effectSample]

@[simp] theorem State_modBoth_core (s : State) (f : Ctrl → Ctrl) : (s.modBoth f).core = s.core := rfl

@[simp] theorem State_convWritten_core (s : State) (ch : Nat) (u : Bool) : (s.convWritten ch u).core = s.core := rfl

@[simp] theorem State_convJoined_core (s : State) (link n ch : Nat) : (s.convJoined link n ch).core = s.core := rfl

@[simp] theorem State_closeConvs_core (s : State) (x : Side) : (s.closeConvs x).core = s.core := by
  simp [State.closeConvs]

@[simp] theorem State_convLost_core (s : State) (ch : Nat) (u : Bool) : (s.convLost ch u).core = s.core := by
  simp [State.convLost]

@[simp] theorem State_convMissed_core (s : State) (link n ch : Nat) : (s.convMissed link n ch).core = s.core := by
  simp [State.convMissed]

@[simp] theorem effectCalStart_core (x : Side) (q : Req) (p : List Word) (s : State) :
    (effectCalStart x q p s).core = s.core := by
  simp [effectCalStart]

@[simp] theorem State_syncUpdate_core (s : State) (x : Side) : (s.syncUpdate x).core = s.core := by
  simp [State.syncUpdate]

@[simp] theorem State_fwPhase_core (s : State) (x : Side) (phase : Nat) (side : Side) (count : Nat) :
    (s.fwPhase x phase side count).core = s.core := by
  simp [State.fwPhase]

@[simp] theorem State_endUpdate_core (s : State) (x : Side) (outcome reason : Nat) (side : Side) (count : Nat) :
    (s.endUpdate x outcome reason side count).core = s.core := by
  unfold State.endUpdate
  dsimp only; split <;> simp

@[simp] theorem State_stageBegin_core (s : State) (x : Side) (q : Req) (len : Nat) :
    (s.stageBegin x q len).core = s.core := by
  simp [State.stageBegin]

@[simp] theorem State_stageEnd_core (s : State) (x : Side) (q : Req) (w : Word) : (s.stageEnd x q w).core = s.core := by
  simp [State.stageEnd]

@[simp] theorem State_stopStaging_core (s : State) (state : Nat) : (s.stopStaging state).core = s.core := by
  simp [State.stopStaging]

@[simp] theorem State_endStaging_core (s : State) (x : Side) : (s.endStaging x).core = s.core := by
  simp [State.endStaging]

@[simp] theorem State_tendStaging_core (s : State) : (s.tendStaging).core = s.core := by
  simp [State.tendStaging]

@[simp] theorem State_stageDiscard_core (s : State) (x : Side) (q : Req) : (s.stageDiscard x q).core = s.core := by
  unfold State.stageDiscard
  dsimp only; (repeat' split) <;> simp

@[simp] theorem effectFwStage_core (x : Side) (q : Req) (p : List Word) (s : State) :
    (effectFwStage x q p s).core = s.core := by
  unfold effectFwStage
  dsimp only; split <;> simp

@[simp] theorem State_abortStaging_core (s : State) (x : Side) : (s.abortStaging x).core = s.core := by
  simp [State.abortStaging]

@[simp] theorem execSectorEraseDone_core (x : Side) (s : State) (k) (hk : s.core = k) :
    Keeps (execSectorEraseDone x s) k := by
  subst hk
  unfold execSectorEraseDone
  simp only [keeps_next]
  refine onActive_t _ rfl (fun _ => ?_)
  (repeat' (first | split | dsimp only)) <;> simp

@[simp] theorem State_tryStaged_core (s : State) (x : Side) (u : Update) : (s.tryStaged x u).core = s.core := by
  unfold State.tryStaged
  split <;> simp

@[simp] theorem State_seqRestart_core (s : State) (x : Side) (u : Update) : (s.seqRestart x u).core = s.core := by
  simp [State.seqRestart]

@[simp] theorem State_beginSeq_core (s : State) (x : Side) (u : Update) : (s.beginSeq x u).core = s.core := by
  simp [State.beginSeq]

@[simp] theorem effectFwSwap_core (x : Side) (q : Req) (p : List Word) (s : State) :
    (effectFwSwap x q p s).core = s.core := by
  simp [effectFwSwap]

@[simp] theorem effectFwRollback_core (x : Side) (q : Req) (s : State) : (effectFwRollback x q s).core = s.core := by
  simp [effectFwRollback]

@[simp] theorem execSettingsMigrationEnd_core (x : Side) (converted : List (Nat × Word)) (s : State) (k) (hk : s.core = k) :
    Keeps (execSettingsMigrationEnd x converted s) k := by
  subst hk
  unfold execSettingsMigrationEnd
  split <;> simp

@[simp] theorem State_sendAll_core (s : State) (x : Side) : (s.sendAll x).core = s.core := by
  simp [State.sendAll]

@[simp] theorem execHandover_core (s : State) (k) (hk : s.core = k) : Keeps (execHandover s) k := by
  subst hk
  simp [execHandover]

@[simp] theorem State_tailDrop_core (s : State) (x : Side) (reason : Nat) : (s.tailDrop x reason).core = s.core := by
  simp [State.tailDrop]

@[simp] theorem execTailDrop_core (x : Side) (reason : Nat) (s : State) (k) (hk : s.core = k) :
    Keeps (execTailDrop x reason s) k := by
  subst hk
  unfold execTailDrop
  split <;> simp

@[simp] theorem execTadpoleTimeout_core (x : Side) (s : State) (k) (hk : s.core = k) : Keeps (execTadpoleTimeout x s) k := by
  subst hk
  simp [execTadpoleTimeout]

@[simp] theorem execClaimTimeout_core (s : State) (k) (hk : s.core = k) : Keeps (execClaimTimeout s) k := by
  subst hk
  simp [execClaimTimeout]

@[simp] theorem execSoakEnd_core (s : State) (k) (hk : s.core = k) : Keeps (execSoakEnd s) k := by
  subst hk
  simp [execSoakEnd]

@[simp] theorem State_seqCopied_core (s : State) (x : Side) : (s.seqCopied x).core = s.core := by
  simp [State.seqCopied]

@[simp] theorem State_hostDogsIn_core (s : State) (x : Side) (before n : Mode) :
    (s.hostDogsIn x before n).core = s.core := by
  simp [State.hostDogsIn]

@[simp] theorem State_servedDogIn_core (s : State) (x : Side) (before n : Mode) :
    (s.servedDogIn x before n).core = s.core := by
  simp [State.servedDogIn]

@[simp] theorem State_dogsIn_core (s : State) (x : Side) (before n : Mode) : (s.dogsIn x before n).core = s.core := by
  simp [State.dogsIn]

@[simp] theorem State_fskIn_core (s : State) (x : Side) (n : Mode) : (s.fskIn x n).core = s.core := by
  unfold State.fskIn
  split <;> simp

@[simp] theorem State_enterMode_core (s : State) (x : Side) (n : Mode) (cause tag session : Nat) :
    (s.enterMode x n cause tag session).core = s.core := by
  simp [State.enterMode]

@[simp] theorem State_hwEnter_core (s : State) (x : Side) (n : Mode) (cause : Nat) :
    (s.hwEnter x n cause).core = s.core := by
  simp [State.hwEnter]

@[simp] theorem State_setModeNext_core (s : State) (x : Side) (m : Option ModeChange) :
    (s.setModeNext x m).core = s.core := by
  simp [State.setModeNext]

@[simp] theorem effectModeRequest_core (x : Side) (q : Req) (p : List Word) (s : State) :
    (effectModeRequest x q p s).1.core = s.core := by
  unfold effectModeRequest
  split <;> simp

@[simp] theorem State_takeModeNext_core (s : State) (x : Side) (safe : Bool) : (s.takeModeNext x safe).core = s.core := by
  unfold State.takeModeNext
  split <;> simp

@[simp] theorem State_escalateMode_core (s : State) (x : Side) : (s.escalateMode x).core = s.core := by
  unfold State.escalateMode
  dsimp only; split <;> simp

@[simp] theorem State_escalate_core (s : State) (x : Side) : (s.escalate x).core = s.core := by
  simp [State.escalate]

@[simp] theorem State_leaveCalibrate_core (s : State) (x : Side) (n : Mode) (cause : Nat) :
    (s.leaveCalibrate x n cause).core = s.core := by
  simp [State.leaveCalibrate]

@[simp] theorem State_endCalibrate_core (s : State) (x : Side) : (s.endCalibrate x).core = s.core := by
  simp [State.endCalibrate]

@[simp] theorem execCalibrateEnd_core (s : State) (k) (hk : s.core = k) : Keeps (execCalibrateEnd s) k := by
  subst hk
  simp [execCalibrateEnd]

@[simp] theorem effectFaultAck_core (x : Side) (s : State) : (effectFaultAck x s).1.core = s.core := by
  simp [effectFaultAck]

@[simp] theorem effectPinRelease_core (x : Side) (s : State) : (effectPinRelease x s).core = s.core := by
  simp [effectPinRelease]

@[simp] theorem execFaultPinMinHold_core (s : State) (k) (hk : s.core = k) : Keeps (execFaultPinMinHold s) k := by
  subst hk
  simp [execFaultPinMinHold]

@[simp] theorem execFaultRaise_core (x : Side) (source : Nat) (injected : Bool) (s : State) (k) (hk : s.core = k) :
    Keeps (execFaultRaise x source injected s) k := by
  subst hk
  simp [execFaultRaise]

@[simp] theorem execReactionTimerExpiry_core (s : State) (k) (hk : s.core = k) : Keeps (execReactionTimerExpiry s) k := by
  subst hk
  simp [execReactionTimerExpiry]

@[simp] theorem execWatchdogReset_core (x : Side) (s : State) (k) (hk : s.core = k) : Keeps (execWatchdogReset x s) k := by
  subst hk
  unfold execWatchdogReset
  split <;> simp

@[simp] theorem execPartnerFaultReset_core (x : Side) (s : State) (k) (hk : s.core = k) :
    Keeps (execPartnerFaultReset x s) k := by
  subst hk
  unfold execPartnerFaultReset
  dsimp only; split <;> simp

@[simp] theorem execConditionReraise_core (x : Side) (source : Nat) (s : State) (k) (hk : s.core = k) :
    Keeps (execConditionReraise x source s) k := by
  subst hk
  unfold execConditionReraise
  dsimp only; split <;> simp

@[simp] theorem State_loglineFails_core (s : State) (x : Side) (readAt : Option Word) (inj : Bool) :
    (s.loglineFails x readAt inj).core = s.core := by
  unfold State.loglineFails
  split <;> simp

@[simp] theorem execLoglineFailure_core (x : Side) (readAt : Option Word) (s : State) (k) (hk : s.core = k) :
    Keeps (execLoglineFailure x readAt s) k := by
  subst hk
  unfold execLoglineFailure
  split <;> simp

@[simp] theorem State_raiseTimes_core (n : Nat) (y : Side) (src : Nat) (s : State) : (State.raiseTimes n y src s).core = s.core := by
  induction n generalizing s with
  | zero => rfl
  | succ n ih => simp [State.raiseTimes, ih]

@[simp] theorem State_injectDone_core (s : State) (x : Side) : (s.injectDone x).core = s.core := by
  simp [State.injectDone]

@[simp] theorem State_injected_core (s : State) (x : Side) : (s.injected x).core = s.core := by
  simp [State.injected]

@[simp] theorem State_injectMemory_core (s : State) (w : Word) : (s.injectMemory w).core = s.core := by
  unfold State.injectMemory
  split <;> simp

@[simp] theorem State_startInjection_core (s : State) (x : Side) (w : Word) : (s.startInjection x w).core = s.core := by
  unfold State.startInjection
  split <;> simp

@[simp] theorem State_endOperation_core (s : State) (x : Side) (f : Flight) : (s.endOperation x f).core = s.core := by
  simp [State.endOperation]

@[simp] theorem effectAbort_core (x : Side) (p : List Word) (s : State) : (effectAbort x p s).core = s.core := by
  unfold effectAbort
  split <;> simp

@[simp] theorem answerCrcPut_core (x : Side) (q : Req) (p : List Word) (s : State) : (answerCrcPut x q p s).1.core = s.core := by
  unfold answerCrcPut
  dsimp only
  split
  · rfl
  · split
    · rfl
    · simp

@[simp] theorem State_angleEvent_core (s : State) (x : Side) (src : Nat) (old new : TrackSt) (step : Int) :
    (s.angleEvent x src old new step).core = s.core := by
  simp [State.angleEvent]

@[simp] theorem State_noteTrack_core (s : State) (x : Side) (src : Nat) : (s.noteTrack x src).core = s.core := by
  simp [State.noteTrack]

@[simp] theorem State_trackEnter_core (s : State) (x : Side) (src : Nat) (st : TrackSt) (step : Int) :
    (s.trackEnter x src st step).core = s.core := by
  unfold State.trackEnter
  split <;> simp

@[simp] theorem State_fireAll_core (s : State) (x : Side) (src a d : Nat) (cyc next : BitVec 32) (skipped : Bool) :
    (s.fireAll x src a d cyc next skipped).core = s.core := by
  simp [State.fireAll]

@[simp] theorem State_trackOne_core (rate : Int) (x : Side) (s : State) (src : Nat) :
    (State.trackOne rate x s src).core = s.core := by
  simp [State.trackOne]

@[simp] theorem State_stepSource_core (s : State) (x : Side) (src : Nat) (e : Int) (st : TrackSt) (num : Option (BitVec 32)) :
    (s.stepSource x src e st num).core = s.core := by
  simp [State.stepSource]

@[simp] theorem State_commandStep_core (s : State) (x : Side) (src : Nat) (e : Int) (num : Option (BitVec 32)) :
    (s.commandStep x src e num).core = s.core := by
  unfold State.commandStep
  split <;> simp

@[simp] theorem State_measure_core (s : State) (x : Side) (src measured : Nat) (num : Option (BitVec 32)) :
    (s.measure x src measured num).core = s.core := by
  unfold State.measure
  dsimp only; split <;> simp

theorem onRunning_t {s s0 : State} (f : Side → State → State) (h : ∀ x s, (f x s).core = s.core) (hs : s.core = s0.core) : (s.onRunning f).core = s0.core := by
  unfold State.onRunning; dsimp only; (repeat' split) <;> simp [h, hs]

@[simp] theorem State_onRunning_core (s : State) (f : Side → State → State) (h : ∀ x s, (f x s).core = s.core) : (s.onRunning f).core = s.core := onRunning_t f h rfl

theorem onRunning_t1 {s s0 : State} (f : Side → State → State) (h : ∀ x s, (f x s).core.1 = s.core.1) (hs : s.core.1 = s0.core.1) : (s.onRunning f).core.1 = s0.core.1 := by
  unfold State.onRunning; dsimp only; (repeat' split) <;> simp [h, hs]

@[simp] theorem State_onRunning_core1 (s : State) (f : Side → State → State) (h : ∀ x s, (f x s).core.1 = s.core.1) : (s.onRunning f).core.1 = s.core.1 := onRunning_t1 f h rfl

@[simp] theorem State_setPeriod_core (s : State) (x : Side) (src period dt : Nat) :
    (s.setPeriod x src period dt).core = s.core := by
  simp [State.setPeriod]

/- TODO execAs0ZeroCrossing_core -/

@[simp] theorem execAs0ZeroCrossing_core (period : Nat) (s : State) (k) (hk : s.core = k) :
    Keeps (execAs0ZeroCrossing period s) k := by
  subst hk
  simp [execAs0ZeroCrossing]

@[simp] theorem State_carrierEdge_core (s : State) (x : Side) : (s.carrierEdge x).core = s.core := by
  simp [State.carrierEdge]

@[simp] theorem execCarrierSyncEdge_core (width : Nat) (rising : Bool) (s : State) (k) (hk : s.core = k) :
    Keeps (execCarrierSyncEdge width rising s) k := by
  subst hk
  simp [execCarrierSyncEdge]

@[simp] theorem State_loseSource_core (s : State) (x : Side) (src : Nat) : (s.loseSource x src).core = s.core := by
  simp [State.loseSource]

@[simp] theorem execSourceLoss_core (src : Nat) (s : State) (k) (hk : s.core = k) : Keeps (execSourceLoss src s) k := by
  subst hk
  unfold execSourceLoss
  (try dsimp only)
  (repeat' (first | (refine keeps_ite ?_ ?_) | split)) <;> simp only [keeps_next] <;> (repeat' (first | split | (refine onRunning_t _ (fun _ _ => ?_) ?_) | (refine onActive_t _ ?_ (fun _ => ?_)) | (refine foldl_t _ _ (fun _ _ => ?_) ?_) | (dsimp only))) <;> simp

@[simp] theorem execAcquireLock_core (src : Nat) (angle : BitVec 16) (s : State) (k) (hk : s.core = k) :
    Keeps (execAcquireLock src angle s) k := by
  subst hk
  simp [execAcquireLock]

@[simp] theorem execAcquireInputInvalid_core (src : Nat) (s : State) (k) (hk : s.core = k) :
    Keeps (execAcquireInputInvalid src s) k := by
  subst hk
  simp [execAcquireInputInvalid]

@[simp] theorem execRelockComplete_core (src : Nat) (s : State) (k) (hk : s.core = k) :
    Keeps (execRelockComplete src s) k := by
  subst hk
  simp [execRelockComplete]

@[simp] theorem State_endFlywheel_core (s : State) (x : Side) (src : Nat) : (s.endFlywheel x src).core = s.core := by
  simp [State.endFlywheel]

@[simp] theorem execFlywheelLimit_core (src : Nat) (s : State) (k) (hk : s.core = k) :
    Keeps (execFlywheelLimit src s) k := by
  subst hk
  simp [execFlywheelLimit]

@[simp] theorem State_validAgain_core (s : State) (x : Side) (src : Nat) (angle : BitVec 16) :
    (s.validAgain x src angle).core = s.core := by
  unfold State.validAgain
  dsimp only; split <;> simp

@[simp] theorem execInputValidAgain_core (src : Nat) (angle : BitVec 16) (s : State) (k) (hk : s.core = k) :
    Keeps (execInputValidAgain src angle s) k := by
  subst hk
  simp [execInputValidAgain]

@[simp] theorem State_as2Sample_core (s : State) (x : Side) (mt angle : Nat) (cyc : BitVec 32) (change : Bool) :
    (s.as2Sample x mt angle cyc change).core = s.core := by
  simp [State.as2Sample]

@[simp] theorem execAngleWord_core (w : Word) (atMtime : Nat) (s : State) (k) (hk : s.core = k) :
    Keeps (execAngleWord w atMtime s) k := by
  subst hk
  simp [execAngleWord]

@[simp] theorem State_angleWritten_core (s : State) (old : Word) : (s.angleWritten old).core = s.core := by
  simp [State.angleWritten]

@[simp] theorem State_correctTime_core (s : State) (x : Side) (offset : Int) : (s.correctTime x offset).core = s.core := by
  simp [State.correctTime]

/- TODO State_takeAngleCfg_core -/

@[simp] theorem State_takeAngleCfg_core (s : State) (x : Side) : (s.takeAngleCfg x).core = s.core := by
  unfold State.takeAngleCfg
  split <;> simp

@[simp] theorem State_trackAll_core (s : State) (x : Side) : (s.trackAll x).core = s.core := by
  simp [State.trackAll]

@[simp] theorem State_reportUtc_core (s : State) (x : Side) : (s.reportUtc x).core = s.core := by
  unfold State.reportUtc
  dsimp only; split <;> simp

@[simp] theorem execPtpAnnounce_core (x : Side) (domain : Nat) (a : Announce) (utcOffset : Nat) (s : State) (k) (hk : s.core = k) :
    Keeps (execPtpAnnounce x domain a utcOffset s) k := by
  subst hk
  unfold execPtpAnnounce
  dsimp only; split <;> simp

@[simp] theorem execPtpAnnounceTimeout_core (x : Side) (s : State) (k) (hk : s.core = k) :
    Keeps (execPtpAnnounceTimeout x s) k := by
  subst hk
  unfold execPtpAnnounceTimeout
  split <;> simp

@[simp] theorem execPtpSync_core (x : Side) (domain : Nat) (y : Sync) (s : State) (k) (hk : s.core = k) :
    Keeps (execPtpSync x domain y s) k := by
  subst hk
  unfold execPtpSync
  dsimp only; (repeat' split) <;> simp

@[simp] theorem execPtpDelayReqSend_core (x : Side) (s : State) (k) (hk : s.core = k) :
    Keeps (execPtpDelayReqSend x s) k := by
  subst hk
  unfold execPtpDelayReqSend
  dsimp only; split <;> simp

@[simp] theorem execPtpDelayResp_core (x : Side) (delay : Nat) (logInterval : Int) (s : State) (k) (hk : s.core = k) :
    Keeps (execPtpDelayResp x delay logInterval s) k := by
  subst hk
  unfold execPtpDelayResp
  split <;> simp

@[simp] theorem State_setRope_core (s : State) (x : Side) (r : Rope) : (s.setRope x r).core = s.core := by
  simp [State.setRope]

@[simp] theorem State_emitRope_core (s : State) (x : Side) (o : Out) : (s.emitRope x o).core = s.core := by
  simp [State.emitRope]

@[simp] theorem State_modRope_core (s : State) (x : Side) (f : Rope → Rope) : (s.modRope x f).core = s.core := by
  simp [State.modRope]

@[simp] theorem State_ropeEvent_core (s : State) (x : Side) (ev who detail : Nat) :
    (s.ropeEvent x ev who detail).core = s.core := by
  simp [State.ropeEvent]

@[simp] theorem State_ropeRole_core (s : State) (x : Side) (role : Nat) : (s.ropeRole x role).core = s.core := by
  simp [State.ropeRole]

@[simp] theorem State_awaken_core (s : State) (x : Side) : (s.awaken x).core = s.core := by
  simp [State.awaken]

@[simp] theorem State_channelWritten_core (s : State) (x : Side) (item ch : Nat) (old new : Word) : (s.channelWritten x item ch old new).core = s.core := by
  unfold State.channelWritten
  dsimp only
  split <;> (repeat' split) <;> simp

@[simp] theorem State_wdogWritten_core (s : State) (x : Side) (old new : Word) :
    (s.wdogWritten x old new).core = s.core := by
  simp [State.wdogWritten]

@[simp] theorem State_hostDogWritten_core (s : State) (x : Side) (i : Nat) (w : Word) :
    (s.hostDogWritten x i w).core = s.core := by
  simp [State.hostDogWritten]

@[simp] theorem State_faultWritten_core (s : State) (x : Side) (w : Word) : (s.faultWritten x w).core = s.core := by
  simp [State.faultWritten]

@[simp] theorem State_askRopeReset_core (s : State) (x : Side) : (s.askRopeReset x).core = s.core := by
  simp [State.askRopeReset]

@[simp] theorem State_wordWritten_core (s : State) (x : Side) (q : Req) (item i : Nat) (old new : Word) :
    (s.wordWritten x q item i old new).core = s.core := by
  unfold State.wordWritten
  split <;> simp

@[simp] theorem effectCfgWrite_core (x : Side) (q : Req) (p : List Word) (s : State) :
    (effectCfgWrite x q p s).1.core = s.core := by
  simp [effectCfgWrite]

end Sys2Proof.Machine
end

