-- ==== Sys2Proof/Laws/FrameField.lean ====
section
/-! SUPPORT. Frame lemmas of the pods, their channels and the links: each leaves the command queue, the straps and the tether word as they were
(`State.core`), or says what it makes of them. -/

namespace Sys2Proof.Machine

@[simp] theorem State_putLoop_core (s : State) (ch : Nat) (l : LoopCh) : (s.putLoop ch l).core.1 = s.core.1 := by
  simp [State.putLoop]

@[simp] theorem State_regulate_core (s : State) (ch : Nat) (l : LoopCh) : (s.regulate ch l).core.1 = s.core.1 := by
  simp [State.regulate]

@[simp] theorem State_dropConvs_core (s : State) (ch : Nat) (l : LoopCh) : (s.dropConvs ch l).core = s.core := by
  simp [State.dropConvs]

@[simp] theorem State_digIn_core (s : State) (m : Mode) (ch : Nat) : (s.digIn m ch).core.1 = s.core.1 := rfl

@[simp] theorem State_loopIn_core (s : State) (before m : Mode) (ch : Nat) : (s.loopIn before m ch).core.1 = s.core.1 := by
  simp [State.loopIn]

@[simp] theorem State_podMode_core (s : State) (link : Nat) (m : Mode) : (s.podMode link m).core.1 = s.core.1 := by
  simp [State.podMode]

@[simp] theorem State_stopModems_core (s : State) (link : Nat) : (s.stopModems link).core.1 = s.core.1 := by
  simp [State.stopModems]

@[simp] theorem State_changeHolder_core (s : State) (link : Nat) (x y : Side) :
    (s.changeHolder link x y).core.1 = s.core.1 := by
  simp [State.changeHolder]

@[simp] theorem State_endHolds_core (s : State) (link : Nat) (expired : Bool) :
    (s.endHolds link expired).core.1 = s.core.1 := by
  simp [State.endHolds]

@[simp] theorem State_startHolds_core (s : State) (link : Nat) (k : HoldKind) : (s.startHolds link k).core.1 = s.core.1 := by
  simp [State.startHolds]

@[simp] theorem State_lapse_core (s : State) (link : Nat) : (s.lapse link).core.1 = s.core.1 := by
  simp [State.lapse]

@[simp] theorem State_podPass_core (s : State) (link : Nat) (h : DownHdr) : (s.podPass link h).core.1 = s.core.1 := by
  unfold State.podPass
  dsimp only; split <;> simp

@[simp] theorem State_podUse_core (s : State) (link : Nat) (h : DownHdr) (p : Pod) :
    (s.podUse link h p).1.core.1 = s.core.1 := by
  simp [State.podUse]

@[simp] theorem State_podFrame_core (s : State) (link : Nat) (h : DownHdr) : (s.podFrame link h).1.core.1 = s.core.1 := by
  simp [State.podFrame]

@[simp] theorem execPodIdleFrame_core (link : Nat) (h : DownHdr) (s : State) (k) (hk : s.core.1 = k) :
    Keeps1 (execPodIdleFrame link h s) k := by
  subst hk
  simp [execPodIdleFrame]

@[simp] theorem execPodBadFrame_core (link : Nat) (x : Side) (s : State) (k) (hk : s.core.1 = k) :
    Keeps1 (execPodBadFrame link x s) k := by
  subst hk
  unfold execPodBadFrame
  dsimp only; split <;> simp

@[simp] theorem execAutonomousHoldStart_core (link : Nat) (s : State) (k) (hk : s.core.1 = k) :
    Keeps1 (execAutonomousHoldStart link s) k := by
  subst hk
  unfold execAutonomousHoldStart
  dsimp only; split <;> simp

@[simp] theorem execLeaseLapse_core (link : Nat) (s : State) (k) (hk : s.core.1 = k) : Keeps1 (execLeaseLapse link s) k := by
  subst hk
  unfold execLeaseLapse
  dsimp only; split <;> simp

@[simp] theorem execHoldExpiry_core (ch : Nat) (s : State) (k) (hk : s.core.1 = k) : Keeps1 (execHoldExpiry ch s) k := by
  subst hk
  unfold execHoldExpiry
  dsimp only; (repeat' split) <;> simp

@[simp] theorem execPodTetherAcceptAny_core (link : Nat) (s : State) (k) (hk : s.core.1 = k) :
    Keeps1 (execPodTetherAcceptAny link s) k := by
  subst hk
  unfold execPodTetherAcceptAny
  dsimp only; split <;> simp

@[simp] theorem execReferenceFallback_core (link : Nat) (s : State) (k) (hk : s.core.1 = k) :
    Keeps1 (execReferenceFallback link s) k := by
  subst hk
  unfold execReferenceFallback
  dsimp only; split <;> simp

@[simp] theorem State_podUp_core (s : State) (link : Nat) : (s.podUp link).core.1 = s.core.1 := by
  simp [State.podUp]

@[simp] theorem State_podDown_core (s : State) (link : Nat) : (s.podDown link).core.1 = s.core.1 := by
  simp [State.podDown]

@[simp] theorem execPodPowerUp_core (bay : Nat) (s : State) (k) (hk : s.core.1 = k) : Keeps1 (execPodPowerUp bay s) k := by
  subst hk
  unfold execPodPowerUp
  split <;> simp

@[simp] theorem execPodPowerDown_core (bay : Nat) (s : State) (k) (hk : s.core.1 = k) :
    Keeps1 (execPodPowerDown bay s) k := by
  subst hk
  unfold execPodPowerDown
  split <;> simp

@[simp] theorem State_putValue_core (s : State) (ch path index win : Nat) (v : Int) (valid settling interrupted skipped : Bool) :
    (s.putValue ch path index win v valid settling interrupted skipped).core.1 = s.core.1 := rfl

@[simp] theorem State_markAlarm_core (s : State) (ch : Nat) (v : Int) : (s.markAlarm ch v).core.1 = s.core.1 := by
  simp [State.markAlarm]

@[simp] theorem State_primary_core (s : State) (ch index win : Nat) (raw : Int) (valid settling interrupted skipped : Bool) :
    (s.primary ch index win raw valid settling interrupted skipped).core.1 = s.core.1 := by
  simp [State.primary]

@[simp] theorem execConversionResult_core (ch : Nat) (raw : Int) (s : State) (k) (hk : s.core.1 = k) :
    Keeps1 (execConversionResult ch raw s) k := by
  subst hk
  unfold execConversionResult
  dsimp only; (repeat' split) <;> simp

@[simp] theorem execReadbackResult_core (ch : Nat) (raw : Int) (s : State) (k) (hk : s.core.1 = k) :
    Keeps1 (execReadbackResult ch raw s) k := by
  subst hk
  unfold execReadbackResult
  dsimp only; split <;> simp

@[simp] theorem execTriggeredConversionEnd_core (ch : Nat) (raw : Int) (s : State) (k) (hk : s.core.1 = k) :
    Keeps1 (execTriggeredConversionEnd ch raw s) k := by
  subst hk
  unfold execTriggeredConversionEnd
  dsimp only; split <;> simp

@[simp] theorem execUrgentConversionEnd_core (ch : Nat) (raw : Int) (s : State) (k) (hk : s.core.1 = k) :
    Keeps1 (execUrgentConversionEnd ch raw s) k := by
  subst hk
  unfold execUrgentConversionEnd
  dsimp only; split <;> simp

@[simp] theorem execModulatorPowerDown_core (ch : Nat) (s : State) (k) (hk : s.core.1 = k) :
    Keeps1 (execModulatorPowerDown ch s) k := by
  subst hk
  unfold execModulatorPowerDown
  dsimp only; split <;> simp

@[simp] theorem execModulatorStartUpEnd_core (ch : Nat) (s : State) (k) (hk : s.core.1 = k) :
    Keeps1 (execModulatorStartUpEnd ch s) k := by
  subst hk
  unfold execModulatorStartUpEnd
  dsimp only; split <;> simp

@[simp] theorem State_interrupt_core (s : State) (ch : Nat) (raw : Int) : (s.interrupt ch raw).core.1 = s.core.1 := by
  simp [State.interrupt]

@[simp] theorem execLoopBreakTrip_core (ch : Nat) (raw : Int) (s : State) (k) (hk : s.core.1 = k) :
    Keeps1 (execLoopBreakTrip ch raw s) k := by
  subst hk
  unfold execLoopBreakTrip
  split <;> simp

@[simp] theorem execLoopBreakConfirm_core (ch : Nat) (s : State) (k) (hk : s.core.1 = k) :
    Keeps1 (execLoopBreakConfirm ch s) k := by
  subst hk
  unfold execLoopBreakConfirm
  dsimp only; split <;> simp

@[simp] theorem execLoopBreakRelease_core (ch : Nat) (raw : Int) (s : State) (k) (hk : s.core.1 = k) :
    Keeps1 (execLoopBreakRelease ch raw s) k := by
  subst hk
  unfold execLoopBreakRelease
  dsimp only; split <;> simp

@[simp] theorem State_setDiag_core (s : State) (ch bit : Nat) (v : Bool) : (s.setDiag ch bit v).core.1 = s.core.1 := by
  simp [State.setDiag]

@[simp] theorem execVerifyOpenLoop_core (ch : Nat) (s : State) (k) (hk : s.core.1 = k) :
    Keeps1 (execVerifyOpenLoop ch s) k := by
  subst hk
  unfold execVerifyOpenLoop
  split <;> simp

@[simp] theorem execVerifyCompliance_core (ch : Nat) (s : State) (k) (hk : s.core.1 = k) :
    Keeps1 (execVerifyCompliance ch s) k := by
  subst hk
  unfold execVerifyCompliance
  split <;> simp

@[simp] theorem execVerifyClear_core (ch bit : Nat) (s : State) (k) (hk : s.core.1 = k) :
    Keeps1 (execVerifyClear ch bit s) k := by
  subst hk
  unfold execVerifyClear
  split <;> simp

@[simp] theorem execSupplyVerdict_core (ch : Nat) (bad : Bool) (s : State) (k) (hk : s.core.1 = k) :
    Keeps1 (execSupplyVerdict ch bad s) k := by
  subst hk
  unfold execSupplyVerdict
  split <;> simp

@[simp] theorem execLoopOverloadVerdict_core (ch : Nat) (exceeds : Bool) (s : State) (k) (hk : s.core.1 = k) :
    Keeps1 (execLoopOverloadVerdict ch exceeds s) k := by
  subst hk
  unfold execLoopOverloadVerdict
  (repeat' split) <;> simp

@[simp] theorem execLoopOvertemp_core (ch : Nat) (hot : Bool) (s : State) (k) (hk : s.core.1 = k) :
    Keeps1 (execLoopOvertemp ch hot s) k := by
  subst hk
  unfold execLoopOvertemp
  dsimp only; (repeat' split) <;> simp

@[simp] theorem execLoopOvertempFlagClear_core (ch : Nat) (s : State) (k) (hk : s.core.1 = k) :
    Keeps1 (execLoopOvertempFlagClear ch s) k := by
  subst hk
  unfold execLoopOvertempFlagClear
  dsimp only; split <;> simp

@[simp] theorem execAlmChange_core (pod level : Nat) (s : State) (k) (hk : s.core.1 = k) :
    Keeps1 (execAlmChange pod level s) k := by
  subst hk
  unfold execAlmChange
  dsimp only; split <;> simp

@[simp] theorem State_startCal_core (s : State) (link : Nat) : (s.startCal link).core.1 = s.core.1 := by
  unfold State.startCal
  dsimp only
  split
  · rfl
  · exact foldl_t1 _ _ (fun _ _ => rfl) rfl

@[simp] theorem execSelfCalPhaseEnd_core (pod : Nat) (s : State) (k) (hk : s.core.1 = k) :
    Keeps1 (execSelfCalPhaseEnd pod s) k := by
  subst hk
  unfold execSelfCalPhaseEnd
  dsimp only; split <;> simp

@[simp] theorem State_startUrgent_core (s : State) (ch : Nat) : (s.startUrgent ch).core.1 = s.core.1 := by
  simp [State.startUrgent]

@[simp] theorem State_tellCal_core (s : State) (link : Nat) : (s.tellCal link).core = s.core := by
  simp [State.tellCal]

@[simp] theorem State_calRestart_core (s : State) (ch : Nat) (d : CalData) :
    (s.calRestart ch d).core.1 = s.core.1 := by
  simp [State.calRestart]

@[simp] theorem execSelfCalEnd_core (pod : Nat) (temp priOff rbOff priGain rbGain diff current refDev : List Int) (s : State) (k) (hk : s.core.1 = k) :
    Keeps1 (execSelfCalEnd pod temp priOff rbOff priGain rbGain diff current refDev s) k := by
  subst hk
  unfold execSelfCalEnd
  dsimp only; split <;> simp

@[simp] theorem execCalTempDeparture_core (ch : Nat) (temp : Int) (s : State) (k) (hk : s.core.1 = k) :
    Keeps1 (execCalTempDeparture ch temp s) k := by
  subst hk
  unfold execCalTempDeparture
  dsimp only; split <;> simp

@[simp] theorem execDiagInputMeasurement_core (pod : Nat) (value : Int) (s : State) (k) (hk : s.core.1 = k) :
    Keeps1 (execDiagInputMeasurement pod value s) k := by
  subst hk
  unfold execDiagInputMeasurement
  dsimp only; split <;> simp

@[simp] theorem execFskCharacter_core (ch : Nat) (bytes : List Byte) (first last parityErr : Bool) (s : State) (k) (hk : s.core.1 = k) :
    Keeps1 (execFskCharacter ch bytes first last parityErr s) k := by
  subst hk
  unfold execFskCharacter
  dsimp only; split <;> simp

@[simp] theorem State_signalWake_core (s : State) : (s.signalWake).core = s.core := by
  simp [State.signalWake]

@[simp] theorem State_latchEdge_core (s : State) (ch : Nat) (level raw : Bool) (tick : Nat) :
    (s.latchEdge ch level raw tick).core.1 = s.core.1 := by
  unfold State.latchEdge
  dsimp only; (repeat' split) <;> simp

@[simp] theorem execDebounceChange_core (ch : Nat) (s : State) (k) (hk : s.core.1 = k) :
    Keeps1 (execDebounceChange ch s) k := by
  subst hk
  unfold execDebounceChange
  dsimp only; split <;> simp

@[simp] theorem execEdgeCapture_core (ch : Nat) (level : Bool) (tick : Nat) (s : State) (k) (hk : s.core.1 = k) :
    Keeps1 (execEdgeCapture ch level tick s) k := by
  subst hk
  unfold execEdgeCapture
  split <;> simp

@[simp] theorem execOpenVerdict_core (ch : Nat) (isOpen : Bool) (s : State) (k) (hk : s.core.1 = k) :
    Keeps1 (execOpenVerdict ch isOpen s) k := by
  subst hk
  unfold execOpenVerdict
  dsimp only; split <;> simp

@[simp] theorem State_protect_core (s : State) (ch : Nat) (thermal : Bool) (d : DigCh) :
    (s.protect ch thermal d).core.1 = s.core.1 := by
  simp [State.protect]

@[simp] theorem execOverloadTrip_core (ch : Nat) (s : State) (k) (hk : s.core.1 = k) : Keeps1 (execOverloadTrip ch s) k := by
  subst hk
  unfold execOverloadTrip
  dsimp only; split <;> simp

@[simp] theorem execShortTrip_core (ch : Nat) (s : State) (k) (hk : s.core.1 = k) : Keeps1 (execShortTrip ch s) k := by
  subst hk
  unfold execShortTrip
  dsimp only; split <;> simp

@[simp] theorem execOvertempTrip_core (ch : Nat) (temp : Int) (s : State) (k) (hk : s.core.1 = k) :
    Keeps1 (execOvertempTrip ch temp s) k := by
  subst hk
  unfold execOvertempTrip
  dsimp only; (repeat' split) <;> simp

@[simp] theorem execPodIlimTrip_core (pod : Nat) (largest : List Nat) (s : State) (k) (hk : s.core.1 = k) :
    Keeps1 (execPodIlimTrip pod largest s) k := by
  subst hk
  unfold execPodIlimTrip
  dsimp only; (repeat' split) <;> simp

@[simp] theorem execProtectionRetry_core (ch : Nat) (s : State) (k) (hk : s.core.1 = k) :
    Keeps1 (execProtectionRetry ch s) k := by
  subst hk
  unfold execProtectionRetry
  dsimp only; (repeat' split) <;> simp

@[simp] theorem execProtectionClear_core (ch : Nat) (s : State) (k) (hk : s.core.1 = k) :
    Keeps1 (execProtectionClear ch s) k := by
  subst hk
  unfold execProtectionClear
  dsimp only; split <;> simp

@[simp] theorem execMismatchVerdict_core (ch : Nat) (differs : Bool) (s : State) (k) (hk : s.core.1 = k) :
    Keeps1 (execMismatchVerdict ch differs s) k := by
  subst hk
  unfold execMismatchVerdict
  dsimp only; (repeat' split) <;> simp

@[simp] theorem execOffStateShortVerdict_core (ch : Nat) (high : Bool) (s : State) (k) (hk : s.core.1 = k) :
    Keeps1 (execOffStateShortVerdict ch high s) k := by
  subst hk
  unfold execOffStateShortVerdict
  dsimp only; (repeat' split) <;> simp

@[simp] theorem execLevelChangeDeferred_core (ch : Nat) (s : State) (k) (hk : s.core.1 = k) :
    Keeps1 (execLevelChangeDeferred ch s) k := by
  subst hk
  unfold execLevelChangeDeferred
  dsimp only; (repeat' split) <;> simp

@[simp] theorem State_digOutput_core (s : State) (link : Nat) (w : Word) : (s.digOutput link w).core.1 = s.core.1 := by
  simp [State.digOutput]

@[simp] theorem State_loopOutput_core (s : State) (link : Nat) (w : Word) : (s.loopOutput link w).core.1 = s.core.1 := by
  simp [State.loopOutput]

@[simp] theorem State_podOutput_core (s : State) (link : Nat) (w : Word) : (s.podOutput link w).core.1 = s.core.1 := by
  simp [State.podOutput]

@[simp] theorem execPodOutputFrame_core (link : Nat) (h : DownHdr) (payload : Word) (s : State) (k) (hk : s.core.1 = k) :
    Keeps1 (execPodOutputFrame link h payload s) k := by
  subst hk
  simp [execPodOutputFrame]

@[simp] theorem State_configLoop_core (s : State) (ch : Nat) (w : Word) : (s.configLoop ch w).core.1 = s.core.1 := by
  simp [State.configLoop]

@[simp] theorem State_configConv_core (s : State) (ch : Nat) (w : Word) : (s.configConv ch w).core.1 = s.core.1 := by
  simp [State.configConv]

@[simp] theorem State_podConfig_core (s : State) (link sub : Nat) (w : Word) :
    (s.podConfig link sub w).core.1 = s.core.1 := by
  unfold State.podConfig
  (repeat' split) <;> simp

@[simp] theorem execPodConfigFrame_core (link : Nat) (h : DownHdr) (sub : Nat) (payload : Word) (s : State) (k) (hk : s.core.1 = k) :
    Keeps1 (execPodConfigFrame link h sub payload s) k := by
  subst hk
  simp [execPodConfigFrame]

theorem State_newRequest_core {s t : State} {link : Nat} {act : Bool} {w : Word} (h : s.newRequest link act w = some t) :
    t.core.1 = s.core.1 := by
  unfold State.newRequest at h
  dsimp only at h
  split at h
  · cases h
  · cases h; simp

@[simp] theorem execPodRequestUrgent_core (link : Nat) (h : DownHdr) (payload : Word) (s : State) (k) (hk : s.core.1 = k) :
    Keeps1 (execPodRequestUrgent link h payload s) k := by
  subst hk
  have hp := State_podFrame_core s link h
  unfold execPodRequestUrgent
  generalize s.podFrame link h = r at hp ⊢
  obtain ⟨s1, g, act⟩ := r
  dsimp only at hp ⊢
  cases hn : s1.newRequest link act payload with
  | none => simpa using hp
  | some s2 =>
    have h2 := State_newRequest_core hn
    simp [h2, hp]

@[simp] theorem State_startTrigger_core (s : State) (link n start : Nat) (skipped : Bool) (ch : Nat) :
    (s.startTrigger link n start skipped ch).core.1 = s.core.1 := by
  simp [State.startTrigger]

@[simp] theorem execPodRequestTrigger_core (link : Nat) (h : DownHdr) (payload : Word) (s : State) (k) (hk : s.core.1 = k) :
    Keeps1 (execPodRequestTrigger link h payload s) k := by
  subst hk
  have hp := State_podFrame_core s link h
  unfold execPodRequestTrigger
  generalize s.podFrame link h = r at hp ⊢
  obtain ⟨s1, g, act⟩ := r
  dsimp only at hp ⊢
  cases hn : s1.newRequest link act payload with
  | none => simpa using hp
  | some s2 =>
    have h2 := State_newRequest_core hn
    simp [h2, hp]

@[simp] theorem execPodRequestSelfCal_core (link : Nat) (h : DownHdr) (payload : Word) (s : State) (k) (hk : s.core.1 = k) :
    Keeps1 (execPodRequestSelfCal link h payload s) k := by
  subst hk
  have hp := State_podFrame_core s link h
  unfold execPodRequestSelfCal
  generalize s.podFrame link h = r at hp ⊢
  obtain ⟨s1, g, act⟩ := r
  dsimp only at hp ⊢
  cases hn : s1.newRequest link act payload with
  | none => simpa using hp
  | some s2 =>
    have h2 := State_newRequest_core hn
    simp [h2, hp]

@[simp] theorem State_podTime_core (s : State) (link : Nat) (w : Word) : (s.podTime link w).core.1 = s.core.1 := by
  unfold State.podTime
  dsimp only
  split
  · rfl
  · exact foldl_t1 _ _ (fun _ _ => rfl) rfl

@[simp] theorem execPodTimeFrame_core (link : Nat) (h : DownHdr) (payload : Word) (s : State) (k) (hk : s.core.1 = k) :
    Keeps1 (execPodTimeFrame link h payload s) k := by
  subst hk
  simp [execPodTimeFrame]

@[simp] theorem execPodFskFrame_core (link : Nat) (h : DownHdr) (payload : Word) (s : State) (k) (hk : s.core.1 = k) :
    Keeps1 (execPodFskFrame link h payload s) k := by
  subst hk
  unfold execPodFskFrame
  dsimp only; split <;> simp

@[simp] theorem State_sendDown_core (s : State) (x : Side) (link : Nat) : (s.sendDown x link).core = s.core := by
  simp [State.sendDown]

@[simp] theorem State_frameBoundary_core (s : State) (x : Side) (link : Nat) :
    (s.frameBoundary x link).core = s.core := by
  simp [State.frameBoundary]

@[simp] theorem execDownlinkFrame_core (x : Side) (link : Nat) (s : State) (k) (hk : s.core = k) :
    Keeps (execDownlinkFrame x link s) k := by
  subst hk
  unfold execDownlinkFrame
  split <;> simp

@[simp] theorem State_digSlot_core (s : State) (link : Nat) : (s.digSlot link).2.core.1 = s.core.1 := by
  unfold State.digSlot
  split <;> simp

@[simp] theorem State_digPayload_core (s : State) (link : Nat) : (s.digPayload link).2.core.1 = s.core.1 := by
  simp [State.digPayload]

@[simp] theorem State_loopPayload_core (s : State) (link : Nat) : (s.loopPayload link).2.core.1 = s.core.1 := rfl

@[simp] theorem execPodUplinkSend_core (link : Nat) (s : State) (k) (hk : s.core.1 = k) :
    Keeps1 (execPodUplinkSend link s) k := by
  subst hk
  unfold execPodUplinkSend
  dsimp only; split <;> simp

@[simp] theorem State_linkEvent_core (s : State) (x : Side) (link : Nat) : (s.linkEvent x link).core = s.core := by
  simp [State.linkEvent]

@[simp] theorem State_upState_core (s : State) (x : Side) (link : Nat) (r : Rx) (bad : Bool) :
    (s.upState x link r bad).core = s.core := by
  simp [State.upState]

@[simp] theorem execUplinkBadFrame_core (x : Side) (link : Nat) (s : State) (k) (hk : s.core = k) :
    Keeps (execUplinkBadFrame x link s) k := by
  subst hk
  unfold execUplinkBadFrame
  split <;> simp

@[simp] theorem State_startPod_core (s : State) (x : Side) (link : Nat) : (s.startPod x link).core = s.core := by
  simp [State.startPod]

@[simp] theorem State_upUse_core (s : State) (x : Side) (f : UpFrame) : (s.upUse x f).core = s.core := by
  simp [State.upUse]

@[simp] theorem execUplinkFrame_core (x : Side) (f : UpFrame) (s : State) (k) (hk : s.core = k) :
    Keeps (execUplinkFrame x f s) k := by
  subst hk
  unfold execUplinkFrame
  dsimp only; (repeat' split) <;> simp

end Sys2Proof.Machine
end

