-- ==== Sys2Proof/Laws/FrameModule.lean ====
section
/-! SUPPORT. Frame lemmas of redundancy, the rope, the request path, the ports, the supply and the debug units: each leaves the command queue, the straps and the tether word as they were
(`State.core`), or says what it makes of them. -/

namespace Sys2Proof.Machine

@[simp] theorem execHeartbeatSend_core (x : Side) (s : State) (k) (hk : s.core = k) : Keeps (execHeartbeatSend x s) k := by
  subst hk
  unfold execHeartbeatSend
  split <;> simp

@[simp] theorem execHeartbeatReceive_core (x : Side) (w : BitVec 64) (s : State) (k) (hk : s.core = k) :
    Keeps (execHeartbeatReceive x w s) k := by
  subst hk
  unfold execHeartbeatReceive
  dsimp only; split <;> simp

@[simp] theorem execControllerFailed_core (x : Side) (s : State) (k) (hk : s.core = k) :
    Keeps (execControllerFailed x s) k := by
  subst hk
  unfold execControllerFailed
  dsimp only; split <;> simp

theorem execTetherGrant_core (s t : State) (h : execTetherGrant s = .next t) :
    t.core = s.core ∨ ∃ y why, s.grantDue = some (y, why) ∧
      t.core = ((s.core.1.1, .held y, s.arb.nextEpoch, 1, y, 0), s.core.2) := by
  unfold execTetherGrant at h
  split at h
  · cases h; exact .inl rfl
  · rename_i y why hg
    cases h
    refine .inr ⟨y, why, hg, ?_⟩
    simp only [State_steerTo_core, State_modCtrl_core]
    rfl

theorem execTetherRenewal_core (s t : State) (h : execTetherRenewal s = .next t) :
    t.core = s.core ∨ ∃ x, s.arb.st = .held x ∧
      t.core = ((s.core.1.1, .held x, s.arb.epoch, s.arb.kind, s.arb.side, (s.arb.renew + 1) % 16), s.core.2) := by
  unfold execTetherRenewal at h
  split at h
  · rename_i x hx
    dsimp only at h
    split at h
    · cases h; exact .inr ⟨x, hx, by rw [← hx]; rfl⟩
    · cases h; exact .inl rfl
  · cases h; exact .inl rfl

theorem execArbiterLeaseEnd_core (s t : State) (h : execArbiterLeaseEnd s = .next t) :
    t.core = s.core ∨ ∃ x, s.arb.st = .held x ∧
      t.core = ((s.core.1.1, .vacant, s.arb.epoch, 0, s.arb.side, s.arb.renew), s.core.2) := by
  unfold execArbiterLeaseEnd at h
  split at h
  · rename_i x hx
    split at h
    · cases h; exact .inl rfl
    · cases h; exact .inr ⟨x, hx, rfl⟩
  · cases h; exact .inl rfl

@[simp] theorem execArbiterResetPulse_core (x : Side) (s : State) (k) (hk : s.core = k) :
    Keeps (execArbiterResetPulse x s) k := by
  subst hk
  unfold execArbiterResetPulse
  dsimp only; (repeat' split) <;> simp

theorem execArbiterStart_core (s t : State) (h : execArbiterStart s = .next t) :
    t.core = s.core ∨ t.core = ((s.core.1.1, freshKey), s.core.2) := by
  unfold execArbiterStart at h
  split at h
  · dsimp only at h
    split at h
    · cases h; exact .inr (State_steerTo_core _ _)
    · cases h; exact .inr rfl
  · cases h; exact .inl rfl

@[simp] theorem execArbiterRenewWatch_core (x : Side) (s : State) (k) (hk : s.core = k) :
    Keeps (execArbiterRenewWatch x s) k := by
  subst hk
  unfold execArbiterRenewWatch
  split <;> simp

@[simp] theorem State_takeDeferred_core (s : State) (x : Side) : (s.takeDeferred x).core = s.core := by
  simp [State.takeDeferred]

@[simp] theorem State_takeDuties_core (s : State) (x : Side) (planned : Bool) : (s.takeDuties x planned).core = s.core := by
  simp [State.takeDuties]

@[simp] theorem State_takeTag_core (s : State) (x : Side) (f : Flight) : (s.takeTag x f).core = s.core := by
  unfold State.takeTag
  split <;> simp

@[simp] theorem State_takeTags_core (s : State) (x : Side) (fs : List Flight) : (s.takeTags x fs).core = s.core := by
  simp [State.takeTags]

@[simp] theorem State_loseFsk_core (s : State) (x : Side) : (s.loseFsk x).core = s.core := by
  simp [State.loseFsk]

@[simp] theorem State_endOld_core (s : State) (x : Side) (o : Ctrl) : (s.endOld x o).core = s.core := by
  simp [State.endOld]

@[simp] theorem State_takeMode_core (s : State) (x : Side) (why : Nat) : (s.takeMode x why).core = s.core := by
  unfold State.takeMode
  dsimp only; (repeat' split) <;> simp

@[simp] theorem State_retire_core (s : State) (y : Side) (planned : Bool) (u : Update) :
    (s.retire y planned u).core = s.core := by
  simp [State.retire]

@[simp] theorem State_takeUpdate_core (s : State) (x : Side) (planned : Bool) (u : Update) :
    (s.takeUpdate x planned u).core = s.core := by
  simp [State.takeUpdate]

@[simp] theorem State_takeTime_core (s : State) (x : Side) : (s.takeTime x).core = s.core := by
  unfold State.takeTime
  dsimp only; (repeat' split) <;> simp

@[simp] theorem State_takeHostDogs_core (s : State) (x : Side) : (s.takeHostDogs x).core = s.core := by
  simp [State.takeHostDogs]

@[simp] theorem State_firstTake_core (s : State) (x : Side) (before : Role) : (s.firstTake x before).core = s.core := by
  simp [State.firstTake]

@[simp] theorem State_takeOver_core (s : State) (x : Side) : (s.takeOver x).core = s.core := by
  simp [State.takeOver]

@[simp] theorem execTakeover_core (x : Side) (s : State) (k) (hk : s.core = k) : Keeps (execTakeover x s) k := by
  subst hk
  unfold execTakeover
  split <;> simp

@[simp] theorem State_syncTracker_core (s : State) (x : Side) : (s.syncTracker x).core = s.core := by
  simp [State.syncTracker]

@[simp] theorem State_syncLogline_core (s : State) (x : Side) : (s.syncLogline x).core = s.core := by
  simp [State.syncLogline]

@[simp] theorem execMirrorUpdate_core (item : MirrorItem) (s : State) (k) (hk : s.core = k) :
    Keeps (execMirrorUpdate item s) k := by
  subst hk
  unfold execMirrorUpdate
  split <;> simp

@[simp] theorem State_cutOff_core (s : State) (x : Side) (up : Bool) : (s.cutOff x up).core = s.core := by
  simp [State.cutOff]

@[simp] theorem execSpliceWordBad_core (x : Side) (s : State) (k) (hk : s.core = k) : Keeps (execSpliceWordBad x s) k := by
  subst hk
  unfold execSpliceWordBad
  dsimp only; split <;> simp

@[simp] theorem execSpliceLost_core (x : Side) (s : State) (k) (hk : s.core = k) : Keeps (execSpliceLost x s) k := by
  subst hk
  unfold execSpliceLost
  dsimp only; split <;> simp

@[simp] theorem execSpliceRestored_core (x : Side) (s : State) (k) (hk : s.core = k) : Keeps (execSpliceRestored x s) k := by
  subst hk
  unfold execSpliceRestored
  dsimp only; split <;> simp

@[simp] theorem State_bulkCopy_core (s : State) (a : Side) : (s.bulkCopy a).core = s.core := by
  simp [State.bulkCopy]

@[simp] theorem execBulkCopyComplete_core (x : Side) (s : State) (k) (hk : s.core = k) :
    Keeps (execBulkCopyComplete x s) k := by
  subst hk
  simp [execBulkCopyComplete]

@[simp] theorem State_takeSnapshot_core (s : State) (x : Side) : (s.takeSnapshot x).core = s.core := by
  simp [State.takeSnapshot]

@[simp] theorem State_seqBooted_core (s : State) (x : Side) : (s.seqBooted x).core = s.core := by
  simp [State.seqBooted]

@[simp] theorem execControllerBoot_core (x : Side) (ok0 ok1 logOk : Bool) (s : State) (k) (hk : s.core = k) :
    Keeps (execControllerBoot x ok0 ok1 logOk s) k := by
  subst hk
  unfold execControllerBoot
  dsimp only; (repeat' split) <;> simp

@[simp] theorem execCompatSpliceTakeover_core (x : Side) (s : State) (k) (hk : s.core = k) :
    Keeps (execCompatSpliceTakeover x s) k := by
  subst hk
  unfold execCompatSpliceTakeover
  dsimp only; split <;> simp

@[simp] theorem execBypassChange_core (s : State) (k) (hk : s.core = k) : Keeps (execBypassChange s) k := by
  subst hk
  simp [execBypassChange]

@[simp] theorem State_becomeMaster_core (s : State) (x : Side) : (s.becomeMaster x).core = s.core := by
  simp [State.becomeMaster]

@[simp] theorem execMasterTimeout_core (s : State) (k) (hk : s.core = k) : Keeps (execMasterTimeout s) k := by
  subst hk
  simp [execMasterTimeout]

@[simp] theorem execNoCsfTimeout_core (s : State) (k) (hk : s.core = k) : Keeps (execNoCsfTimeout s) k := by
  subst hk
  simp [execNoCsfTimeout]

@[simp] theorem execRopeAngleLoss_core (s : State) (k) (hk : s.core = k) : Keeps (execRopeAngleLoss s) k := by
  subst hk
  unfold execRopeAngleLoss
  simp only [keeps_next]
  refine onActive_t _ rfl (fun x => ?_)
  split
  · simp only [State_modCtrl_core]
    refine onRunning_t _ (fun y s => ?_) rfl
    split <;> simp
  · rfl

@[simp] theorem State_setPresent_core (s : State) (x : Side) (m : Nat) : (s.setPresent x m).core = s.core := by
  simp [State.setPresent]

@[simp] theorem State_endSnaps_core (s : State) (x : Side) (f : Snap → Bool) : (s.endSnaps x f).core = s.core := by
  unfold State.endSnaps
  (repeat' (first | split | (refine onRunning_t _ (fun _ _ => ?_) ?_) | (refine onActive_t _ ?_ (fun _ => ?_)) | (refine foldl_t _ _ (fun _ _ => ?_) ?_) | (dsimp only))) <;> simp

@[simp] theorem State_closeSnaps_core (s : State) (x : Side) : (s.closeSnaps x).core = s.core := by
  simp [State.closeSnaps]

@[simp] theorem State_snapData_core (s : State) (x : Side) (knot session : Nat) (recs : List Word) :
    (s.snapData x knot session recs).core = s.core := by
  simp [State.snapData]

@[simp] theorem State_snapLast_core (s : State) (x : Side) (origin knot : Nat) (w : Word) (recs : List Word) :
    (s.snapLast x origin knot w recs).core = s.core := by
  unfold State.snapLast
  dsimp only; split <;> simp

@[simp] theorem State_snapAside_core (s : State) (x : Side) (n : Snap) : (s.snapAside x n).core = s.core := by
  simp [State.snapAside]

@[simp] theorem State_latchSnap_core (s : State) (x : Side) (n : Snap) : (s.latchSnap x n).core = s.core := by
  simp [State.latchSnap]

@[simp] theorem State_ownSnaps_core (s : State) (x : Side) : (s.ownSnaps x).core = s.core := by
  simp [State.ownSnaps]

@[simp] theorem State_latchSnaps_core (s : State) (x : Side) : (s.latchSnaps x).core = s.core := by
  simp [State.latchSnaps]

@[simp] theorem effectSnapshot_core (x : Side) (q : Req) (p : List Word) (s : State) :
    (effectSnapshot x q p s).core = s.core := by
  simp [effectSnapshot]

@[simp] theorem execSnapshotTimeout_core (s : State) (k) (hk : s.core = k) : Keeps (execSnapshotTimeout s) k := by
  subst hk
  simp [execSnapshotTimeout]

@[simp] theorem State_cmdSnapshot_core (s : State) (x : Side) (w mask : Word) : (s.cmdSnapshot x w mask).core = s.core := by
  simp [State.cmdSnapshot]

@[simp] theorem State_cmdRefused_core (s : State) (x : Side) (w : Word) : (s.cmdRefused x w).core = s.core := by
  simp [State.cmdRefused]

@[simp] theorem State_beginSleep_core (s : State) (x : Side) (proposer : Nat) (S : BitVec 32) :
    (s.beginSleep x proposer S).core = s.core := by
  simp [State.beginSleep]

@[simp] theorem State_answerSleep_core (s : State) (x : Side) (outcome who why : Nat) :
    (s.answerSleep x outcome who why).core = s.core := by
  unfold State.answerSleep
  split <;> simp

@[simp] theorem State_cmdPropose_core (s : State) (x : Side) (w : Word) : (s.cmdPropose x w).core = s.core := by
  unfold State.cmdPropose
  dsimp only; split <;> simp

@[simp] theorem State_cmdCommit_core (s : State) (x : Side) (w : Word) : (s.cmdCommit x w).core = s.core := by
  simp [State.cmdCommit]

@[simp] theorem State_cmdAbort_core (s : State) (x : Side) (w : Word) : (s.cmdAbort x w).core = s.core := by
  simp [State.cmdAbort]

@[simp] theorem State_sleepPoint_core (s : State) (x : Side) : (s.sleepPoint x).core = s.core := by
  simp [State.sleepPoint]

@[simp] theorem effectSleepPropose_core (x : Side) (q : Req) (p : List Word) (s : State) :
    (effectSleepPropose x q p s).core = s.core := by
  unfold effectSleepPropose
  split <;> simp

@[simp] theorem State_loneSleep_core (s : State) (x : Side) : (s.loneSleep x).core = s.core := by
  unfold State.loneSleep
  dsimp only; (repeat' split) <;> simp

@[simp] theorem State_resetModule_core (s : State) (cause : Nat) :
    (s.resetModule cause).core.1 = (s.core.1.1, freshKey) := rfl

@[simp] theorem State_cmdReset_core (s : State) (x : Side) : (s.cmdReset x).core.1 = (s.core.1.1, freshKey) := by
  unfold State.cmdReset
  dsimp only
  simp only [State_resetModule_core, State_modBoth_core]

theorem State_takeCmds_core (ws : List Word) (x : Side) (s : State) : Follows (s.takeCmds x ws) s.core := by
  induction ws generalizing s with
  | nil => exact .inl rfl
  | cons w ws ih =>
    refine follows_trans (ih _) ?_
    split <;> simp [Follows]

@[simp] theorem State_onCmd_core (s : State) (f : Side → State) (hf : ∀ x, (f x).core = s.core) (k) (hk : s.core = k) : Keeps (s.onCmd f) k := by
  subst hk
  unfold State.onCmd
  simp only [keeps_next]
  refine onActive_t _ rfl (fun x => ?_)
  split <;> simp [hf]

@[simp] theorem execRopeCmdSnapshot_core (w mask : Word) (s : State) (k) (hk : s.core = k) :
    Keeps (execRopeCmdSnapshot w mask s) k := by
  subst hk
  simp [execRopeCmdSnapshot]

@[simp] theorem execRopeCmdSleepPropose_core (w : Word) (s : State) (k) (hk : s.core = k) :
    Keeps (execRopeCmdSleepPropose w s) k := by
  subst hk
  simp [execRopeCmdSleepPropose]

@[simp] theorem execRopeCmdSleepCommit_core (w : Word) (s : State) (k) (hk : s.core = k) :
    Keeps (execRopeCmdSleepCommit w s) k := by
  subst hk
  simp [execRopeCmdSleepCommit]

@[simp] theorem execRopeCmdSleepAbort_core (w : Word) (s : State) (k) (hk : s.core = k) :
    Keeps (execRopeCmdSleepAbort w s) k := by
  subst hk
  simp [execRopeCmdSleepAbort]

theorem execRopeCmdRopeReset_core (w : Word) (s t : State) (h : execRopeCmdRopeReset w s = .next t) : Follows t s.core := by
  cases h
  unfold State.onActive
  cases s.active with
  | none => exact .inl rfl
  | some x =>
    dsimp only
    split
    · exact .inr (by simp)
    · exact .inl rfl

@[simp] theorem execRopeCmdSnapshotRefused_core (w : Word) (s : State) (k) (hk : s.core = k) :
    Keeps (execRopeCmdSnapshotRefused w s) k := by
  subst hk
  simp [execRopeCmdSnapshotRefused]

theorem State_launch_core (s : State) (x : Side) : Follows (s.launch x) s.core := by
  unfold State.launch
  simp only [follows_congr (State_closeSnaps_core _ _)]
  refine follows_trans (State_takeCmds_core ..) (.inl ?_)
  simp

theorem execCsfLaunch_core (s t : State) (h : execCsfLaunch s = .next t) : Follows t s.core := by
  cases h
  unfold State.onActive
  cases s.active with
  | none => exact .inl rfl
  | some x =>
    dsimp only
    split
    · exact State_launch_core ..
    · exact .inl rfl

@[simp] theorem State_badFrame_core (s : State) (x : Side) : (s.badFrame x).core = s.core := by
  simp [State.badFrame]

@[simp] theorem State_forwardCsf_core (s : State) (x : Side) (f : Csf) : (s.forwardCsf x f).core = s.core := by
  simp [State.forwardCsf]

@[simp] theorem State_masterCsf_core (s : State) (x : Side) (f : Csf) : (s.masterCsf x f).core = s.core := by
  simp [State.masterCsf]

@[simp] theorem State_csfSample_core (s : State) (x : Side) (f : Csf) : (s.csfSample x f).core = s.core := by
  simp [State.csfSample]

@[simp] theorem State_knotCsf_core (s : State) (x : Side) (f : Csf) : (s.knotCsf x f).core = s.core := by
  simp [State.knotCsf]

@[simp] theorem execCsfReceive_core (f : Csf) (s : State) (k) (hk : s.core = k) : Keeps (execCsfReceive f s) k := by
  subst hk
  simp [execCsfReceive]

@[simp] theorem State_sendSlot_core (s : State) (x : Side) (header : Word) (ws : List Word) :
    (s.sendSlot x header ws).core = s.core := by
  simp [State.sendSlot]

@[simp] theorem State_dataSlot_core (s : State) (x : Side) : (s.dataSlot x).core = s.core := by
  simp [State.dataSlot]

@[simp] theorem State_joinSlot_core (s : State) (x : Side) : (s.joinSlot x).core = s.core := by
  simp [State.joinSlot]

@[simp] theorem execSlotSend_core (error : Nat) (s : State) (k) (hk : s.core = k) : Keeps (execSlotSend error s) k := by
  subst hk
  simp [execSlotSend]

@[simp] theorem State_ownSlot_core (s : State) (x : Side) (header : Word) (p : List Word) (check : BitVec 32) :
    (s.ownSlot x header p check).core = s.core := by
  simp [State.ownSlot]

@[simp] theorem State_noteSlot_core (s : State) (x : Side) (header : Word) : (s.noteSlot x header).core = s.core := by
  simp [State.noteSlot]

@[simp] theorem State_relayed_core (s : State) (x : Side) (knot : Nat) (ws : List Word) :
    (s.relayed x knot ws).core = s.core := by
  unfold State.relayed
  split <;> simp

@[simp] theorem State_masterAsk_core (s : State) (x : Side) (w next : Word) : (s.masterAsk x w next).core = s.core := by
  unfold State.masterAsk
  (repeat' split) <;> simp

@[simp] theorem State_slotWords_core (t : List (Nat × Nat × Word)) (x : Side) (knot : Nat) (hand : List Word) (s : State) : (s.slotWords x knot t hand).core = s.core := by
  induction t generalizing s hand with
  | nil => simp [State.slotWords]
  | cons e t ih =>
    obtain ⟨ty, d, w⟩ := e
    unfold State.slotWords
    dsimp only
    split <;> simp only [ih] <;> (repeat' split) <;> simp

@[simp] theorem State_slotSleep_core (s : State) (x : Side) (header : Word) : (s.slotSleep x header).core = s.core := by
  simp [State.slotSleep]

@[simp] theorem State_hearSlot_core (s : State) (x : Side) (header : Word) (p : List Word) (check : BitVec 32) (good : State)
    (hg : good.core = s.core) : (s.hearSlot x header p check good).core = s.core := by
  simp [State.hearSlot, hg]

@[simp] theorem execSlotDataReceive_core (h : SlotHead) (p : List Word) (s : State) (k) (hk : s.core = k) :
    Keeps (execSlotDataReceive h p s) k := by
  subst hk
  simp [execSlotDataReceive]

@[simp] theorem execJoinReceive_core (h : SlotHead) (s : State) (k) (hk : s.core = k) :
    Keeps (execJoinReceive h s) k := by
  subst hk
  simp [execJoinReceive]

@[simp] theorem answerRopeStatus_core (p : List Word) (x : Side) (s : State) : (answerRopeStatus p x s).1.core = s.core := by
  simp [answerRopeStatus]

@[simp] theorem execDormantEntry_core (s : State) (k) (hk : s.core = k) : Keeps (execDormantEntry s) k := by
  subst hk
  simp [execDormantEntry]

@[simp] theorem execWakePin_core (s : State) (k) (hk : s.core = k) : Keeps (execWakePin s) k := by
  subst hk
  simp [execWakePin]

@[simp] theorem execWakeFrameSend_core (s : State) (k) (hk : s.core = k) : Keeps (execWakeFrameSend s) k := by
  subst hk
  simp [execWakeFrameSend]

@[simp] theorem execWakeFrameReceive_core (knot : Nat) (s : State) (k) (hk : s.core = k) :
    Keeps (execWakeFrameReceive knot s) k := by
  subst hk
  simp [execWakeFrameReceive]

@[simp] theorem execWake_core (s : State) (k) (hk : s.core = k) : Keeps (execWake s) k := by
  subst hk
  simp [execWake]

@[simp] theorem execSleepOrphanWake_core (s : State) (k) (hk : s.core = k) : Keeps (execSleepOrphanWake s) k := by
  subst hk
  simp [execSleepOrphanWake]

@[simp] theorem execAngleUpdate_core (s : State) (k) (hk : s.core.1 = k) : Keeps1 (execAngleUpdate s) k := by
  subst hk
  simp [execAngleUpdate]

@[simp] theorem State_effect_core (s : State) (x : Side) (op : Nat) (q : Req) (p : List Word) (last : Nat) :
    (s.effect x op q p last).1.core = s.core := by
  unfold State.effect
  split <;> simp

@[simp] theorem State_refuseMessage_core (s : State) (x : Side) (op : Nat) (q : Req) (p : List Word) (st : Nat) :
    (s.refuseMessage x op q p st).core = s.core := by
  simp [State.refuseMessage]

@[simp] theorem State_carryOut_core (s : State) (x : Side) (op : Nat) (q : Req) (p : List Word) (last : Nat) : (s.carryOut x op q p last).core = s.core := by
  have he := State_effect_core s x op q p last
  unfold State.carryOut
  generalize s.effect x op q p last = r at he ⊢
  obtain ⟨t, _ | ws⟩ := r
  · exact he
  · dsimp only at he ⊢
    split <;> simp [he]

@[simp] theorem State_commitNow_core (s : State) (x : Side) (op : Nat) (q : Req) (p : List Word) :
    (s.commitNow x op q p).core = s.core := by
  simp [State.commitNow]

@[simp] theorem State_commit_core (s : State) (x : Side) (op : Nat) (q : Req) (p : List Word) (k) (hk : s.core = k) :
    Keeps (s.commit x op q p) k := by
  subst hk
  unfold State.commit
  (repeat' split) <;> simp

@[simp] theorem execLoglineCommit_core (s : State) (k) (hk : s.core = k) : Keeps (execLoglineCommit s) k := by
  subst hk
  unfold execLoglineCommit
  dsimp only; (repeat' split) <;> simp

@[simp] theorem State_answer_core (s : State) (x : Side) (op : Nat) (q : Req) (p : List Word) :
    (s.answer x op q p).1.core = s.core := by
  unfold State.answer
  split <;> simp

@[simp] theorem State_admitMessage_core (s : State) (x : Side) (op : Nat) (q : Req) (p : List Word) (k) (hk : s.core = k) :
    Keeps (s.admitMessage x op q p) k := by
  subst hk
  unfold State.admitMessage
  dsimp only; (repeat' split) <;> simp

@[simp] theorem State_serve_core (s : State) (x : Side) (op : Nat) (q : Req) (p : List Word) (k) (hk : s.core = k) :
    Keeps (s.serve x op q p) k := by
  subst hk
  unfold State.serve
  dsimp only; (repeat' split) <;> simp

@[simp] theorem State_relayMessage_core (s : State) (y : Side) (op : Nat) (q : Req) (p : List Word) (k) (hk : s.core = k) :
    Keeps (s.relayMessage y op q p) k := by
  subst hk
  unfold State.relayMessage
  dsimp only; split <;> simp

@[simp] theorem State_hostWake_core (s : State) : (s.hostWake).core = s.core := rfl

@[simp] theorem State_arrive_core (s : State) (y : Side) (op : Nat) (q : Req) (p : List Word) (crcOk reserved : Bool) (k)
    (hk : s.core = k) : Keeps (s.arrive y op q p crcOk reserved) k := by
  subst hk
  have h0 : (if (s.ctrl y).rope.sleepSt = 0 then s else s.hostWake).core = s.core := by split <;> rfl
  unfold State.arrive
  dsimp only
  generalize (if (s.ctrl y).rope.sleepSt = 0 then s else s.hostWake) = s0 at h0 ⊢
  repeat' refine keeps_ite ?_ ?_
  all_goals simp [h0]

@[simp] theorem State_reach_core (s : State) (op : Nat) (q : Req) (p : List Word) (crcOk reserved : Bool) (k) (hk : s.core = k) :
    Keeps (s.reach op q p crcOk reserved) k := by
  subst hk
  unfold State.reach
  dsimp only; (repeat' split) <;> simp

@[simp] theorem State_request_core (s : State) (op : Nat) (q : Req) (p : List Word) (k) (hk : s.core = k) :
    Keeps (s.request op q p) k := by
  subst hk
  simp [State.request]

@[simp] theorem State_receive_core (s : State) (port : Port) (ip udp : Nat) (h : Word) (p : List Word) (k) (hk : s.core = k) :
    Keeps (s.receive port ip udp h p) k := by
  subst hk
  simp [State.receive]

@[simp] theorem execSessionOpen_core (q : Req) (p : List Word) (s : State) (k) (hk : s.core = k) :
    Keeps (execSessionOpen q p s) k := by
  subst hk
  simp [execSessionOpen]

@[simp] theorem execSessionResume_core (q : Req) (p : List Word) (s : State) (k) (hk : s.core = k) :
    Keeps (execSessionResume q p s) k := by
  subst hk
  simp [execSessionResume]

@[simp] theorem execSessionClose_core (q : Req) (p : List Word) (s : State) (k) (hk : s.core = k) :
    Keeps (execSessionClose q p s) k := by
  subst hk
  simp [execSessionClose]

@[simp] theorem execCfgRead_core (q : Req) (p : List Word) (s : State) (k) (hk : s.core = k) :
    Keeps (execCfgRead q p s) k := by
  subst hk
  simp [execCfgRead]

@[simp] theorem execCfgWriteDigitalChannel_core (q : Req) (p : List Word) (s : State) (k) (hk : s.core = k) :
    Keeps (execCfgWriteDigitalChannel q p s) k := by
  subst hk
  simp [execCfgWriteDigitalChannel]

@[simp] theorem execCfgWriteLoopChannel_core (q : Req) (p : List Word) (s : State) (k) (hk : s.core = k) :
    Keeps (execCfgWriteLoopChannel q p s) k := by
  subst hk
  simp [execCfgWriteLoopChannel]

@[simp] theorem execCfgWriteConversion_core (q : Req) (p : List Word) (s : State) (k) (hk : s.core = k) :
    Keeps (execCfgWriteConversion q p s) k := by
  subst hk
  simp [execCfgWriteConversion]

@[simp] theorem execCfgWriteAngleCfg_core (q : Req) (p : List Word) (s : State) (k) (hk : s.core = k) :
    Keeps (execCfgWriteAngleCfg q p s) k := by
  subst hk
  simp [execCfgWriteAngleCfg]

@[simp] theorem execCfgWriteStartMode_core (q : Req) (p : List Word) (s : State) (k) (hk : s.core = k) :
    Keeps (execCfgWriteStartMode q p s) k := by
  subst hk
  simp [execCfgWriteStartMode]

@[simp] theorem execCfgWriteWdogCfg_core (q : Req) (p : List Word) (s : State) (k) (hk : s.core = k) :
    Keeps (execCfgWriteWdogCfg q p s) k := by
  subst hk
  simp [execCfgWriteWdogCfg]

@[simp] theorem execCfgWriteHostWdogCfg_core (q : Req) (p : List Word) (s : State) (k) (hk : s.core = k) :
    Keeps (execCfgWriteHostWdogCfg q p s) k := by
  subst hk
  simp [execCfgWriteHostWdogCfg]

@[simp] theorem execCfgWriteFaultCfg_core (q : Req) (p : List Word) (s : State) (k) (hk : s.core = k) :
    Keeps (execCfgWriteFaultCfg q p s) k := by
  subst hk
  simp [execCfgWriteFaultCfg]

@[simp] theorem execInjectionStart_core (q : Req) (p : List Word) (s : State) (k) (hk : s.core = k) :
    Keeps (execInjectionStart q p s) k := by
  subst hk
  simp [execInjectionStart]

@[simp] theorem execCfgWriteRopeCfg_core (q : Req) (p : List Word) (s : State) (k) (hk : s.core = k) :
    Keeps (execCfgWriteRopeCfg q p s) k := by
  subst hk
  simp [execCfgWriteRopeCfg]

@[simp] theorem execRopeResetRequest_core (q : Req) (p : List Word) (s : State) (k) (hk : s.core = k) :
    Keeps (execRopeResetRequest q p s) k := by
  subst hk
  simp [execRopeResetRequest]

@[simp] theorem execCfgWritePortCfg_core (q : Req) (p : List Word) (s : State) (k) (hk : s.core = k) :
    Keeps (execCfgWritePortCfg q p s) k := by
  subst hk
  simp [execCfgWritePortCfg]

@[simp] theorem execCfgWriteSpiWindow_core (q : Req) (p : List Word) (s : State) (k) (hk : s.core = k) :
    Keeps (execCfgWriteSpiWindow q p s) k := by
  subst hk
  simp [execCfgWriteSpiWindow]

@[simp] theorem execModeRequest_core (q : Req) (p : List Word) (s : State) (k) (hk : s.core = k) :
    Keeps (execModeRequest q p s) k := by
  subst hk
  simp [execModeRequest]

@[simp] theorem execDutyDefine_core (q : Req) (p : List Word) (s : State) (k) (hk : s.core = k) :
    Keeps (execDutyDefine q p s) k := by
  subst hk
  simp [execDutyDefine]

@[simp] theorem execDutyStart_core (q : Req) (p : List Word) (s : State) (k) (hk : s.core = k) :
    Keeps (execDutyStart q p s) k := by
  subst hk
  simp [execDutyStart]

@[simp] theorem execDutyStop_core (q : Req) (p : List Word) (s : State) (k) (hk : s.core = k) :
    Keeps (execDutyStop q p s) k := by
  subst hk
  simp [execDutyStop]

@[simp] theorem execDutyQuery_core (q : Req) (p : List Word) (s : State) (k) (hk : s.core = k) :
    Keeps (execDutyQuery q p s) k := by
  subst hk
  simp [execDutyQuery]

@[simp] theorem execPlacementQuery_core (q : Req) (p : List Word) (s : State) (k) (hk : s.core = k) :
    Keeps (execPlacementQuery q p s) k := by
  subst hk
  simp [execPlacementQuery]

@[simp] theorem execSampleReadLatest_core (q : Req) (p : List Word) (s : State) (k) (hk : s.core = k) :
    Keeps (execSampleReadLatest q p s) k := by
  subst hk
  simp [execSampleReadLatest]

@[simp] theorem execSampleReadConvert_core (q : Req) (p : List Word) (s : State) (k) (hk : s.core = k) :
    Keeps (execSampleReadConvert q p s) k := by
  subst hk
  simp [execSampleReadConvert]

@[simp] theorem execSampleReadUrgent_core (q : Req) (p : List Word) (s : State) (k) (hk : s.core = k) :
    Keeps (execSampleReadUrgent q p s) k := by
  subst hk
  simp [execSampleReadUrgent]

@[simp] theorem execOutputSet_core (q : Req) (p : List Word) (s : State) (k) (hk : s.core = k) :
    Keeps (execOutputSet q p s) k := by
  subst hk
  simp [execOutputSet]

@[simp] theorem execTestDrive_core (q : Req) (p : List Word) (s : State) (k) (hk : s.core = k) :
    Keeps (execTestDrive q p s) k := by
  subst hk
  simp [execTestDrive]

@[simp] theorem execTestDriveEnd_core (q : Req) (p : List Word) (s : State) (k) (hk : s.core = k) :
    Keeps (execTestDriveEnd q p s) k := by
  subst hk
  simp [execTestDriveEnd]

@[simp] theorem execCalStart_core (q : Req) (p : List Word) (s : State) (k) (hk : s.core = k) :
    Keeps (execCalStart q p s) k := by
  subst hk
  simp [execCalStart]

@[simp] theorem execTrimArmIn_core (q : Req) (p : List Word) (s : State) (k) (hk : s.core = k) :
    Keeps (execTrimArmIn q p s) k := by
  subst hk
  simp [execTrimArmIn]

@[simp] theorem execTrimArmOut_core (q : Req) (p : List Word) (s : State) (k) (hk : s.core = k) :
    Keeps (execTrimArmOut q p s) k := by
  subst hk
  simp [execTrimArmOut]

@[simp] theorem execTrimCaptureZero_core (q : Req) (p : List Word) (s : State) (k) (hk : s.core = k) :
    Keeps (execTrimCaptureZero q p s) k := by
  subst hk
  simp [execTrimCaptureZero]

@[simp] theorem execTrimCaptureSpan_core (q : Req) (p : List Word) (s : State) (k) (hk : s.core = k) :
    Keeps (execTrimCaptureSpan q p s) k := by
  subst hk
  simp [execTrimCaptureSpan]

@[simp] theorem execTrimMeasZero_core (q : Req) (p : List Word) (s : State) (k) (hk : s.core = k) :
    Keeps (execTrimMeasZero q p s) k := by
  subst hk
  simp [execTrimMeasZero]

@[simp] theorem execTrimMeasSpan_core (q : Req) (p : List Word) (s : State) (k) (hk : s.core = k) :
    Keeps (execTrimMeasSpan q p s) k := by
  subst hk
  simp [execTrimMeasSpan]

@[simp] theorem execTrimCommit_core (q : Req) (p : List Word) (s : State) (k) (hk : s.core = k) :
    Keeps (execTrimCommit q p s) k := by
  subst hk
  simp [execTrimCommit]

@[simp] theorem execTrimCancel_core (q : Req) (p : List Word) (s : State) (k) (hk : s.core = k) :
    Keeps (execTrimCancel q p s) k := by
  subst hk
  simp [execTrimCancel]

@[simp] theorem execTrimReset_core (q : Req) (p : List Word) (s : State) (k) (hk : s.core = k) :
    Keeps (execTrimReset q p s) k := by
  subst hk
  simp [execTrimReset]

@[simp] theorem execFskSend_core (q : Req) (p : List Word) (s : State) (k) (hk : s.core = k) :
    Keeps (execFskSend q p s) k := by
  subst hk
  simp [execFskSend]

@[simp] theorem execAbort_core (q : Req) (p : List Word) (s : State) (k) (hk : s.core = k) : Keeps (execAbort q p s) k := by
  subst hk
  simp [execAbort]

@[simp] theorem execJournalRead_core (q : Req) (p : List Word) (s : State) (k) (hk : s.core = k) :
    Keeps (execJournalRead q p s) k := by
  subst hk
  simp [execJournalRead]

@[simp] theorem execFaultRead_core (q : Req) (p : List Word) (s : State) (k) (hk : s.core = k) :
    Keeps (execFaultRead q p s) k := by
  subst hk
  simp [execFaultRead]

@[simp] theorem execFaultAck_core (q : Req) (p : List Word) (s : State) (k) (hk : s.core = k) :
    Keeps (execFaultAck q p s) k := by
  subst hk
  simp [execFaultAck]

@[simp] theorem execFaultPinRelease_core (q : Req) (p : List Word) (s : State) (k) (hk : s.core = k) :
    Keeps (execFaultPinRelease q p s) k := by
  subst hk
  simp [execFaultPinRelease]

@[simp] theorem execWdogAnswer_core (q : Req) (p : List Word) (s : State) (k) (hk : s.core = k) :
    Keeps (execWdogAnswer q p s) k := by
  subst hk
  simp [execWdogAnswer]

@[simp] theorem execHostWdogAnswer_core (q : Req) (p : List Word) (s : State) (k) (hk : s.core = k) :
    Keeps (execHostWdogAnswer q p s) k := by
  subst hk
  simp [execHostWdogAnswer]

@[simp] theorem execWdogKey_core (q : Req) (p : List Word) (s : State) (k) (hk : s.core = k) :
    Keeps (execWdogKey q p s) k := by
  subst hk
  simp [execWdogKey]

@[simp] theorem execKeepRead_core (q : Req) (p : List Word) (s : State) (k) (hk : s.core = k) :
    Keeps (execKeepRead q p s) k := by
  subst hk
  simp [execKeepRead]

@[simp] theorem execKeepWrite_core (q : Req) (p : List Word) (s : State) (k) (hk : s.core = k) :
    Keeps (execKeepWrite q p s) k := by
  subst hk
  simp [execKeepWrite]

@[simp] theorem execCrcOpen_core (q : Req) (p : List Word) (s : State) (k) (hk : s.core = k) :
    Keeps (execCrcOpen q p s) k := by
  subst hk
  simp [execCrcOpen]

@[simp] theorem execCrcFeed_core (q : Req) (p : List Word) (s : State) (k) (hk : s.core = k) :
    Keeps (execCrcFeed q p s) k := by
  subst hk
  simp [execCrcFeed]

@[simp] theorem execCrcGet_core (q : Req) (p : List Word) (s : State) (k) (hk : s.core = k) :
    Keeps (execCrcGet q p s) k := by
  subst hk
  simp [execCrcGet]

@[simp] theorem execCrcPut_core (q : Req) (p : List Word) (s : State) (k) (hk : s.core = k) :
    Keeps (execCrcPut q p s) k := by
  subst hk
  simp [execCrcPut]

@[simp] theorem execFwStageBegin_core (q : Req) (p : List Word) (s : State) (k) (hk : s.core = k) :
    Keeps (execFwStageBegin q p s) k := by
  subst hk
  simp [execFwStageBegin]

@[simp] theorem execFwStageData_core (q : Req) (p : List Word) (s : State) (k) (hk : s.core = k) :
    Keeps (execFwStageData q p s) k := by
  subst hk
  simp [execFwStageData]

@[simp] theorem execFwStageEnd_core (q : Req) (p : List Word) (s : State) (k) (hk : s.core = k) :
    Keeps (execFwStageEnd q p s) k := by
  subst hk
  simp [execFwStageEnd]

@[simp] theorem execFwStageDiscard_core (q : Req) (p : List Word) (s : State) (k) (hk : s.core = k) :
    Keeps (execFwStageDiscard q p s) k := by
  subst hk
  simp [execFwStageDiscard]

@[simp] theorem execFwSwap_core (q : Req) (p : List Word) (s : State) (k) (hk : s.core = k) :
    Keeps (execFwSwap q p s) k := by
  subst hk
  simp [execFwSwap]

@[simp] theorem execFwRollback_core (q : Req) (p : List Word) (s : State) (k) (hk : s.core = k) :
    Keeps (execFwRollback q p s) k := by
  subst hk
  simp [execFwRollback]

@[simp] theorem execRopeStatus_core (q : Req) (p : List Word) (s : State) (k) (hk : s.core = k) :
    Keeps (execRopeStatus q p s) k := by
  subst hk
  simp [execRopeStatus]

@[simp] theorem execSnapshot_core (q : Req) (p : List Word) (s : State) (k) (hk : s.core = k) :
    Keeps (execSnapshot q p s) k := by
  subst hk
  simp [execSnapshot]

@[simp] theorem execSleepPropose_core (q : Req) (p : List Word) (s : State) (k) (hk : s.core = k) :
    Keeps (execSleepPropose q p s) k := by
  subst hk
  simp [execSleepPropose]

@[simp] theorem execWdogPoll_core (host : Bool) (q : Req) (p : List Word) (s : State) (k) (hk : s.core = k) :
    Keeps (execWdogPoll host q p s) k := by
  subst hk
  simp [execWdogPoll]

@[simp] theorem execRelayedMessage_core (x : Side) (ip udp : Nat) (header : Word) (p : List Word) (s : State) (k) (hk : s.core = k) :
    Keeps (execRelayedMessage x ip udp header p s) k := by
  subst hk
  unfold execRelayedMessage
  split <;> simp

@[simp] theorem State_frameBoth_core (s : State) (f : Ctrl → Ctrl) : (s.frameBoth f).core = s.core := by
  simp [State.frameBoth]

@[simp] theorem State_takeFrame_core (s : State) (k) (hk : s.core = k) : Keeps s.takeFrame k := by
  subst hk
  unfold State.takeFrame
  dsimp only
  have hc : ∀ f, (s.frameBoth f).core = s.core := fun f => State_frameBoth_core s f
  (repeat' split) <;> simp

@[simp] theorem execFrameHeaderWord_core (w : Word) (s : State) (k) (hk : s.core = k) :
    Keeps (execFrameHeaderWord w s) k := by
  subst hk
  simp [execFrameHeaderWord]

@[simp] theorem execFramePayloadWord_core (w : Word) (s : State) (k) (hk : s.core = k) :
    Keeps (execFramePayloadWord w s) k := by
  subst hk
  simp [execFramePayloadWord]

@[simp] theorem execFrameBadWord_core (s : State) (k) (hk : s.core = k) : Keeps (execFrameBadWord s) k := by
  subst hk
  simp [execFrameBadWord]

@[simp] theorem execFrameMessageGap_core (gap : Nat) (s : State) (k) (hk : s.core = k) :
    Keeps (execFrameMessageGap gap s) k := by
  subst hk
  unfold execFrameMessageGap
  dsimp only; (repeat' split) <;> simp

@[simp] theorem execFrameLaneAlignment_core (lane : Nat) (aligned : Bool) (s : State) (k) (hk : s.core = k) :
    Keeps (execFrameLaneAlignment lane aligned s) k := by
  subst hk
  simp [execFrameLaneAlignment]

@[simp] theorem State_receiveAll_core (ms : List (Word × List Word)) (port : Port) (ip udp : Nat) (s : State) (k) (hk : s.core = k) : Keeps (s.receiveAll port ip udp ms) k := by
  subst hk
  induction ms generalizing s with
  | nil => simp [State.receiveAll]
  | cons m ms ih =>
    obtain ⟨h, p⟩ := m
    have hr := State_receive_core s port ip udp h p _ rfl
    unfold State.receiveAll
    split
    · rename_i t ht
      have := ih t
      rw [hr t ht] at this
      exact this
    · simp
    · simp

@[simp] theorem State_datagram_core (s : State) (x : Side) (ip udp : Nat) (bytes : List Byte) (k) (hk : s.core = k) :
    Keeps (s.datagram x ip udp bytes) k := by
  subst hk
  unfold State.datagram
  (repeat' split) <;> simp

@[simp] theorem execUdpDatagram_core (x : Side) (ip udp : Nat) (bytes : List Byte) (s : State) (k) (hk : s.core = k) :
    Keeps (execUdpDatagram x ip udp bytes s) k := by
  subst hk
  unfold execUdpDatagram
  split <;> simp

@[simp] theorem execIpv4Fragment_core (x : Side) (ip udp ident offset : Nat) (bytes : List Byte) (more : Bool) (s : State) (k) (hk : s.core = k) : Keeps (execIpv4Fragment x ip udp ident offset bytes more s) k := by
  subst hk
  unfold execIpv4Fragment
  dsimp only
  (repeat' split) <;> simp

@[simp] theorem execReassemblyTimeout_core (x : Side) (ident : Nat) (s : State) (k) (hk : s.core = k) :
    Keeps (execReassemblyTimeout x ident s) k := by
  subst hk
  unfold execReassemblyTimeout
  dsimp only; split <;> simp

@[simp] theorem execArpRequest_core (x : Side) (ip sender : Nat) (s : State) (k) (hk : s.core = k) :
    Keeps (execArpRequest x ip sender s) k := by
  subst hk
  simp [execArpRequest]

@[simp] theorem execIcmpEchoRequest_core (x : Side) (ip sender : Nat) (data : List Byte) (s : State) (k) (hk : s.core = k) :
    Keeps (execIcmpEchoRequest x ip sender data s) k := by
  subst hk
  simp [execIcmpEchoRequest]

@[simp] theorem execEthernetLinkChange_core (x : Side) (link : Nat) (s : State) (k) (hk : s.core = k) :
    Keeps (execEthernetLinkChange x link s) k := by
  subst hk
  unfold execEthernetLinkChange
  dsimp only; split <;> simp

@[simp] theorem State_countUsb_core (s : State) (n : Nat) : (s.countUsb n).core = s.core := by
  simp [State.countUsb]

@[simp] theorem State_usbMessage_core (s : State) (bytes : List Byte) (k) (hk : s.core = k) :
    Keeps (s.usbMessage bytes) k := by
  subst hk
  unfold State.usbMessage
  split <;> simp

@[simp] theorem execEp1OutTransfer_core (bytes : List Byte) (s : State) (k) (hk : s.core = k) :
    Keeps (execEp1OutTransfer bytes s) k := by
  subst hk
  unfold execEp1OutTransfer
  split <;> simp

@[simp] theorem execUsbPacketGap_core (s : State) (k) (hk : s.core = k) : Keeps (execUsbPacketGap s) k := by
  subst hk
  simp [execUsbPacketGap]

@[simp] theorem State_onUsb_core (s : State) (f : Side → State) (hf : ∀ x, (f x).core = s.core) (k) (hk : s.core = k) : Keeps (s.onUsb f) k := by
  subst hk
  unfold State.onUsb
  (repeat' split) <;> simp [hf]

@[simp] theorem execIdentity_core (s : State) (k) (hk : s.core = k) : Keeps (execIdentity s) k := by
  subst hk
  unfold execIdentity
  exact State_onUsb_core s _ (fun x => State_emit_core s _) _ rfl

@[simp] theorem execMessage_core (bytes : List Byte) (s : State) (k) (hk : s.core = k) : Keeps (execMessage bytes s) k := by
  subst hk
  unfold execMessage
  (repeat' split) <;> simp

@[simp] theorem execCounters_core (s : State) (k) (hk : s.core = k) : Keeps (execCounters s) k := by
  subst hk
  unfold execCounters
  exact State_onUsb_core s _ (fun x => State_emit_core s _) _ rfl

@[simp] theorem execLocate_core (seconds : Nat) (s : State) (k) (hk : s.core = k) : Keeps (execLocate seconds s) k := by
  subst hk
  simp [execLocate]

@[simp] theorem execLocateExpiry_core (s : State) (k) (hk : s.core = k) : Keeps (execLocateExpiry s) k := by
  subst hk
  unfold execLocateExpiry
  (repeat' split) <;> simp

@[simp] theorem execUsbBusReset_core (s : State) (k) (hk : s.core = k) : Keeps (execUsbBusReset s) k := by
  subst hk
  simp [execUsbBusReset]

@[simp] theorem execUsbSuspend_core (s : State) (k) (hk : s.core = k) : Keeps (execUsbSuspend s) k := by
  subst hk
  simp [execUsbSuspend]

@[simp] theorem execUsbResume_core (s : State) (k) (hk : s.core = k) : Keeps (execUsbResume s) k := by
  subst hk
  simp [execUsbResume]

@[simp] theorem execUsbReattach_core (s : State) (k) (hk : s.core = k) : Keeps (execUsbReattach s) k := by
  subst hk
  unfold execUsbReattach
  (repeat' split) <;> simp

@[simp] theorem execUsbVbusChange_core (present : Bool) (s : State) (k) (hk : s.core.1 = k) :
    Keeps1 (execUsbVbusChange present s) k := by
  subst hk
  unfold execUsbVbusChange
  split <;> simp

@[simp] theorem State_spiShift_core (s : State) (cycles : Nat) (f : BitVec 32) :
    (s.spiShift cycles f).core = s.core := by
  unfold State.spiShift
  split <;> simp

@[simp] theorem State_followClaims_core (s : State) : (s.followClaims).core = s.core := by
  unfold State.followClaims
  split <;> simp

@[simp] theorem State_spiFrame_core (s : State) (cycles : Nat) (f : BitVec 32) :
    (s.spiFrame cycles f).core = s.core := by
  simp [State.spiFrame]

@[simp] theorem execSpiBadFrame_core (s : State) (k) (hk : s.core = k) :
    Keeps (execSpiBadFrame s) k := by
  subst hk
  simp [execSpiBadFrame]

@[simp] theorem execSpiWriteDout_core (value : BitVec 16) (s : State) (k) (hk : s.core = k) :
    Keeps (execSpiWriteDout value s) k := by
  subst hk
  simp [execSpiWriteDout]

@[simp] theorem execSpiWriteConfig_core (addr : Nat) (value : BitVec 16) (s : State) (k) (hk : s.core = k) :
    Keeps (execSpiWriteConfig addr value s) k := by
  subst hk
  simp [execSpiWriteConfig]

@[simp] theorem execSpiWriteOther_core (cycles : Nat) (frame : BitVec 32) (s : State) (k) (hk : s.core = k) :
    Keeps (execSpiWriteOther cycles frame s) k := by
  subst hk
  simp [execSpiWriteOther]

@[simp] theorem execSpiWriteStatus_core (value : BitVec 16) (s : State) (k) (hk : s.core = k) :
    Keeps (execSpiWriteStatus value s) k := by
  subst hk
  simp [execSpiWriteStatus]

@[simp] theorem execSpiWriteClaim_core (reg : Side) (value : BitVec 16) (s : State) (k) (hk : s.core = k) :
    Keeps (execSpiWriteClaim reg value s) k := by
  subst hk
  simp [execSpiWriteClaim]

@[simp] theorem State_spiCarryOut_core (s : State) (x : Side) (r : SpiWrite) (op : Nat) (p : List Word) :
    (s.spiCarryOut x r op p).core = s.core := by
  simp [State.spiCarryOut]

@[simp] theorem State_spiCommitNow_core (s : State) (x : Side) (r : SpiWrite) : (s.spiCommitNow x r).core = s.core := by
  unfold State.spiCommitNow
  split <;> simp

@[simp] theorem execSpiWriteCommit_core (s : State) (k) (hk : s.core = k) : Keeps (execSpiWriteCommit s) k := by
  subst hk
  unfold execSpiWriteCommit
  dsimp only; (repeat' split) <;> simp

theorem execVbatRise_core (s t : State) (h : execVbatRise s = .next t) :
    t.core.1 = s.core.1 ∨ t.core.1 = (s.core.1.1, freshKey) := by
  cases h
  split
  · exact .inl rfl
  · exact .inr rfl

@[simp] theorem execPowerFailWarning_core (s : State) (k) (hk : s.core.1 = k) : Keeps1 (execPowerFailWarning s) k := by
  subst hk
  simp [execPowerFailWarning]

@[simp] theorem execPowerFailClear_core (s : State) (k) (hk : s.core.1 = k) : Keeps1 (execPowerFailClear s) k := by
  subst hk
  simp [execPowerFailClear]

theorem execHoldUpSpent_core (s t : State) (h : execHoldUpSpent s = .next t) :
    t.core.1 = s.core.1 ∨ t.core.1 = (s.core.1.1, freshKey) := by
  cases h
  split
  · exact .inr rfl
  · exact .inl rfl

@[simp] theorem State_dieDone_core (s : State) (d : Die) : (s.dieDone d).core = s.core := rfl

@[simp] theorem State_dieRefuses_core (s : State) (d : Die) : (s.dieRefuses d).core = s.core := rfl

@[simp] theorem State_refuseDebug_core (s : State) (x : Side) (why : Nat) : (s.refuseDebug x why).core = s.core := by
  simp [State.refuseDebug]

@[simp] theorem State_onDie_core (s : State) (d : Die) (f : Side → State) (hf : ∀ x, (f x).core = s.core) : (s.onDie d f).core = s.core := by
  unfold State.onDie
  split
  · rfl
  · split
    · simp
    · exact hf _

@[simp] theorem State_refuseFree_core (s : State) (x : Side) : (s.refuseFree x).core = s.core := by
  simp [State.refuseFree]

@[simp] theorem State_holdOut_core (s : State) (x : Side) : (s.holdOut x).core = s.core := by
  simp [State.holdOut]

@[simp] theorem State_yieldHalt_core (s : State) (x : Side) : (s.yieldHalt x).core = s.core := by
  simp [State.yieldHalt]

@[simp] theorem State_haltInPlace_core (s : State) (x : Side) : (s.haltInPlace x).core = s.core := by
  simp [State.haltInPlace]

@[simp] theorem State_admitHeld_core (ms : List (Nat × Req × List Word)) (x : Side) (s : State) (k) (hk : s.core = k) : Keeps (s.admitHeld x ms) k := by
  subst hk
  induction ms generalizing s with
  | nil => simp [State.admitHeld]
  | cons m ms ih =>
    obtain ⟨op, q, p⟩ := m
    have hr := State_serve_core s x op q p _ rfl
    unfold State.admitHeld
    split
    · rename_i t ht
      have := ih t
      rw [hr t ht] at this
      exact this
    · simp
    · simp

@[simp] theorem State_resumeDebug_core (s : State) (x : Side) (k) (hk : s.core = k) : Keeps (s.resumeDebug x) k := by
  subst hk
  unfold State.resumeDebug
  dsimp only; split <;> simp

@[simp] theorem State_releaseDebug_core (s : State) (x : Side) : (s.releaseDebug x).core = s.core := by
  simp [State.releaseDebug]

@[simp] theorem State_resetDie_core (s : State) (x : Side) : (s.resetDie x).core = s.core := by
  simp [State.resetDie]

@[simp] theorem execHoldOut_core (d : Die) (s : State) (k) (hk : s.core = k) : Keeps (execHoldOut d s) k := by
  subst hk
  simp [execHoldOut]

@[simp] theorem execYieldHalt_core (d : Die) (s : State) (k) (hk : s.core = k) : Keeps (execYieldHalt d s) k := by
  subst hk
  simp [execYieldHalt]

@[simp] theorem execHaltInPlace_core (d : Die) (s : State) (k) (hk : s.core = k) : Keeps (execHaltInPlace d s) k := by
  subst hk
  simp [execHaltInPlace]

@[simp] theorem execReleaseDebug_core (d : Die) (s : State) (k) (hk : s.core = k) : Keeps (execReleaseDebug d s) k := by
  subst hk
  simp [execReleaseDebug]

@[simp] theorem execResetDie_core (d : Die) (s : State) (k) (hk : s.core = k) : Keeps (execResetDie d s) k := by
  subst hk
  simp [execResetDie]

@[simp] theorem execResume_core (d : Die) (s : State) (k) (hk : s.core = k) : Keeps (execResume d s) k := by
  subst hk
  unfold execResume
  (repeat' split) <;> simp

@[simp] theorem execYieldHaltTimeout_core (x : Side) (s : State) (k) (hk : s.core = k) :
    Keeps (execYieldHaltTimeout x s) k := by
  subst hk
  unfold execYieldHaltTimeout
  dsimp only; split <;> simp

@[simp] theorem execFyvailTransactionAbandon_core (s : State) (k) (hk : s.core = k) :
    Keeps (execFyvailTransactionAbandon s) k := by
  subst hk
  simp [execFyvailTransactionAbandon]

@[simp] theorem State_debugMemory_core (s : State) (x : Side) (addr : Nat) (data : BitVec 32) :
    (s.debugMemory x addr data).core = s.core := by
  unfold State.debugMemory
  split <;> simp

@[simp] theorem execFyvailMemoryWrite_core (d : Die) (addr : Nat) (data : BitVec 32) (s : State) (k) (hk : s.core = k) :
    Keeps (execFyvailMemoryWrite d addr data s) k := by
  subst hk
  simp [execFyvailMemoryWrite]

@[simp] theorem State_debugCore_core (s : State) (x : Side) (addr : Nat) (data : BitVec 32) :
    (s.debugCore x addr data).core = s.core := by
  simp [State.debugCore]

@[simp] theorem State_debugEngine_core (s : State) (x : Side) (addr : Nat) (data : BitVec 32) :
    (s.debugEngine x addr data).core = s.core := by
  simp [State.debugEngine]

@[simp] theorem State_debugControl_core (s : State) (x : Side) (addr : Nat) (data : BitVec 32) (k) (hk : s.core = k) :
    Keeps (s.debugControl x addr data) k := by
  subst hk
  unfold State.debugControl
  (repeat' split) <;> simp

@[simp] theorem execFyvailWrite_core (d : Die) (aport addr : Nat) (data : BitVec 32) (s : State) (k) (hk : s.core = k) :
    Keeps (execFyvailWrite d aport addr data s) k := by
  subst hk
  unfold execFyvailWrite
  (repeat' split) <;> simp

@[simp] theorem execCoreStep_core (x : Side) (s : State) (k) (hk : s.core = k) : Keeps (execCoreStep x s) k := by
  subst hk
  unfold execCoreStep
  dsimp only; (repeat' split) <;> simp

@[simp] theorem execCoreBreakpointHit_core (x : Side) (s : State) (k) (hk : s.core = k) :
    Keeps (execCoreBreakpointHit x s) k := by
  subst hk
  unfold execCoreBreakpointHit
  split <;> simp

@[simp] theorem State_capture_core (s : State) (d : Die) : (s.capture d).core = s.core := rfl

@[simp] theorem State_loadScan_core (s : State) (d : Die) (scan : Nat) : (s.loadScan d scan).core.1 = s.core.1 := rfl

@[simp] theorem State_setTest_core (s : State) (d : Die) (code : Nat) : (s.setTest d code).core.1 = s.core.1 := rfl

@[simp] theorem State_boundary_core (s : State) (d : Die) (scan code : Nat) :
    (s.boundary d scan code).core.1 = s.core.1 := by
  simp [State.boundary]

@[simp] theorem execExtest_core (d : Die) (scan : Nat) (s : State) (k) (hk : s.core.1 = k) :
    Keeps1 (execExtest d scan s) k := by
  subst hk
  simp [execExtest]

@[simp] theorem execIntest_core (d : Die) (scan : Nat) (s : State) (k) (hk : s.core.1 = k) :
    Keeps1 (execIntest d scan s) k := by
  subst hk
  simp [execIntest]

@[simp] theorem execIdcode_core (d : Die) (s : State) (k) (hk : s.core.1 = k) : Keeps1 (execIdcode d s) k := by
  subst hk
  simp [execIdcode]

@[simp] theorem execSamplePreload_core (d : Die) (scan : Nat) (s : State) (k) (hk : s.core.1 = k) :
    Keeps1 (execSamplePreload d scan s) k := by
  subst hk
  simp [execSamplePreload]

@[simp] theorem execBypass_core (d : Die) (bit : Bool) (s : State) (k) (hk : s.core.1 = k) :
    Keeps1 (execBypass d bit s) k := by
  subst hk
  simp [execBypass]

end Sys2Proof.Machine
end

