-- ==== Sys2Proof/Laws/Tables.lean ====
section
/-! SUPPORT. The laws of the sparse tables and of the byte memories: what a read gives after a write, and that every write keeps
the canonical form. -/

namespace Sys2Proof.Machine

theorem tget_tput {α : Type} (d : α) (t : Tab α) (i j : Nat) (x : α) :
    tget d (tput t i x) j = if j = i then x else tget d t j := by
  induction t with
  | nil => simp [tput, tget]
  | cons e t ih =>
    obtain ⟨k, v⟩ := e
    unfold tput
    split
    · simp [tget]
    · split
      · rename_i h
        subst h
        simp only [tget]
        split <;> rfl
      · simp only [tget, ih]
        rename_i h1 h2
        by_cases hj : j = k
        · subst hj; simp [show j ≠ i from fun h => h2 h.symm]
        · simp [hj]

theorem tget_tdel {α : Type} (d : α) (t : Tab α) (i j : Nat) : tget d (tdel t i) j = if j = i then d else tget d t j := by
  induction t with
  | nil => simp [tdel, tget]
  | cons e t ih =>
    obtain ⟨k, v⟩ := e
    unfold tdel at ih ⊢
    by_cases hk : k = i
    · subst hk
      simp only [List.filter_cons, bne_self_eq_false, Bool.false_eq_true, if_false, ih, tget]
      by_cases hj : j = k <;> simp [hj]
    · simp only [List.filter_cons, bne_iff_ne, ne_eq, hk, not_false_eq_true, if_true, tget, ih]
      by_cases hj : j = k
      · subst hj; simp [hk]
      · simp [hj]

/-- A read of any key after a write. -/
theorem tget_tset {α : Type} [DecidableEq α] (d : α) (t : Tab α) (i j : Nat) (x : α) : tget d (tset d t i x) j = if j = i then x else tget d t j := by
  unfold tset
  split
  · rename_i h
    simp [tget_tdel, h]
  · exact tget_tput d t i j x

@[simp] theorem tget_tset_self {α : Type} [DecidableEq α] (d : α) (t : Tab α) (i : Nat) (x : α) : tget d (tset d t i x) i = x := by simp [tget_tset]

theorem tget_tset_ne {α : Type} [DecidableEq α] (d : α) (t : Tab α) {i j : Nat} (x : α) (h : j ≠ i) : tget d (tset d t i x) j = tget d t j := by
  simp [tget_tset, h]

variable {α : Type} [DecidableEq α]

theorem tabWf_cons (d : α) (lo : Option Nat) (k : Nat) (v : α) (t : Tab α) :
    tabWf d lo ((k, v) :: t) = true ↔ (∀ b, lo = some b → b < k) ∧ v ≠ d ∧ tabWf d (some k) t = true := by
  cases lo <;> simp [tabWf, and_assoc]

theorem tabWf_weaken (d : α) (t : Tab α) {a b : Option Nat} (h : tabWf d b t = true)
    (hab : ∀ n, (∀ m, b = some m → m < n) → ∀ m, a = some m → m < n) : tabWf d a t = true := by
  cases t with
  | nil => rfl
  | cons e t =>
    obtain ⟨k, v⟩ := e
    rw [tabWf_cons] at h ⊢
    exact ⟨hab k h.1, h.2⟩

theorem tabWf_tdel (d : α) (t : Tab α) (i : Nat) (lo : Option Nat) (h : tabWf d lo t = true) :
    tabWf d lo (tdel t i) = true := by
  induction t generalizing lo with
  | nil => rfl
  | cons e t ih =>
    obtain ⟨k, v⟩ := e
    rw [tabWf_cons] at h
    unfold tdel at ih ⊢
    rw [List.filter_cons]
    split
    · rw [tabWf_cons]
      exact ⟨h.1, h.2.1, ih (some k) h.2.2⟩
    · exact ih lo (tabWf_weaken d t h.2.2 fun n hn m hm => Nat.lt_trans (h.1 m hm) (hn k rfl))

theorem tabWf_tput (d : α) (t : Tab α) (i : Nat) (x : α) (hx : x ≠ d) (lo : Option Nat) (h : tabWf d lo t = true)
    (hi : ∀ b, lo = some b → b < i) : tabWf d lo (tput t i x) = true := by
  induction t generalizing lo with
  | nil => rw [tput, tabWf_cons]; exact ⟨hi, hx, rfl⟩
  | cons e t ih =>
    obtain ⟨k, v⟩ := e
    rw [tabWf_cons] at h
    unfold tput
    split
    · rename_i hk
      rw [tabWf_cons, tabWf_cons]
      exact ⟨hi, hx, fun b hb => by cases hb; exact hk, h.2⟩
    · split
      · rename_i hk
        subst hk
        rw [tabWf_cons]
        exact ⟨hi, hx, h.2.2⟩
      · rename_i h1 h2
        rw [tabWf_cons]
        exact ⟨h.1, h.2.1, ih (some k) h.2.2 fun b hb => by cases hb; omega⟩

/-- A write keeps the canonical form. -/
theorem tabWf_tset (d : α) (t : Tab α) (i : Nat) (x : α) (h : tabWf d none t = true) : tabWf d none (tset d t i x) = true := by
  unfold tset
  split
  · exact tabWf_tdel d t i none h
  · exact tabWf_tput d t i x ‹_› none h nofun

/-- Every store keeps the canonical form of a memory. -/
theorem memStore_wf (d : Byte) (m : Memory) (a : Nat) (bs : List Byte) (h : m.wf d = true) : (memStore d m a bs).wf d = true := by
  induction bs generalizing m a with
  | nil => exact h
  | cons b bs ih => exact ih _ _ (tabWf_tset d m a b h)

/-- What a byte reads as after a store: the stored byte inside the range, and as before outside it. -/
theorem memByte_memStore (d : Byte) (m : Memory) (a : Nat) (bs : List Byte) (n : Nat) :
    memByte d (memStore d m a bs) n = if a ≤ n ∧ n < a + bs.length then bs.getD (n - a) d else memByte d m n := by
  induction bs generalizing m a with
  | nil => simp only [memStore, List.length_nil]; rw [if_neg (by omega)]
  | cons b bs ih =>
    rw [memStore, ih]
    simp only [memByte, tget_tset, List.length_cons]
    by_cases h : n = a
    · subst h; simp
    · by_cases h2 : a + 1 ≤ n ∧ n < a + 1 + bs.length
      · have h3 : n - a = (n - (a + 1)) + 1 := by omega
        rw [if_pos h2, if_pos (by omega), h3, List.getD_cons_succ]
      · rw [if_neg h2, if_neg h, if_neg (by omega)]

/-- Both memories of the two controllers list nothing at reset. -/
theorem reset_memories_wf :
    (State.reset.ctrlA.sram.wf sramEmpty && State.reset.ctrlA.nor.wf norEmpty && State.reset.ctrlB.sram.wf sramEmpty &&
      State.reset.ctrlB.nor.wf norEmpty) = true := rfl

end Sys2Proof.Machine
end

