-- ==== Sys2Proof/Laws/Ops.lean ====
section
/-! SUPPORT. What the shared operations do, once for each: a channel or pod set apart from the others, the steer, an action on every
running controller, the best of the masters heard, the frames of the SPI port, and the correction of time. -/

namespace Sys2Proof.Machine

/-! ## Pods and channels -/

theorem setDig_dig_ne (s : State) {ch k : Nat} (d : DigCh) (h : k ≠ ch) : (s.setDig ch d).dig k = s.dig k := by
  simp only [State.dig, State.setDig]; exact tget_tset_ne _ _ _ h
theorem setPod_pod_ne (s : State) {l k : Nat} (p : Pod) (h : k ≠ l) : (s.setPod l p).pod k = s.pod k := by
  simp only [State.pod, State.setPod]; exact tget_tset_ne _ _ _ h
theorem setLoop_loop_ne (s : State) {ch k : Nat} (d : LoopCh) (h : k ≠ ch) : (s.setLoop ch d).loop k = s.loop k := by
  simp only [State.loop, State.setLoop]; exact tget_tset_ne _ _ _ h

/-- A loop channel put back changes itself and the items of its pod, and nothing else of the module. -/
theorem putLoop_frame (s : State) (ch : Nat) (l : LoopCh) :
    (s.putLoop ch l).ctrlA = s.ctrlA ∧ (s.putLoop ch l).ctrlB = s.ctrlB ∧ (s.putLoop ch l).arb = s.arb ∧
    (s.putLoop ch l).digs = s.digs ∧ (s.putLoop ch l).now = s.now ∧ (s.putLoop ch l).supply = s.supply ∧
    (∀ k, k ≠ ch → (s.putLoop ch l).loop k = s.loop k) ∧ (∀ k, k ≠ linkOf ch → (s.putLoop ch l).pod k = s.pod k) := by
  unfold State.putLoop
  dsimp only
  split
  · exact ⟨rfl, rfl, rfl, rfl, rfl, rfl, fun k hk => setLoop_loop_ne _ _ hk, fun _ _ => rfl⟩
  · exact ⟨rfl, rfl, rfl, rfl, rfl, rfl, fun k hk => setLoop_loop_ne s _ hk, fun k hk => setPod_pod_ne _ _ hk⟩

/-! ## The steer and the running controllers -/

/-- A steer changes nothing of the arbiter but itself. -/
theorem steerTo_arb (s : State) (y : Side) : (s.steerTo y).arb = { s.arb with steer := some y } := by
  unfold State.steerTo
  split
  · rename_i h; rw [← h]
  · dsimp only; split
    · rfl
    · split <;> rfl

/-- The ACTIVE controller runs. -/
theorem active_runs {s : State} {x : Side} (h : s.active = some x) : s.runs x = true := by
  unfold State.active at h
  have k : ∀ c : Ctrl, c.isActive = true → (c.running && !c.inReset) = true := by
    intro c hc; simp only [Ctrl.isActive, Bool.and_eq_true] at hc ⊢; simp_all
  split at h
  · cases h; rename_i g; simp only [Bool.and_eq_true] at g; exact k _ g.2
  · split at h
    · cases h; rename_i g; exact k _ g
    · split at h
      · cases h; rename_i g; exact k _ g
      · cases h

/-- An action on every running controller, seen at one of them. -/
theorem frameBoth_ctrl (s : State) (f : Ctrl → Ctrl) (x : Side) :
    (s.frameBoth f).ctrl x = if s.runs x then f (s.ctrl x) else s.ctrl x := by
  unfold State.frameBoth State.onRunning State.runs
  dsimp only [State.modCtrl, State.setCtrl, State.ctrl]
  by_cases ha : (s.ctrlA.running && !s.ctrlA.inReset) = true <;> by_cases hb : (s.ctrlB.running && !s.ctrlB.inReset) = true <;>
    cases x <;> simp [ha, hb]
theorem frameBoth_active (s : State) (f : Ctrl → Ctrl) (hf : ∀ c, (f c).isActive = c.isActive ∧ (f c).spi = c.spi) :
    (s.frameBoth f).active = s.active := by
  have ha : ∀ x, ((s.frameBoth f).ctrl x).isActive = (s.ctrl x).isActive ∧ ((s.frameBoth f).ctrl x).spi = (s.ctrl x).spi := by
    intro x; rw [frameBoth_ctrl]; split
    · exact hf _
    · exact ⟨rfl, rfl⟩
  have h1 := ha .a; have h2 := ha .b
  simp only [State.ctrl] at h1 h2
  have h3 : (s.frameBoth f).arb = s.arb := by
     unfold State.frameBoth State.onRunning; dsimp only; split <;> split <;> simp
  have h4 : (s.frameBoth f).compat = s.compat := by
     unfold State.frameBoth State.onRunning; dsimp only; split <;> split <;> simp
  have h5 : ∀ z, (s.frameBoth f).claimOf z = s.claimOf z := by
    intro z; cases z <;> simp only [State.claimOf]
    · rw [h1.2]
    · rw [h2.2]
  unfold State.active State.holder
  simp only [h1.1, h2.1, h3, h4, h5]
theorem frameBoth_congr (s : State) (f g : Ctrl → Ctrl) (h : ∀ z, s.runs z = true → f (s.ctrl z) = g (s.ctrl z)) :
    s.frameBoth f = s.frameBoth g := by
  have ha := h .a; have hb := h .b
  unfold State.frameBoth State.onRunning
  simp only [State.runs, Bool.and_eq_true, Bool.not_eq_true'] at ha hb
  dsimp only
  by_cases h1 : (s.ctrl .a).running && !(s.ctrl .a).inReset
  · simp only [h1, if_true]
    have := ha (by simpa using h1)
    simp only [State.modCtrl, State.setCtrl, State.ctrl] at *
    by_cases h2 : s.ctrlB.running && !s.ctrlB.inReset
    · have := hb (by simpa using h2)
      simp [*]
    · simp [*]
  · simp only [h1]
    simp only [State.modCtrl, State.setCtrl, State.ctrl] at *
    by_cases h2 : s.ctrlB.running && !s.ctrlB.inReset
    · have := hb (by simpa using h2)
      simp [*]
    · simp [*]
theorem frameBoth_runs (s : State) (f : Ctrl → Ctrl) (hf : ∀ c, (f c).running = c.running ∧ (f c).inReset = c.inReset) (x : Side) :
    (s.frameBoth f).runs x = s.runs x := by
  unfold State.runs; rw [frameBoth_ctrl]; split <;> simp [hf]

/-- States that agree on both controllers and on the rest are equal. -/
theorem State.eq_of_ctrls (s t : State) (ha : s.ctrl .a = t.ctrl .a) (hb : s.ctrl .b = t.ctrl .b) 
    (hr : { s with ctrlA := t.ctrlA, ctrlB := t.ctrlB } = t) : s = t := by
  cases s; cases t; simp_all [State.ctrl]
theorem frameBoth_rest (s : State) (f : Ctrl → Ctrl) (a b : Ctrl) :
    { s.frameBoth f with ctrlA := a, ctrlB := b } = { s with ctrlA := a, ctrlB := b } := by
  unfold State.frameBoth State.onRunning
  dsimp only [State.modCtrl, State.setCtrl, State.ctrl]
  by_cases ha : (s.ctrlA.running && !s.ctrlA.inReset) = true <;> by_cases hb : (s.ctrlB.running && !s.ctrlB.inReset) = true <;>
    simp [ha, hb]
theorem frameBoth_comp (s : State) (f g : Ctrl → Ctrl) (hf : ∀ c, (f c).running = c.running ∧ (f c).inReset = c.inReset) :
    (s.frameBoth f).frameBoth g = s.frameBoth (fun c => g (f c)) := by
  apply State.eq_of_ctrls
  · simp only [frameBoth_ctrl, frameBoth_runs s f hf]; split <;> rfl
  · simp only [frameBoth_ctrl, frameBoth_runs s f hf]; split <;> rfl
  · simp only [frameBoth_rest]
    have := frameBoth_rest s (fun c => g (f c)) (s.frameBoth (fun c => g (f c))).ctrlA (s.frameBoth (fun c => g (f c))).ctrlB
    rw [← this]

/-! ## The best master (R98) -/

theorem betterMaster_asymm (a b : Master) (h : betterMaster a b = true) : betterMaster b a = false := by
  simp only [betterMaster, Bool.or_eq_true, decide_eq_true_eq, Bool.and_eq_true, beq_iff_eq, Bool.or_eq_false_iff, Bool.and_eq_false_iff, decide_eq_false_iff_not] at *
  rcases h with h | h
  · constructor
    · omega
    · left; simp; omega
  · constructor
    · omega
    · right; omega
theorem betterMaster_trans (a b c : Master) (h : betterMaster a b = false) (h2 : betterMaster b c = false) : betterMaster a c = false := by
  simp only [betterMaster, Bool.or_eq_true, decide_eq_true_eq, Bool.and_eq_true, beq_iff_eq, Bool.or_eq_false_iff, Bool.and_eq_false_iff, decide_eq_false_iff_not] at *
  obtain ⟨h1, h3⟩ := h; obtain ⟨h4, h5⟩ := h2
  constructor
  · omega
  · rcases h3 with h3 | h3 <;> rcases h5 with h5 | h5 <;> simp only [beq_eq_false_iff_ne, ne_eq] at * <;> first | (left; omega) | (right; omega)
/-- The best of the masters heard is one of them, and none of them is better. -/
theorem bestMaster_spec (ms : List Master) :
    (ms = [] → bestMaster ms = none) ∧ (ms ≠ [] → ∃ m ∈ ms, bestMaster ms = some m ∧ ∀ n ∈ ms, betterMaster n m = false) := by
  induction ms with
  | nil => simp [bestMaster]
  | cons m ms ih =>
    refine ⟨by simp, fun _ => ?_⟩
    unfold bestMaster
    by_cases hm : ms = []
    · subst hm
      refine ⟨m, by simp, rfl, ?_⟩
      intro n hn; simp at hn; subst hn; simp [betterMaster]
    · obtain ⟨b, hb, hb2, hb3⟩ := ih.2 hm
      rw [hb2]
      dsimp only
      split
      · rename_i hbm
        refine ⟨b, by simp [hb], rfl, ?_⟩
        intro n hn; simp at hn; rcases hn with rfl | hn
        · exact betterMaster_asymm _ _ hbm
        · exact hb3 n hn
      · rename_i hbm
        refine ⟨m, by simp, rfl, ?_⟩
        intro n hn; simp at hn; rcases hn with rfl | hn
        · simp [betterMaster]
        · exact betterMaster_trans _ _ _ (hb3 n hn) (by simpa using hbm)
theorem disciplined_time (c : Ctrl) :
    c.disciplined.time.masters = c.time.masters ∧ c.disciplined.time.master = c.time.master ∧ c.disciplined.time.utcOffset = c.time.utcOffset := by
  unfold Ctrl.disciplined
  dsimp only
  (repeat' split) <;> exact ⟨rfl, rfl, rfl⟩
theorem selectMaster_time (c : Ctrl) :
    c.selectMaster.time.masters = c.time.masters ∧ c.selectMaster.time.master = (bestMaster c.time.masters).map (·.ident) := by
  unfold Ctrl.selectMaster
  have := disciplined_time
  dsimp only
  refine ⟨?_, ?_⟩ <;> simp only [this] <;> split <;> simp_all
theorem reportUtc_time (s : State) (x : Side) :
    ((s.reportUtc x).ctrl x).time.masters = (s.ctrl x).time.masters ∧ ((s.reportUtc x).ctrl x).time.master = (s.ctrl x).time.master ∧
    (∀ m, ((s.reportUtc x).ctrl x).time.selected = some m → ((s.reportUtc x).ctrl x).time.utcOffset = m.utcOffset) ∧ (s.reportUtc x).ctrl x.other = s.ctrl x.other := by
  unfold State.reportUtc
  dsimp only
  split
  · rename_i h; refine ⟨rfl, rfl, ?_, rfl⟩; intro m hm; rw [h] at hm; cases hm
  · rename_i m h
    split
    · rename_i h2; refine ⟨rfl, rfl, ?_, rfl⟩; intro m' hm; rw [h] at hm; cases hm; exact h2.symm
    · have he : ∀ (d : Ctrl) a b c, (s.eventAll d a b c).time = d.time := by
        intro d a b c; rfl
      have hs : ∀ c, (s.setCtrl x c).ctrl x = c := fun c => by cases x <;> rfl
      have ho : ∀ c, (s.setCtrl x c).ctrl x.other = s.ctrl x.other := fun c => by cases x <;> rfl
      rw [hs, ho]
      split
      · simp only [he]
        refine ⟨trivial, trivial, ?_, trivial⟩; intro m' hm
        have : (s.ctrl x).time.selected = some m' := hm
        rw [h] at this; cases this; rfl
      · refine ⟨rfl, rfl, ?_, rfl⟩; intro m' hm
        have : (s.ctrl x).time.selected = some m' := hm
        rw [h] at this; cases this; rfl
/-- After a change of the masters heard, the best of them is selected, and its UTC offset reported. -/
theorem selected_best (s : State) (x : Side) (f : Ctrl → Ctrl) : 
   let u := (s.modCtrl x fun c => (f c).selectMaster).reportUtc x
   let t := (u.ctrl x).time
   t.masters = (f (s.ctrl x)).time.masters ∧ ((t.masters = [] → t.master = none) ∧
      (t.masters ≠ [] → ∃ m ∈ t.masters, t.master = some m.ident ∧ ∀ n ∈ t.masters, betterMaster n m = false) ∧
      (∀ m, t.selected = some m → t.utcOffset = m.utcOffset)) ∧ u.ctrl x.other = s.ctrl x.other := by
  intro u t
  have hs : ∀ g, (s.modCtrl x g).ctrl x = g (s.ctrl x) := fun c => by cases x <;> rfl
  have ho : ∀ g, (s.modCtrl x g).ctrl x.other = s.ctrl x.other := fun c => by cases x <;> rfl
  obtain ⟨h1, h2, h3, h4⟩ := reportUtc_time (s.modCtrl x fun c => (f c).selectMaster) x
  rw [hs] at h1 h2
  rw [ho] at h4
  have k := selectMaster_time (f (s.ctrl x))
  have b := bestMaster_spec (f (s.ctrl x)).time.masters
  refine ⟨h1.trans k.1, ⟨?_, ?_, h3⟩, h4⟩
  · intro h; show (u.ctrl x).time.master = none
    rw [h2, k.2, b.1]; rfl
    exact (h1.trans k.1).symm.trans h
  · intro h
    have e : t.masters = (f (s.ctrl x)).time.masters := h1.trans k.1
    rw [e] at h ⊢
    obtain ⟨m, a1, a2, a3⟩ := b.2 h
    refine ⟨m, a1, ?_, a3⟩
    show (u.ctrl x).time.master = _
    rw [h2, k.2, a2]; rfl

/-- A correction of time is of one controller. -/
theorem correctTime_other (s : State) (x : Side) (o : Int) :
    (s.correctTime x o).ctrl x.other = s.ctrl x.other := by
  unfold State.correctTime
  have ho : ∀ c, (s.setCtrl x c).ctrl x.other = s.ctrl x.other := fun c => by cases x <;> rfl
  dsimp only
  (repeat' split) <;> exact ho _

/-! ## The frames of the SPI port (R328) -/

theorem crcShiftUp_lt (n r : Nat) (h : r < 256 ∨ 0 < n) : crcShiftUp 8 7 n r < 256 := by
  induction n generalizing r with
  | zero => simpa [crcShiftUp] using h
  | succ n ih =>
    unfold crcShiftUp
    apply ih; left
    split
    · exact Nat.xor_lt_two_pow (n := 8) (by omega) (by omega)
    · omega
theorem crc8_lt (bs : List Nat) : crcOf 0 bs < 256 := by
  unfold crcOf crcResult crcRun
  simp only [Nat.ofNat_pos, if_true]
  have : ∀ r, r < 256 → bs.foldl (crcByte 0) r < 256 := by
    induction bs with
    | nil => intro r h; exact h
    | cons b bs ih => intro r _; exact ih _ (crcShiftUp_lt 8 _ (.inr (by decide)))
  exact this _ (by decide)
/-- A frame of the host reads back as it was formed, and its check is good. -/
theorem mosi_fields (wr : Bool) (addr : Nat) (v : BitVec 16) (h : addr < 128) :
    nbit (mosiFrame wr addr v).toNat 31 = wr ∧ nfld (mosiFrame wr addr v).toNat 30 24 = addr ∧
    BitVec.ofNat 16 (nfld (mosiFrame wr addr v).toNat 23 8) = v ∧ mosiGood 32 (mosiFrame wr addr v) = true := by
  have hv := v.isLt
  have hw : (mkw [(31, 31, b2n wr), (30, 24, addr), (23, 8, v.toNat)]).toNat = b2n wr * 2147483648 + addr * 16777216 + v.toNat * 256 := by
    have hb : b2n wr < 2 := by cases wr <;> decide
    simp only [mkw, List.foldl, BitVec.toNat_ofNat]
    omega
  have hb : b2n wr < 2 := by cases wr <;> decide
  have hc := crc8_lt [fld (mkw [(31, 31, b2n wr), (30, 24, addr), (23, 8, v.toNat)]) 31 24, fld (mkw [(31, 31, b2n wr), (30, 24, addr), (23, 8, v.toNat)]) 23 16, fld (mkw [(31, 31, b2n wr), (30, 24, addr), (23, 8, v.toNat)]) 15 8]
  have e1 : fld (mkw [(31, 31, b2n wr), (30, 24, addr), (23, 8, v.toNat)]) 31 24 = b2n wr * 128 + addr := by simp only [fld, hw]; omega
  have e2 : fld (mkw [(31, 31, b2n wr), (30, 24, addr), (23, 8, v.toNat)]) 23 16 = v.toNat / 256 := by simp only [fld, hw]; omega
  have e3 : fld (mkw [(31, 31, b2n wr), (30, 24, addr), (23, 8, v.toNat)]) 15 8 = v.toNat % 256 := by simp only [fld, hw]; omega
  have e0 : fld (mkw [(31, 31, b2n wr), (30, 24, addr), (23, 8, v.toNat)]) 31 0 = b2n wr * 2147483648 + addr * 16777216 + v.toNat * 256 := by simp only [fld, hw]; omega
  rw [e1, e2, e3] at hc
  have hf : (mosiFrame wr addr v).toNat = b2n wr * 2147483648 + addr * 16777216 + v.toNat * 256 + crcOf 0 [b2n wr * 128 + addr, v.toNat / 256, v.toNat % 256] := by
    simp only [mosiFrame, e0, e1, e2, e3, BitVec.toNat_ofNat]
    omega
  refine ⟨?_, ?_, ?_, ?_⟩
  · rw [hf]
    generalize crcOf 0 [b2n wr * 128 + addr, v.toNat / 256, v.toNat % 256] = C at hc ⊢
    clear hf hw e0 e1 e2 e3
    cases wr <;> simp [nbit, b2n] <;> omega
  · rw [hf]; simp only [nfld]; omega
  · rw [hf]; apply BitVec.eq_of_toNat_eq; simp only [nfld, BitVec.toNat_ofNat]; omega
  · simp only [mosiGood, hf, nfld]
    have f1 : (b2n wr * 2147483648 + addr * 16777216 + v.toNat * 256 + crcOf 0 [b2n wr * 128 + addr, v.toNat / 256, v.toNat % 256]) / 2 ^ 24 % 2 ^ (31 + 1 - 24) = b2n wr * 128 + addr := by omega
    have f2 : (b2n wr * 2147483648 + addr * 16777216 + v.toNat * 256 + crcOf 0 [b2n wr * 128 + addr, v.toNat / 256, v.toNat % 256]) / 2 ^ 16 % 2 ^ (23 + 1 - 16) = v.toNat / 256 := by omega
    have f3 : (b2n wr * 2147483648 + addr * 16777216 + v.toNat * 256 + crcOf 0 [b2n wr * 128 + addr, v.toNat / 256, v.toNat % 256]) / 2 ^ 8 % 2 ^ (15 + 1 - 8) = v.toNat % 256 := by omega
    rw [f1, f2, f3]
    simp; omega

end Sys2Proof.Machine
end

