-- ==== Sys2Proof/Laws/Requests.lean ====
section
/-! SUPPORT. The path of a request from its port to its effect: what an admitted request answers, and which parts of a controller
the path itself leaves alone. -/

namespace Sys2Proof.Machine

/-- A request that enters a controller touches only its flights and its session. -/
theorem Ctrl.enter_frame (c : Ctrl) (op : Nat) (q : Req) (p : List Word) :
    (c.enter op q p).granted = c.granted ∧ (c.enter op q p).epoch = c.epoch ∧ (c.enter op q p).spi = c.spi ∧
    (c.enter op q p).waiting = c.waiting ∧ (c.enter op q p).commitsOp op = c.commitsOp op := by
  unfold Ctrl.enter
  dsimp only
  (repeat' split) <;> exact ⟨rfl, rfl, rfl, rfl, rfl⟩

/-- An admitted request is carried to step 5 of R291 unchanged. -/
theorem request_admits {s : State} {x : Side} {op : Nat} {q : Req} {p : List Word} (h : s.admits x op q p = true) :
    s.request op q p = (s.heard x).admitMessage x op q p := by
  simp only [State.admits, Bool.and_eq_true, bne_iff_ne, ne_eq, Bool.not_eq_true', beq_iff_eq] at h
  obtain ⟨⟨⟨⟨⟨⟨⟨⟨⟨⟨⟨⟨⟨h1, h2⟩, h3⟩, h4⟩, h5⟩, h6⟩, h7⟩, h8⟩, h9⟩, h10⟩, h11⟩, h12⟩, h13⟩, h14⟩ := h
  have hw : ∀ t : State, (t.hostWake.ctrl x).dbg = (t.ctrl x).dbg := fun t => by cases x <;> rfl
  have hd : ((s.heard x).ctrl x).dbg.st ≠ 3 := by
    unfold State.heard
    split
    · exact h13
    · rw [hw]; exact h13
  simp only [State.request, State.reach, h1, h2, h3, h4, h5, h6, Bool.not_false, Bool.and_self, or_self, if_false, if_true,
    State.arrive, h7, h8, h9, h10, h11, Bool.not_true, Bool.false_eq_true]
  show (s.heard x).serve x op q p = _
  simp only [State.serve, h12, hd, if_false, Bool.false_eq_true]

/-- A request that enters a controller leaves its reading of the tether as it was. -/
theorem entered_stale {s : State} {x : Side} {op : Nat} {q : Req} {p : List Word} (h : (s.heard x).stale x = false) :
    (s.entered x op q p).stale x = false := by
  have := h
  have he := fun c : Ctrl => c.enter_frame op q p
  have hc : (s.entered x op q p).compat = (s.heard x).compat := by simp [State.entered]
  have hb : (s.entered x op q p).arb = (s.heard x).arb := by simp [State.entered]
  have hx : (s.entered x op q p).ctrl x = ((s.heard x).ctrl x).enter op q p := by simp [State.entered]
  have hh : (s.entered x op q p).holder = (s.heard x).holder := by
    have hA : (s.entered x op q p).claimOf .a = (s.heard x).claimOf .a := by
      cases x
      · simp only [State.claimOf, show (s.entered .a op q p).ctrlA = (s.heard .a).ctrlA.enter op q p from rfl, (he _).2.2.1]
      · rfl
    have hB : (s.entered x op q p).claimOf .b = (s.heard x).claimOf .b := by
      cases x
      · rfl
      · simp only [State.claimOf, show (s.entered .b op q p).ctrlB = (s.heard .b).ctrlB.enter op q p from rfl, (he _).2.2.1]
    simp only [State.holder, hc, hb, hA, hB]
  simp only [State.stale, hc, hb, hx, hh, (he ((s.heard x).ctrl x)).1, (he ((s.heard x).ctrl x)).2.1] at this ⊢
  exact this

/-- An accepted request: its REQUEST entry, its effect, and its reply. -/
theorem request_accepts {s : State} {x : Side} {op : Nat} {q : Req} {p : List Word} (h : s.accepts x op q p = true) :
    s.request op q p = .next (((s.begun x op q p).carryOut x op q p
      (((s.entered x op q p).ctrl x).session q.session).lastEntry).syncTags x) := by
  simp only [State.accepts, Bool.and_eq_true, beq_iff_eq, Option.isNone_iff_eq_none] at h
  obtain ⟨⟨⟨⟨⟨h1, h2⟩, h3⟩, h4⟩, h5⟩, h6⟩ := h
  have ha := h1
  simp only [State.admits, Bool.and_eq_true, beq_iff_eq, Bool.not_eq_true'] at ha
  have hs : (s.entered x op q p).stale x = false := entered_stale ha.1.1.2
  rw [request_admits h1]
  unfold State.admitMessage
  dsimp only
  rw [ha.2]
  dsimp only
  rw [if_pos h2]
  have hx : ((s.heard x).setCtrl x (((s.heard x).ctrl x).enter op q p)) = s.entered x op q p := rfl
  have he := ((s.heard x).ctrl x).enter_frame op q p
  have hc : (s.entered x op q p).ctrl x = ((s.heard x).ctrl x).enter op q p := by simp [State.entered]
  have hw : ((s.heard x).ctrl x).waiting = ((s.entered x op q p).ctrl x).waiting := by rw [hc, he.2.2.2.1]
  have hk : ((s.heard x).ctrl x).commitsOp op = ((s.entered x op q p).ctrl x).commitsOp op := by rw [hc, he.2.2.2.2]
  rw [hx, hw, hk, h3, h4]
  simp only [Bool.and_self, if_true, State.commit, hs, Bool.false_eq_true, if_false, h5, h6]
  rw [State.commitNow, h5]
  rfl

/-- An admitted request that is not journalled: the answer of its chapter, and its reply. -/
theorem request_answers {s : State} {x : Side} {op : Nat} {q : Req} {p : List Word} (h : s.admits x op q p = true)
    (hj : journalled op p = false) :
    s.request op q p = .next (((s.entered x op q p).answer x op q p).1.replied x q
      ((s.entered x op q p).answer x op q p).2.1 ((s.entered x op q p).answer x op q p).2.2) := by
  have ha := h
  simp only [State.admits, Bool.and_eq_true, beq_iff_eq] at ha
  rw [request_admits h]
  unfold State.admitMessage
  dsimp only
  rw [ha.2]
  dsimp only
  rw [if_neg (by simp [hj])]
  rfl

/-- The answer of a message whose effect forms its reply, or leaves it to a later event. -/
theorem settled_carry (u : State) (x : Side) (op : Nat) (q : Req) (p : List Word) (last : Nat) (r) (hr : u.effect x op q p last = r) (h : endOp op p = false) : (u.carryOut x op q p last).syncTags x = State.settled r x q := by
  unfold State.carryOut
  rw [hr]
  obtain ⟨t, _ | ws⟩ := r
  · rfl
  · dsimp only; rw [h]; rfl

/-- The answer of a message at its End. -/
theorem ended_carry (u : State) (x : Side) (op : Nat) (q : Req) (p : List Word) (last : Nat) (r) (hr : u.effect x op q p last = r) (h : endOp op p = true) : (u.carryOut x op q p last).syncTags x = State.ended r x q := by
  unfold State.carryOut
  rw [hr]
  obtain ⟨t, _ | ws⟩ := r
  · rfl
  · dsimp only; rw [h]; rfl

/-- A whole message that is intact is the request it spells. -/
theorem receive_completes {s : State} {x : Side} {port ip udp h p} (hi : intact port h p = true)
   (hc : s.completes x (fld h 119 112) (headerReq port ip udp h) p = true) :
   s.receive port ip udp h p = .next (s.completed x (fld h 119 112) (headerReq port ip udp h) p) := by
  simp only [intact, Bool.and_eq_true, Bool.not_eq_true'] at hi
  obtain ⟨⟨h1, h2⟩, h3⟩ := hi
  have hr : s.receive port ip udp h p = s.request (fld h 119 112) (headerReq port ip udp h) p := by
    simp only [State.receive, State.request, h2, h3, Bool.false_or]
  rw [hr]
  unfold State.completes at hc
  unfold State.completed
  split at hc
  · rename_i hj; rw [if_pos hj]; exact request_accepts hc
  · rename_i hj; rw [if_neg hj]; exact request_answers hc (by simpa using hj)

end Sys2Proof.Machine
end

