-- ==== Sys2Proof/WellFormed.lean ====
section
/-! DEFINITION. Well-formed commands: every number lies in the range its field of the table has, and a request that
one row of the table takes from several of one opcode carries the item or action that row names. The step runs any
command; a well-formed one is one that the block's environment can send. -/

namespace Sys2Proof

open Sys2Proof.Machine

/-- The header fields are in the ranges of R283 and the payload has at most the 255 words its length field can say. -/
def Req.wf (q : Req) (p : List Word) : Bool :=
  decide (q.ip < 4294967296) && decide (q.udp < 65536) && decide (q.session < 256) && decide (q.seq < 65536) &&
    decide (q.tag < 4096) && decide (q.crc < 4294967296) && decide (p.length ≤ 255)

/-- The header fields of a downlink frame are in their ranges (R260, R266). -/
def DownHdr.wf (h : DownHdr) : Bool :=
  decide (h.seq < 4096) && decide (h.mode < 8) && decide (h.ftime < 16777216)

/-- The link and the sequence number of an uplink frame are in their ranges (R260, R263). -/
def UpFrame.wf (f : UpFrame) : Bool := decide (f.link < 96) && decide (f.seq < 4096)

/-- A host watchdog is that of one of the 256 sessions (R283). -/
def Dog.wf : Dog → Bool
  | .supervisor _ => true
  | .host session => decide (session < 256)

/-- A duty's item is that of one of the 4,096 duties (R104). -/
def MirrorItem.wf : MirrorItem → Bool
  | .dutyTable duty => decide (duty < 4096)
  | .stageState duty => decide (duty < 4096)
  | .image => true
  | .sessions => true
  | .tags => true
  | .logline => true
  | .keepQueue => true
  | .tracker => true
  | .episode => true

/-- A command whose operands are in the ranges the table's rows give them. -/
def Instr.wf (i : Instr) : Bool :=
  match i with
  | .sessionOpen q p => q.wf p
  | .sessionResume q p => q.wf p
  | .sessionClose q p => q.wf p
  | .cfgRead q p => q.wf p
  | .cfgWriteDigitalChannel q p => q.wf p && cfItem p == 1
  | .cfgWriteLoopChannel q p => q.wf p && cfItem p == 2
  | .cfgWriteConversion q p => q.wf p && cfItem p == 3
  | .cfgWriteAngleCfg q p => q.wf p && cfItem p == 0x10
  | .cfgWriteStartMode q p => q.wf p && cfItem p == 0x20
  | .cfgWriteWdogCfg q p => q.wf p && cfItem p == 0x21
  | .cfgWriteHostWdogCfg q p => q.wf p && cfItem p == 0x22
  | .cfgWriteFaultCfg q p => q.wf p && cfItem p == 0x23 && injChecker (wordAt p 1) == 0
  | .injectionStart q p => q.wf p && cfItem p == 0x23 && injChecker (wordAt p 1) != 0
  | .cfgWriteRopeCfg q p => q.wf p && cfItem p == 0x24 && !bitOf (wordAt p 1) 126
  | .ropeResetRequest q p => q.wf p && cfItem p == 0x24 && bitOf (wordAt p 1) 126
  | .cfgWritePortCfg q p => q.wf p && cfItem p == 0x25
  | .cfgWriteSpiWindow q p => q.wf p && cfItem p == 0x26
  | .modeRequest q p => q.wf p
  | .dutyDefine q p => q.wf p
  | .dutyStart q p => q.wf p
  | .dutyStop q p => q.wf p
  | .dutyQuery q p => q.wf p
  | .placementQuery q p => q.wf p
  | .sampleReadLatest q p => q.wf p && srOpt (wordAt p 0) == 0
  | .sampleReadConvert q p => q.wf p && srOpt (wordAt p 0) == 1
  | .sampleReadUrgent q p => q.wf p && srOpt (wordAt p 0) == 2
  | .outputSet q p => q.wf p
  | .testDrive q p => q.wf p && tdAct (wordAt p 0) != 15
  | .testDriveEnd q p => q.wf p && tdAct (wordAt p 0) == 15
  | .testDriveExpiry ch => decide (ch < 0x480)
  | .calStart q p => q.wf p
  | .trimArmIn q p => q.wf p && taAction (wordAt p 0) == 0
  | .trimArmOut q p => q.wf p && taAction (wordAt p 0) == 1
  | .trimCaptureZero q p => q.wf p && taAction (wordAt p 0) == 2
  | .trimCaptureSpan q p => q.wf p && taAction (wordAt p 0) == 3
  | .trimMeasZero q p => q.wf p && taAction (wordAt p 0) == 4
  | .trimMeasSpan q p => q.wf p && taAction (wordAt p 0) == 5
  | .trimCommit q p => q.wf p && taAction (wordAt p 0) == 6
  | .trimCancel q p => q.wf p && taAction (wordAt p 0) == 7
  | .trimReset q p => q.wf p && taAction (wordAt p 0) == 8
  | .trimCaptureEnd _ _ _ => true
  | .trimWindowExpiry => true
  | .zeroPress => true
  | .spanPress => true
  | .trimButtonsHeld => true
  | .fskSend q p => q.wf p
  | .fskTransmitStart ch => isLoop ch
  | .fskReplyTimeout ch => isLoop ch
  | .fskFrameReceived ch _ _ _ => isLoop ch
  | .fskCharacter ch bytes _ _ _ => isLoop ch && decide (1 ≤ bytes.length) && decide (bytes.length ≤ 3)
  | .abort q p => q.wf p
  | .journalRead q p => q.wf p
  | .faultRead q p => q.wf p
  | .faultAck q p => q.wf p
  | .faultPinRelease q p => q.wf p
  | .wdogAnswer q p => q.wf p
  | .wdogPoll _ q p => q.wf p
  | .hostWdogAnswer q p => q.wf p
  | .wdogKey q p => q.wf p
  | .wdogKeyArmExpiry => true
  | .keepRead q p => q.wf p
  | .keepWrite q p => q.wf p
  | .keepGroupEnd _ => true
  | .crcOpen q p => q.wf p
  | .crcFeed q p => q.wf p
  | .crcGet q p => q.wf p
  | .crcPut q p => q.wf p
  | .fwStageBegin q p => q.wf p && fsOp (wordAt p 0) == 0
  | .fwStageData q p => q.wf p && fsOp (wordAt p 0) == 1
  | .fwStageEnd q p => q.wf p && fsOp (wordAt p 0) == 2
  | .fwStageDiscard q p => q.wf p && fsOp (wordAt p 0) == 3
  | .sectorEraseDone _ => true
  | .fwSwap q p => q.wf p
  | .fwRollback q p => q.wf p
  | .settingsMigrationEnd _ converted => converted.all (fun e => decide (e.1 < 0x800))
  | .handover => true
  | .tailDrop _ reason => decide (1 ≤ reason) && decide (reason ≤ 6)
  | .tadpoleTimeout _ => true
  | .claimTimeout => true
  | .soakEnd => true
  | .ropeStatus q p => q.wf p
  | .snapshot q p => q.wf p
  | .snapshotTimeout => true
  | .sleepPropose q p => q.wf p
  | .frameHeaderWord _ => true
  | .framePayloadWord _ => true
  | .angleWord _ _ => true
  | .frameBadWord => true
  | .frameMessageGap _ => true
  | .frameLaneAlignment lane _ => decide (lane < 2)
  | .udpDatagram _ ip udp _ => decide (ip < 4294967296) && decide (udp < 65536)
  | .ipv4Fragment _ ip udp ident offset _ _ =>
    decide (ip < 4294967296) && decide (udp < 65536) && decide (ident < 65536) && offset % 8 == 0
  | .reassemblyTimeout _ ident => decide (ident < 65536)
  | .arpRequest _ ip sender => decide (ip < 4294967296) && decide (sender < 4294967296)
  | .icmpEchoRequest _ ip sender _ => decide (ip < 4294967296) && decide (sender < 4294967296)
  | .relayedMessage _ ip udp _ p => decide (ip < 4294967296) && decide (udp < 65536) && decide (p.length ≤ 255)
  | .ep1OutTransfer _ => true
  | .usbPacketGap => true
  | .identity => true
  | .message bytes => decide (16 ≤ bytes.length) && decide (bytes.length ≤ 4096)
  | .counters => true
  | .locate seconds => decide (seconds < 65536)
  | .locateExpiry => true
  | .usbBusReset => true
  | .usbSuspend => true
  | .usbReattach => true
  | .spiBadFrame => true
  | .spiWriteDout _ => true
  | .spiWriteConfig addr _ => spiConfigAddr addr
  | .spiWriteStatus _ => true
  | .spiWriteClaim _ _ => true
  | .spiWriteOther cycles frame =>
    let addr := nfld frame.toNat 30 24
    mosiGood cycles frame && !(nbit frame.toNat 31 && ([0x01, 0x03, 0x20, 0x21].contains addr || spiConfigAddr addr))
  | .spiWriteCommit => true
  | .compatSpliceTakeover _ => true
  | .loglineCommit => true
  | .loglineFailure _ _ => true
  | .replySend session => decide (session < 256)
  | .eventSend session => decide (session < 256)
  | .angleUpdate => true
  | .as0ZeroCrossing _ => true
  | .carrierSyncEdge _ _ => true
  | .sourceLoss src => decide (src < 3)
  | .acquireLock src _ => decide (src < 3)
  | .relockComplete src => decide (src < 3)
  | .flywheelLimit src => decide (src < 3)
  | .inputValidAgain src _ => decide (src < 3)
  | .ptpAnnounce _ domain _ _ => decide (domain < 256)
  | .ptpAnnounceTimeout _ => true
  | .ptpSync _ domain _ => decide (domain < 256)
  | .ptpDelayReqSend _ => true
  | .ptpDelayResp _ _ _ => true
  | .executionDispatch engine => decide (engine < 192)
  | .leapfrogExamine engine => decide (engine < 192)
  | .acquire engine => decide (engine < 192)
  | .filter engine => decide (engine < 192)
  | .compare engine => decide (engine < 192)
  | .count engine => decide (engine < 192)
  | .logic engine => decide (engine < 192)
  | .sequence engine => decide (engine < 192)
  | .drive engine => decide (engine < 192)
  | .forceSafe engine => decide (engine < 192)
  | .publish engine => decide (engine < 192)
  | .checkValue engine => decide (engine < 192)
  | .relay engine => decide (engine < 192)
  | .rebalance => true
  | .migrationSwitch duty => decide (duty < 4096)
  | .shadowPlacement _ => true
  | .slowWindow engine _ _ _ _ => decide (engine < 192)
  | .calibrateEnd => true
  | .downlinkFrame _ link => decide (link < 96)
  | .podOutputFrame link h _ => decide (link < 96) && h.wf
  | .podConfigFrame link h sub _ => decide (link < 96) && h.wf && decide (sub < 16)
  | .podRequestUrgent link h _ => decide (link < 96) && h.wf
  | .podRequestTrigger link h _ => decide (link < 96) && h.wf
  | .podRequestSelfCal link h _ => decide (link < 96) && h.wf
  | .podTimeFrame link h _ => decide (link < 96) && h.wf
  | .podFskFrame link h _ => decide (link < 96) && h.wf
  | .podIdleFrame link h => decide (link < 96) && h.wf
  | .podBadFrame link _ => decide (link < 96)
  | .uplinkFrame _ f => f.wf
  | .uplinkBadFrame _ link => decide (link < 96)
  | .podUplinkSend link => decide (link < 96)
  | .autonomousHoldStart link => decide (link < 96)
  | .leaseLapse link => decide (link < 96)
  | .holdExpiry ch => decide (ch < 0x480)
  | .podTetherAcceptAny link => decide (link < 96)
  | .referenceFallback link => decide (link < 96)
  | .podPowerUp bay => decide (bay < 32)
  | .podPowerDown bay => decide (bay < 32)
  | .debounceChange ch => isDigital ch
  | .edgeCapture ch _ _ => isDigital ch
  | .openVerdict ch _ => isDigital ch
  | .overloadTrip ch => isDigital ch
  | .shortTrip ch => isDigital ch
  | .overtempTrip ch _ => isDigital ch
  | .podIlimTrip pod largest => decide (pod < 64) && largest.all (fun k => decide (k < 16))
  | .protectionRetry ch => isDigital ch
  | .protectionClear ch => isDigital ch
  | .mismatchVerdict ch _ => isDigital ch
  | .offStateShortVerdict ch _ => isDigital ch
  | .levelChangeDeferred ch => isDigital ch
  | .conversionResult ch _ => isLoop ch
  | .readbackResult ch _ => isLoop ch
  | .triggeredConversionEnd ch _ => isLoop ch
  | .urgentConversionEnd ch _ => isLoop ch
  | .modulatorPowerDown ch => isLoop ch
  | .modulatorStartUpEnd ch => isLoop ch
  | .loopBreakTrip ch _ => isLoop ch
  | .loopBreakConfirm ch => isLoop ch
  | .loopBreakRelease ch _ => isLoop ch
  | .selfCalPhaseEnd pod => decide (pod < 32)
  | .selfCalEnd pod temp priOff rbOff priGain rbGain diff current refDev =>
    decide (pod < 32) && temp.length == 4 && priOff.length == 4 && rbOff.length == 4 && priGain.length == 4 &&
      rbGain.length == 4 && diff.length == 4 && current.length == 4 && refDev.length == 4
  | .diagInputMeasurement pod _ => decide (pod < 32)
  | .loopOvertemp ch _ => isLoop ch
  | .verifyOpenLoop ch => isLoop ch
  | .verifyCompliance ch => isLoop ch
  | .verifyClear ch bit => isLoop ch && decide (bit < 8)
  | .supplyVerdict ch _ => isLoop ch
  | .almChange pod level => decide (pod < 32) && decide (level < 4)
  | .heartbeatSend _ => true
  | .heartbeatReceive _ _ => true
  | .controllerFailed _ => true
  | .tetherGrant => true
  | .tetherRenewal => true
  | .arbiterLeaseEnd => true
  | .arbiterResetPulse _ => true
  | .arbiterStart => true
  | .arbiterRenewWatch _ => true
  | .takeover _ => true
  | .mirrorUpdate item => item.wf
  | .spliceWordBad _ => true
  | .spliceLost _ => true
  | .spliceRestored _ => true
  | .bulkCopyComplete _ => true
  | .controllerBoot _ _ _ _ => true
  | .wdogWindowClose d => d.wf
  | .wdogCoreAnswer _ _ => true
  | .wdogClockTrip _ => true
  | .suspensionTimeout _ => true
  | .watchdogReset _ => true
  | .faultRaise _ source _ => decide (source ≤ 14)
  | .reactionTimerExpiry => true
  | .faultPinMinHold => true
  | .partnerFaultReset _ => true
  | .conditionReraise _ source => decide (12 ≤ source) && decide (source ≤ 14)
  | .vbatRise => true
  | .powerFailWarning => true
  | .powerFailClear => true
  | .holdUpSpent => true
  | .dutyStoreWriteDone _ duty => decide (duty < 4096)
  | .csfLaunch => true
  | .csfReceive f => decide (f.body.length = 8)
  | .ropeCmdSnapshot _ _ => true
  | .ropeCmdSleepPropose _ => true
  | .ropeCmdSleepCommit _ => true
  | .ropeCmdSleepAbort _ => true
  | .ropeCmdRopeReset _ => true
  | .ropeCmdSnapshotRefused _ => true
  | .slotSend _ => true
  | .slotDataReceive _ p => decide (p.length ≤ 9)
  | .joinReceive _ => true
  | .ropeAngleLoss => true
  | .masterTimeout => true
  | .noCsfTimeout => true
  | .bypassChange => true
  | .dormantEntry => true
  | .wakePin => true
  | .wakeFrameSend => true
  | .wakeFrameReceive knot => decide (knot < 16)
  | .wake => true
  | .sleepOrphanWake => true
  | .fyvailTransactionAbandon => true
  | .holdOut _ => true
  | .yieldHalt _ => true
  | .yieldHaltTimeout _ => true
  | .haltInPlace _ => true
  | .resume _ => true
  | .releaseDebug _ => true
  | .resetDie _ => true
  | .fyvailMemoryWrite _ _ _ => true
  | .fyvailWrite _ _ _ _ => true
  | .coreStep _ => true
  | .coreBreakpointHit _ => true
  | .engineBreakpointHit engine => decide (engine < 192)
  | .engineStep engine => decide (engine < 192)
  | .extest _ _ => true
  | .intest _ _ => true
  | .idcode _ => true
  | .samplePreload _ _ => true
  | .bypass _ _ => true
  | .acquireInputInvalid src => decide (src < 3)
  | .fskTransmitEnd ch => isLoop ch
  | .loopOvertempFlagClear ch => isLoop ch
  | .loopOverloadVerdict ch _ => isLoop ch
  | .calTempDeparture ch _ => isLoop ch
  | .ethernetLinkChange _ link => decide (link < 3)
  | .usbVbusChange _ => true
  | .usbResume => true

end Sys2Proof
end

