-- ==== Sys2Proof/Tests/Slice0.lean ====
section
/-! SUPPORT. Tests: an ill-formed command for each check of `Instr.wf`, and for every statement a state and operands that meet its
hypotheses, clause by clause. -/

namespace Sys2Proof.Tests

open Sys2Proof Sys2Proof.Machine

-- One theorem at a time: each is a kernel evaluation, and many at once need many threads.
set_option Elab.async false

/-! ## Small states -/

/-- The settings of four channels: digital 0 in OUT_PP, loop 0x400 a TRIG input of group 0 with FSK, 0x401 and 0x402 outputs. -/
def tKeep : Ctrl :=
  ((((Ctrl.reset.putKeep 0x101 (mkw [(115, 113, 3)])).putKeep 0x501 (mkw [(115, 114, 1), (111, 110, 1)])).putKeep 0x502
    (mkw [(115, 114, 2)])).putKeep 0x503 (mkw [(115, 114, 2)])).putKeep 0x581 (mkw [(115, 114, 2), (102, 102, 1), (82, 67, 1)])

/-- Controller A in COMMISSION with the tether of epoch 5 and session 1 open over USB. -/
def tActive : Ctrl :=
  { tKeep with
    inReset := false, running := true, role := .active, imageOk := true, mirrorOk := true, mode := .commission, granted := true
    epoch := 5, lastEpoch := 5
    sessions := [(1, { isOpen := true, hostId := 7, key := 9, port := .usb, credits := 8, free := 8, depth := 16, evPort := .usb })] }

/-- Controller B stands by. -/
def tStandby : Ctrl :=
  { Ctrl.reset with
    inReset := false, running := true, role := .standby, imageOk := true, mirrorOk := true, mode := .commission, lastEpoch := 5 }

/-- The module with that pair, an hour after its start. -/
def tState : State :=
  { State.reset with
    now := 3600000000000, startHold := false, firstGrant := true, ctrlA := tActive, ctrlB := tStandby
    arb := { st := .held .a, kind := 1, side := .a, epoch := 5, renewAt := 3600000000000, steer := some .a, first := false }
    vbus := true, attached := true, usbLink := 1 }

/-- `tState` with another controller A. -/
def tWith (c : Ctrl) : State := { tState with ctrlA := c }

/-- A request of session 1 over USB. -/
def tReq : Req := { port := .usb, ip := 0, udp := 0, session := 1, seq := 1, tag := 1, crc := 0 }

/-! ## Well-formedness: ill-formed commands -/

/-- Header fields of a request out of range, and a payload beyond 255 words (R283). -/
theorem test_wf_refuses_headers :
    ([.cfgRead { tReq with ip := 4294967296 } [], .cfgRead { tReq with udp := 65536 } [], .cfgRead { tReq with session := 256 } [],
      .cfgRead { tReq with seq := 65536 } [], .cfgRead { tReq with tag := 4096 } [], .cfgRead { tReq with crc := 4294967296 } [],
      .cfgRead tReq (List.replicate 256 0)] : List Instr).all (fun i => !i.wf) = true := by decide +kernel

/-- Requests whose item or action is not the one of their row. -/
theorem test_wf_refuses_other_rows :
    ([.cfgWriteDigitalChannel tReq [mkw [(127, 120, 2)]], .cfgWriteLoopChannel tReq [mkw [(127, 120, 1)]],
      .cfgWriteConversion tReq [mkw [(127, 120, 2)]], .cfgWriteAngleCfg tReq [mkw [(127, 120, 0x11)]],
      .cfgWriteStartMode tReq [mkw [(127, 120, 0x21)]], .cfgWriteWdogCfg tReq [mkw [(127, 120, 0x22)]],
      .cfgWriteHostWdogCfg tReq [mkw [(127, 120, 0x21)]], .cfgWriteFaultCfg tReq [mkw [(127, 120, 0x24)]],
      .cfgWriteFaultCfg tReq [mkw [(127, 120, 0x23)], mkw [(111, 109, 1)]], .injectionStart tReq [mkw [(127, 120, 0x23)], 0],
      .cfgWriteRopeCfg tReq [mkw [(127, 120, 0x24)], mkw [(126, 126, 1)]], .ropeResetRequest tReq [mkw [(127, 120, 0x24)], 0],
      .cfgWritePortCfg tReq [mkw [(127, 120, 0x26)]], .cfgWriteSpiWindow tReq [mkw [(127, 120, 0x25)]],
      .sampleReadLatest tReq [mkw [(127, 126, 1)]], .sampleReadConvert tReq [mkw [(127, 126, 2)]],
      .sampleReadUrgent tReq [mkw [(127, 126, 0)]], .testDrive tReq [mkw [(115, 112, 15)]], .testDriveEnd tReq [mkw [(115, 112, 1)]],
      .trimArmIn tReq [mkw [(115, 112, 1)]], .trimArmOut tReq [mkw [(115, 112, 0)]], .trimCaptureZero tReq [mkw [(115, 112, 3)]],
      .trimCaptureSpan tReq [mkw [(115, 112, 2)]], .trimMeasZero tReq [mkw [(115, 112, 5)]], .trimMeasSpan tReq [mkw [(115, 112, 4)]],
      .trimCommit tReq [mkw [(115, 112, 7)]], .trimCancel tReq [mkw [(115, 112, 6)]], .trimReset tReq [mkw [(115, 112, 9)]],
      .fwStageBegin tReq [mkw [(127, 124, 1)]], .fwStageData tReq [mkw [(127, 124, 0)]], .fwStageEnd tReq [mkw [(127, 124, 3)]],
      .fwStageDiscard tReq [mkw [(127, 124, 2)]]] : List Instr).all (fun i => !i.wf) = true := by decide +kernel

/-- Numbers out of the range of their field: a channel, a pod, a bay, a link, an engine, a source and the others. -/
theorem test_wf_refuses_numbers :
    ([.testDriveExpiry 0x480, .debounceChange 0x400, .fskTransmitStart 0x3FF, .loopOvertemp 0x480 true, .fskCharacter 0x400 [] true true true,
      .fskCharacter 0x400 [0, 0, 0, 0] true true true, .settingsMigrationEnd .a [(0x800, 0)], .tailDrop .a 0, .tailDrop .a 7,
      .frameLaneAlignment 2 true, .udpDatagram .a 4294967296 0 [], .udpDatagram .a 0 65536 [], .ipv4Fragment .a 0 0 65536 0 [] true,
      .ipv4Fragment .a 0 0 0 4 [] true, .reassemblyTimeout .a 65536, .arpRequest .a 4294967296 0, .arpRequest .a 0 4294967296,
      .icmpEchoRequest .a 4294967296 0 [], .relayedMessage .a 0 65536 0 [], .message [], .locate 65536, .spiWriteConfig 0x0B 0,
      .spiWriteOther 32 (mosiFrame true 0x03 0), .spiWriteOther 32 (mosiFrame true 0x10 0), .spiWriteOther 31 0, .replySend 256, .eventSend 256, .sourceLoss 3,
      .acquireLock 3 0, .ptpAnnounce .a 256 ⟨0, 0, 0⟩ 0, .ptpSync .a 256 ⟨0, 0, 0⟩, .executionDispatch 192, .slowWindow 192 0 0 false false, .migrationSwitch 4096,
      .downlinkFrame .a 96, .podOutputFrame 0 { side := .a, seq := 4096, mode := 0, ftime := 0, tether := 0 } 0,
      .podIdleFrame 0 { side := .a, seq := 0, mode := 8, ftime := 0, tether := 0 },
      .podTimeFrame 0 { side := .a, seq := 0, mode := 0, ftime := 16777216, tether := 0 } 0,
      .podConfigFrame 0 { side := .a, seq := 0, mode := 0, ftime := 0, tether := 0 } 16 0,
      .uplinkFrame .a { link := 96, seq := 0, hdr := 0, pstat := 0, payload := 0 },
      .uplinkFrame .a { link := 0, seq := 4096, hdr := 0, pstat := 0, payload := 0 }, .podPowerUp 32, .podIlimTrip 64 [], .podIlimTrip 0 [16],
      .selfCalPhaseEnd 32, .selfCalEnd 0 [] [] [] [] [] [] [] [], .verifyClear 0x400 8, .almChange 0 4, .almChange 32 0,
      .mirrorUpdate (.dutyTable 4096), .mirrorUpdate (.stageState 4096), .wdogWindowClose (.host 256), .faultRaise .a 15 false,
      .conditionReraise .a 11, .conditionReraise .a 15, .dutyStoreWriteDone .a 4096, .wakeFrameReceive 16, .engineStep 192,
      .ethernetLinkChange .a 3, .slotDataReceive ⟨0, 0⟩ (List.replicate 10 0)] : List Instr).all (fun i => !i.wf) = true := by decide +kernel

/-- Well-formed commands at the bounds of their ranges. -/
theorem test_wf_admits :
    ([.cfgRead { tReq with ip := 4294967295, udp := 65535, session := 255, seq := 65535, tag := 4095, crc := 4294967295 }
        (List.replicate 255 0), .injectionStart tReq [mkw [(127, 120, 0x23)], mkw [(111, 109, 5)]], .testDriveExpiry 0x47F,
      .debounceChange 0x3FF, .slotDataReceive ⟨0, 0⟩ (List.replicate 9 0), .fskTransmitStart 0x400, .loopOvertemp 0x47F true, .tailDrop .a 1, .tailDrop .b 6, .executionDispatch 191,
      .migrationSwitch 4095, .downlinkFrame .b 95, .podPowerUp 31, .podIlimTrip 63 [15], .selfCalPhaseEnd 31, .almChange 31 3,
      .faultRaise .b 14 true, .conditionReraise .b 12, .spiWriteConfig 0x0A 0, .spiWriteConfig 0x1F 0, .spiWriteOther 32 (mosiFrame true 127 0), .spiWriteOther 32 (mosiFrame false 0x03 0), .spiBadFrame,
      .mirrorUpdate .tracker, .wdogWindowClose (.supervisor .a)] : List Instr).all Instr.wf = true := by decide +kernel

/-! ## Requests: states and payloads that meet the hypotheses -/

theorem test_requests_without_entry_are_admitted :
    ([0x10, 0x23, 0x24, 0x41, 0x50, 0x78, 0x60, 0x68, 0x69, 0x6A, 0x6B, 0x53, 0x54].all fun op => tState.admits .a op tReq [] &&
      !journalled op []) = true := by decide +kernel

/-- LATEST of digital channel 0 and loop channel 0x400. -/
def tLatest : List Word := [mkw [(123, 112, 0), (111, 80, 1), (79, 68, 0x400), (67, 36, 1)]]

theorem test_latest_is_admitted :
    tState.admits .a 0x30 tReq tLatest = true ∧ journalled 0x30 tLatest = false ∧
      checkSample tLatest ((tState.entered .a 0x30 tReq tLatest).ctrl .a) = stOk := by decide +kernel

theorem test_session_requests_are_accepted :
    tState.accepts .a 0x01 { tReq with session := 2 } [mkw [(119, 109, 16)]] = true ∧
    tState.accepts .a 0x02 tReq [mkw [(127, 96, 9), (95, 64, 7)]] = true ∧ tState.accepts .a 0x03 tReq [] = true ∧
    tState.accepts .a 0x12 tReq [mkw [(127, 124, 3)]] = true := by decide +kernel

/-- A level on digital channel 0 and a current on loop channel 0x401. -/
def tOutputs : List Word := [mkw [(127, 116, 0), (115, 112, 1), (63, 52, 0x401), (51, 48, 4), (47, 24, 12000000)]]

/-- A test runs on digital channel 0. -/
def tTesting : Ctrl := { tActive with tests := [(0, some { act := 1, value := 0, ends := 3600000001000, session := 1 })] }

theorem test_output_requests_are_accepted :
    tState.accepts .a 0x31 tReq tOutputs = true ∧
    tState.accepts .a 0x32 tReq [mkw [(127, 116, 0), (115, 112, 1), (87, 72, 60000)]] = true ∧
    (tWith tTesting).accepts .a 0x32 tReq [mkw [(127, 116, 0), (115, 112, 15)]] = true ∧
    tState.accepts .a 0x38 tReq [mkw [(96, 96, 1)]] = true ∧
    tState.accepts .a 0x30 tReq [mkw [(127, 126, 1), (123, 108, 2)]] = true ∧
    tState.accepts .a 0x30 tReq [mkw [(127, 126, 2), (123, 112, 0x400)]] = true := by decide +kernel

/-- A CFG_WRITE of one word of an item. -/
def tCfg (item first : Nat) (w : Word) : List Word := [mkw [(127, 120, item), (119, 108, first), (107, 100, 1)], w]

theorem test_channel_writes_are_accepted :
    tState.accepts .a 0x11 tReq (tCfg 1 0 (mkw [(127, 116, 0x3FF), (115, 113, 4)])) = true ∧
    tState.accepts .a 0x11 tReq (tCfg 2 0 (mkw [(127, 116, 0x47F), (115, 114, 1), (94, 90, 5), (87, 80, 5)])) = true ∧
    tState.accepts .a 0x11 tReq (tCfg 3 0 (mkw [(127, 116, 0x400), (115, 114, 2), (82, 67, 1)])) = true := by decide +kernel

theorem test_module_writes_are_accepted :
    tState.accepts .a 0x11 tReq (tCfg 0x10 0 (mkw [(127, 96, 1000), (87, 84, 1)])) = true ∧
    tState.accepts .a 0x11 tReq (tCfg 0x20 0 (mkw [(127, 124, 3)])) = true ∧
    tState.accepts .a 0x11 tReq (tCfg 0x21 0 (mkw [(127, 127, 1), (115, 102, 32), (101, 88, 64)])) = true ∧
    tState.accepts .a 0x11 tReq (tCfg 0x22 1 (mkw [(127, 127, 1), (119, 106, 32), (105, 92, 64), (91, 89, 1)])) = true ∧
    tState.accepts .a 0x11 tReq (tCfg 0x23 0 (mkw [(127, 118, 1000)])) = true ∧
    tState.accepts .a 0x11 tReq (tCfg 0x23 0 (mkw [(127, 118, 1), (111, 109, 1), (107, 96, 11), (95, 88, 1), (87, 86, 1)])) = true ∧
    tState.accepts .a 0x11 tReq (tCfg 0x24 0 (mkw [(121, 112, 1000)])) = true ∧
    tState.accepts .a 0x11 tReq (tCfg 0x24 0 (mkw [(126, 126, 1)])) = true ∧
    tState.accepts .a 0x11 tReq (tCfg 0x25 0 (mkw [(127, 127, 1)])) = true ∧
    tState.accepts .a 0x11 tReq (tCfg 0x26 0 0) = true := by decide +kernel

/-- Duty 5: point 0 of AS3, channel set 0 to 1, ACQUIRE LAST. -/
def tRecord : List Word :=
  [mkw [(127, 116, 5), (115, 114, 3), (111, 96, 1), (95, 80, 1000), (57, 54, 1), (53, 50, 1)],
    mkw [(127, 96, 3)], 0, mkw [(127, 124, 1), (116, 116, 1), (63, 0, 3)]]

/-- Duty 5 defined. -/
def tDefined : Ctrl := { tActive with duties := [(5, Duty.ofRecord tRecord)] }

theorem test_duty_requests_are_accepted :
    tState.accepts .a 0x20 tReq tRecord = true ∧
    (tWith tDefined).accepts .a 0x21 tReq [mkw [(127, 116, 5), (115, 103, 1)]] = true ∧
    (tWith tDefined).accepts .a 0x22 tReq [mkw [(127, 116, 5), (115, 103, 1)]] = true := by decide +kernel

/-- Loop channel 0x400 armed for its input, and 0x401 for its output. -/
def tArm (out : Bool) : Arm :=
  { ch := if out then 0x401 else 0x400, out, session := 1, ends := 3600000000001, state := 1, zero := false, span := false
    aside := false, zoff := 0, gain := 0x01000000, capture := none, startAt := 0 }

def tTrimWord (ch act : Nat) : List Word := [mkw [(127, 116, ch), (115, 112, act), (111, 102, 600), (95, 72, 4000000)]]

theorem test_trim_requests_are_accepted :
    tState.accepts .a 0x39 tReq (tTrimWord 0x400 0) = true ∧ tState.accepts .a 0x39 tReq (tTrimWord 0x401 1) = true ∧
    (tWith { tActive with arm := some (tArm true) }).accepts .a 0x39 tReq (tTrimWord 0x401 4) = true ∧
    (tWith { tActive with arm := some (tArm true) }).accepts .a 0x39 tReq (tTrimWord 0x401 5) = true ∧
    (tWith { tActive with arm := some (tArm false) }).accepts .a 0x39 tReq (tTrimWord 0x400 6) = true ∧
    (tWith { tActive with arm := some (tArm false) }).accepts .a 0x39 tReq (tTrimWord 0x400 7) = true ∧
    tState.accepts .a 0x39 tReq (tTrimWord 0x47F 8) = true ∧ endOp 0x39 (tTrimWord 0x400 8) = false := by decide +kernel

theorem test_captures_are_accepted :
    (tWith { tActive with arm := some (tArm false) }).accepts .a 0x39 tReq (tTrimWord 0x400 2) = true ∧
    (tWith { tActive with arm := some (tArm false) }).accepts .a 0x39 tReq (tTrimWord 0x400 3) = true ∧
    endOp 0x39 (tTrimWord 0x400 2) = true ∧ endOp 0x39 (tTrimWord 0x400 3) = true := by decide +kernel

/-- An episode is open with the source 0x03. -/
def tEpisode : Ctrl := { tActive with faults := { tActive.faults with episode := { isOpen := true, first := 3, number := 1 } } }

/-- A request with tag 2 waits for its commit. -/
def tFlight : Flight :=
  { req := { tReq with tag := 2, seq := 2 }, op := 0x31, payload := [], committed := false, passed := false, ended := false
    discard := false, rebound := false, formed := none, noCredit := false }

theorem test_fault_and_storage_requests_are_accepted :
    tState.accepts .a 0x3A tReq [mkw [(127, 116, 0x400)]] = true ∧
    (tWith { tActive with flights := [tFlight] }).accepts .a 0x40 tReq [mkw [(127, 116, 2)]] = true ∧
    (tWith tEpisode).accepts .a 0x51 tReq [mkw [(127, 122, 3)]] = true ∧ tState.accepts .a 0x52 tReq [] = true ∧
    tState.accepts .a 0x55 tReq [mkw [(127, 112, 0x6E77)]] = true ∧
    tState.accepts .a 0x61 tReq [mkw [(127, 115, 0x1100), (114, 107, 1)], 1] = true := by decide +kernel

/-- Both controllers with a spare slot, a staging that has come to its end, and a staged image. -/
def tSlots (one : Nat) (c : Ctrl) : Ctrl := { c with slot1 := { c.slot1 with state := one, written := 32 } }
def tStaging : State :=
  { tState with
    ctrlA := { tSlots 1 tActive with update := { op := 1, length := 32 } }, ctrlB := tSlots 1 tStandby }
def tStaged : State := { tState with ctrlA := tSlots 2 tActive, ctrlB := tSlots 2 tStandby }

theorem test_firmware_requests_are_accepted :
    { tState with ctrlA := tSlots 0 tActive, ctrlB := tSlots 0 tStandby }.accepts .a 0x70 tReq [mkw [(95, 64, 32)]] = true ∧
    tStaging.accepts .a 0x70 tReq [mkw [(127, 124, 2)]] = true ∧ tStaging.accepts .a 0x70 tReq [mkw [(127, 124, 3)]] = true ∧
    { tStaging with ctrlA := { tStaging.ctrlA with slot1 := { tStaging.ctrlA.slot1 with written := 0 } } }.accepts .a 0x70 tReq
      [mkw [(127, 124, 1)], 0] = true ∧
    tStaged.accepts .a 0x71 tReq [mkw [(127, 112, 3600)]] = true ∧ tState.accepts .a 0x72 tReq [] = true := by decide +kernel

theorem test_rope_requests_are_accepted :
    tState.accepts .a 0x79 tReq [mkw [(127, 120, 2), (59, 28, 1)]] = true ∧
    tState.accepts .a 0x7A tReq [mkw [(127, 120, 8)]] = true := by decide +kernel

/-! ## Redundancy, supply, watchdogs and debug -/

/-- OUTPUT_SET waits at controller A; the second waits with an action that the checks refuse. -/
def tWaits (p : List Word) : Ctrl := { tActive with waiting := [(0x31, tReq, p)], flights := [{ tFlight with req := tReq }] }

theorem test_waiting_messages_commit :
    (tWith (tWaits tOutputs)).active = some .a ∧ (tWaits tOutputs).commitsOp 0x31 = true ∧ (tWith { tWaits tOutputs with waiting := [] }).stale .a = false ∧
    (tWith { tWaits tOutputs with waiting := [] }).commitStatus .a 0x31 tReq tOutputs = stOk ∧
    ({ tWaits tOutputs with waiting := [] } : Ctrl).undefinedCase 0x31 tReq tOutputs = none ∧
    (tWith { tWaits [] with waiting := [] }).commitStatus .a 0x31 tReq [] ≠ stOk := by decide +kernel

/-- The line of controller B has spoken `ago` ns before. -/
def tBeat (ago : Nat) (pulse : Option Nat) : State :=
  { tState with arb := { tState.arb with beatB := { last := some (tState.now - ago), failed := false, pulseAt := pulse } } }

theorem test_heartbeat_hypotheses :
    tState.beats .a = true ∧ (tState.arb.beat .b).accepts .b tState.now (tState.heartbeat .b) = true ∧
    (tState.arb.beat .b).accepts .b tState.now 0 = false ∧ ((tBeat 3000000 none).arb.beat .b).silent tState.now = true ∧
    (tState.arb.beat .b).last = none ∧ (tState.arb.beat .b).pulseAt = none ∧ (tState.arb.beat .b).silentAt + ms 100 ≤ tState.now ∧
    ((tBeat 100000000 none).arb.beat .b).pulseAt = none ∧
    ((tBeat 100000000 none).arb.beat .b).last = some (tState.now - 100000000) ∧ tState.now - 100000000 + ms 100 ≤ tState.now ∧
    ((tBeat 0 (some (tState.now - 10000000000))).arb.beat .b).pulseAt = some (tState.now - 10000000000) ∧
    tState.now - 10000000000 + ms 10000 ≤ tState.now ∧ tActive.isActive = true ∧ tState.compat = false ∧ tState.arb.kind = 1 ∧
    tState.arb.side = .a ∧ { tState.arb with renewAt := tState.now - 10000000 }.renewAt + ms 10 ≤ tState.now := by decide +kernel

/-- The arbiter in START for 5 ms, with both lines reporting; and one in HELD_A whose line speaks and whose lease ends. -/
def tStart : State :=
  { tState with
    arb := { since := tState.now - 5000000, beatA := { last := some tState.now, failed := false, imageOk := true, okAt := some 0, epoch := 4 }
             beatB := { last := some tState.now, failed := false, imageOk := true, okAt := some 1, epoch := 3 } } }
def tHeld (ago : Nat) : State :=
  { tState with
    arb := { tState.arb with renewAt := tState.now - ago, beatA := { last := some tState.now, failed := false, imageOk := true, okAt := some 0 } } }

theorem test_tether_hypotheses :
    tStart.grantDue = some (.a, 0) ∧ tState.grantDue = none ∧ (tHeld 5000000).grantDue = none ∧ (tHeld 5000000).supply = true ∧
    tState.now < (tHeld 5000000).arb.renewAt + ms 20 ∧ (tHeld 5000000).arb.renewAt + ms 5 ≤ tState.now ∧
    ((tHeld 5000000).arb.beat .a).failed = false ∧ ((tHeld 5000000).arb.beat .a).silent tState.now = false ∧
    ((tHeld 5000000).arb.beat .a).failReq = false ∧ ((tHeld 5000000).arb.beat .a).imageOk = true ∧
    (tHeld 20000000).arb.st = .held .a ∧ (tHeld 20000000).arb.renewAt + ms 20 ≤ tState.now ∧ (tHeld 5000000).arb.st = .held .a := by
  decide +kernel

/-- The first grant is to come: from START, from one line, from either line's epoch. -/
theorem test_epoch_hypotheses :
    tStart.arb.st = .start ∧ tStart.arb.beatA.last = some tState.now ∧ tStart.arb.beatB.last = some tState.now ∧
    epochGe tStart.arb.beatA.epoch tStart.arb.beatB.epoch = true ∧ epochGe 2 4294967295 = true ∧ epochGe 4294967295 2 = false ∧
    (tBeat 0 none).arb.beatA.last = none ∧ (tBeat 0 none).arb.beatB.last = some tState.now ∧ tState.arb.st ≠ .start := by decide +kernel

/-- Controller A that does not hold its role yet; a pair under COMPAT whose B is without the splice; B in reset. -/
def tGranted : State := tWith { tActive with role := .standby }
def tCompat : State :=
  { tState with
    compat := true, ctrlB := { tStandby with spliceUp := false, spliceAt := tState.now - 2000000 } }
def tReset (st0 st1 : Nat) : State :=
  { tState with
    ctrlB := { tStandby with
      inReset := true, running := false, slot0 := { Slot.factory 4 with state := st0 }, slot1 := { Slot.factory 5 with state := st1 } } }

theorem test_takeover_and_boot_hypotheses :
    tGranted.mayTake .a = true ∧ tCompat.compat = true ∧ tCompat.ctrlB.running = true ∧ tCompat.ctrlB.inReset = false ∧
    tCompat.ctrlB.dbg.st ≠ 1 ∧ tCompat.ctrlB.role ≠ .active ∧ tCompat.ctrlB.spliceUp = false ∧
    tCompat.ctrlB.spliceAt + ms 2 ≤ tCompat.now ∧ (tReset 4 5).supply = true ∧ (tReset 4 5).ctrlB.inReset = true ∧
    (tReset 4 5).ctrlB.update.op < 2 ∧ bootSlot (tReset 4 5).safeBoot (tReset 4 5).ctrlB (fun _ => true) = some false ∧
    bootSlot (tReset 4 5).safeBoot (tReset 4 5).ctrlB (fun b => if b then true else false) = some true ∧
    bootSlot (tReset 4 5).safeBoot (tReset 4 5).ctrlB (fun _ => false) = none := by decide +kernel

/-- Controller B in another role, with its splice up or down since 10 ms. -/
def tRole (r : Role) (up : Bool) : State :=
  { tState with ctrlB := { tStandby with role := r, spliceUp := up, spliceAt := tState.now - 10000000 } }

theorem test_splice_hypotheses :
    tState.active = some .a ∧ tState.isStandby .b = true ∧ tActive.injects 4 0 = false ∧ tStandby.running = true ∧
    tStandby.inReset = false ∧ tStandby.role = .standby ∧ tStandby.spliceUp = true ∧ (tRole .isolated false).ctrlB.role = .isolated ∧
    (tRole .isolated false).ctrlB.dbg.st ≠ 1 ∧ (tRole .isolated false).ctrlB.spliceAt + ms 10 ≤ tState.now ∧
    (tRole .syncing true).active = some .a ∧ (tRole .syncing true).ctrlB.role = .syncing ∧ (tRole .syncing true).ctrlB.spliceUp = true ∧
    tActive.spliceUp = true ∧ tActive.mode ≠ .boot ∧ tActive.mode ≠ .dormant ∧ (tRole .syncing true).ctrlB.imageOk = true := by decide +kernel

theorem test_supply_hypotheses :
    { tState with supply := false }.supply = false ∧ tState.supply = true ∧ { tState with powerFail := true }.powerFail = true := by decide +kernel

/-- The supervisor watchdog of A running with a window that closes now, suspended since 4 s; session 1's host watchdog likewise. -/
def tDog (st : Nat) : Watchdog := { st, issued := 0, closeT := 64, suspendAt := tState.now - 4000000000 }
def tDogs (st : Nat) : Ctrl := { tActive with dog := tDog st, hostDogs := [(1, { state := 1, dog := tDog 0 })] }

theorem test_watchdog_hypotheses :
    (tDogs 0).dog.over tState.now = true ∧ (tDogs 0).inReset = false ∧ (tWith (tDogs 0)).active = some .a ∧
    ((tDogs 0).hostDog 1).state = 1 ∧ ((tDogs 0).hostDog 1).dog.over tState.now = true ∧ (tDogs 0).dog.st = 0 ∧
    (tDogs 0).hostServed = false ∧ { tActive with keyArm := some (1, tState.now) }.keyArm = some (1, tState.now) ∧
    tState.now ≤ tState.now ∧ (tDogs 2).dog.st = 2 ∧ (tDogs 2).dog.suspendAt + ms 4000 ≤ tState.now ∧
    { tActive with hbSilent := true }.hbSilent = true := by decide +kernel

/-- An episode of A whose reaction time is over; one that closed 100 ms ago while a condition stands; a latched source in B. -/
def tReacting : Ctrl :=
  { tActive with faults := { tActive.faults with
      episode := { isOpen := true, first := 3, number := 1, started := 0, react := 1 }, pinMin := true, pinAt := tState.now - 10000000 } }
def tClosed : Ctrl :=
  { tActive with faults := { tActive.faults with episode := { closedAt := tState.now - 100000000, number := 1 }, conds := [12] } }
def tLatched : State := { tState with ctrlB := { tStandby with faults := { tStandby.faults with latched := [(3, false, 0)] } } }

theorem test_fault_hypotheses :
    (tWith tReacting).active = some .a ∧ tReacting.reactOver tState.now = true ∧ tReacting.faults.pinMin = true ∧
    tReacting.faults.pinAt + ms 10 ≤ tState.now ∧ tLatched.firstGrant = true ∧ tLatched.ctrlB.running = true ∧
    tLatched.ctrlB.inReset = false ∧ tLatched.ctrlB.role ≠ .active ∧ tLatched.ctrlB.faults.latched ≠ [] ∧ tLatched.ctrlB.dbg.st ≠ 1 ∧ tLatched.ctrlB.hbSilent = false ∧
    tClosed.isActive = true ∧ 12 ≤ 12 ∧ tClosed.faults.conds.contains 12 = true ∧ tClosed.faults.episode.isOpen = false ∧
    tClosed.faults.episode.closedAt + ms 100 ≤ tState.now ∧ tActive.running = true ∧ tActive.inReset = false := by decide +kernel

/-- A debug state of A, and of B. -/
def tDebugA (c : Ctrl) (g : Debug) : State := tWith { c with dbg := g }
def tDebugB (g : Debug) : State := { tState with ctrlB := { tStandby with dbg := g } }

theorem test_debug_hypotheses :
    holdModes.contains tStandby.mode = true ∧ tState.holder ≠ some .b ∧ yieldModes.contains tActive.mode = true ∧ tState.holder = some .a ∧
    tState.isStandby .b = true ∧ tStandby.mirrorOk = true ∧ { tActive with mode := .maintain, dogsOff := true }.mode = .maintain ∧
    { tActive with mode := .maintain, dogsOff := true }.dogsOff = true ∧ tActive.faults.episode.isOpen = false ∧
    (tActive.hostDogs.any fun p => p.2.state == 1) = false ∧ (tDebugA tActive { st := 3, halted := true }).ctrlA.dbg.st = 3 ∧
    (tDebugA tActive { st := 3, halted := true }).ctrlA.dbg.held = [] ∧ (tDebugB { st := 1, latched := true }).ctrlB.dbg.st = 1 ∧
    (tDebugB { st := 1, latched := true }).ctrlB.dbg.latched = true ∧ tStandby.mode ≠ .dormant ∧
    (tDebugA tActive { st := 2, since := tState.now - 20000000 }).ctrlA.dbg.st = 2 ∧
    (tDebugA tActive { st := 2, since := tState.now - 20000000 }).ctrlA.dbg.since + ms 20 ≤ tState.now ∧
    (tDebugA tActive { st := 2, since := tState.now - 20000000 }).holder = some .a := by decide +kernel

theorem test_debug_access_hypotheses :
    (tDebugA tActive { st := 3 }).ctrlA.dbg.stopped = true ∧ tActive.dbg.stopped = false ∧ tState.supply = true ∧ tState.boundaryTest = false ∧
    { State.reset with safeBoot := true }.boundaryTest = true ∧ { State.reset with safeBoot := true }.supply = true ∧
    (0x0FFFFFFF : BitVec 32).toNat / 2 ^ 28 = 0 := by decide +kernel

/-- The first bytes of SRAM, and the last ones, whatever their address at the Fyvail port. -/
theorem test_sram_addresses :
    Config.sramAddress Config.sramBase.toNat = some 0 ∧ 0 + 4 ≤ sramSize ∧
    Config.sramAddress (Config.sramBase.toNat + (sramSize - 4)) = some (sramSize - 4) ∧ sramSize - 4 + 4 ≤ sramSize := by
  simp [Config.sramAddress, sramSize]

/-! ## Ports -/

/-- A request message of session 1 as its words, and a session bound to a port. -/
def tHeader (op len : Nat) (gen : Nat) (p : List Word) : Word :=
  let h := headerBare op 1 0 1 len 1 0 gen
  h ||| mkw [(31, 0, messageCrc 0 h p)]
def tBytes (ws : List Word) : List Byte := (ws.flatMap wordBytes).map (BitVec.ofNat 8)
def tBound (port : Port) : Session :=
  { isOpen := true, hostId := 7, key := 9, port, credits := 8, free := 8, depth := 16, evPort := port }
def tOn (port : Port) (f : Option (Word × List Word)) : Ctrl :=
  { tActive with sessions := [(1, tBound port)], ports := { ethLink := 1, frame := f, lane0 := true, lane1 := true } }

/-- OUTPUT_SET, and FAULT_PIN_RELEASE without a payload, on the generation of Ethernet and USB and on that of the Frame port. -/
def tSet (gen : Nat) : Word := tHeader 0x31 1 gen tOutputs
def tRelease (gen : Nat) : Word := tHeader 0x52 0 gen []

theorem test_ethernet_message_is_intact :
    (tWith (tOn .eth1 none)).ethUp .a = true ∧ (tOn .eth1 none).portServes .eth1 = true ∧
    datagramMessages (tBytes (tSet 3 :: tOutputs)) = some [(tSet 3, tOutputs)] ∧ intact (ethPort .a) (tSet 3) tOutputs = true ∧
    (tOn .eth1 none).ports.reasm = [] ∧ 0 < (tBytes (tSet 3 :: tOutputs)).length ∧ (tBytes (tSet 3 :: tOutputs)).length ≤ 8192 ∧
    (tWith (tOn .eth1 none)).completes .a 0x31 (headerReq (ethPort .a) 0 0 (tSet 3)) tOutputs = true ∧
    fld (tSet 3) 119 112 = 0x31 := by decide +kernel

theorem test_usb_message_is_intact :
    tState.usbUp = true ∧ transferMessage (tBytes (tSet 3 :: tOutputs)) = some (tSet 3, tOutputs) ∧ intact .usb (tSet 3) tOutputs = true ∧
    tState.completes .a (fld (tSet 3) 119 112) (headerReq .usb 0 0 (tSet 3)) tOutputs = true ∧
    16 ≤ (tBytes (tSet 3 :: tOutputs)).length ∧ (tBytes (tSet 3 :: tOutputs)).length ≤ 4096 ∧
    (tState.countUsb 3).completes .a (fld (tSet 3) 119 112) (headerReq .usb 0 0 (tSet 3)) tOutputs = true := by decide +kernel

/-- The Frame port served at controller A, whose receivers hold a part of a message or none. -/
def tFrame (f : Option (Word × List Word)) : State :=
  { tState with ctrlA := tOn .frame f, ctrlB := { tStandby with ports := { tStandby.ports with frame := f, lane0 := true, lane1 := true } } }

theorem test_frame_messages_are_intact :
    (∀ z, (tFrame none).runs z = true → ((tFrame none).ctrl z).aligned = true) ∧ (tFrame none).active = some .a ∧
    intact .frame (tRelease 2) [] = true ∧
    ((tFrame none).frameBoth fun c => c.dropPartial.setFrame none).completes .a (fld (tRelease 2) 119 112)
      (headerReq .frame 0 0 (tRelease 2)) [] = true ∧
    (∀ z, (tFrame (some (tSet 2, []))).runs z = true → ((tFrame (some (tSet 2, []))).ctrl z).aligned = true ∧
      ((tFrame (some (tSet 2, []))).ctrl z).ports.frame = some (tSet 2, [])) ∧
    (tFrame (some (tSet 2, []))).active = some .a ∧ intact .frame (tSet 2) ([] ++ tOutputs) = true ∧
    ((tFrame (some (tSet 2, []))).frameBoth fun c => c.setFrame none).completes .a (fld (tSet 2) 119 112)
      (headerReq .frame 0 0 (tSet 2)) ([] ++ tOutputs) = true := by
  refine ⟨fun z => ?_, ?_, ?_, ?_, fun z => ?_, ?_, ?_, ?_⟩ <;> first | (cases z <;> decide +kernel) | decide +kernel

theorem test_frame_word_hypotheses :
    fld (tSet 2) 127 120 = 0xB6 ∧ fld (tSet 2) 83 76 ≠ 0 ∧ fld (0 : Word) 127 120 ≠ 0xB6 ∧
    (∀ z, (tFrame none).runs z = true → ((tFrame none).ctrl z).aligned = true ∧ ((tFrame none).ctrl z).ports.frame = none) ∧
    (∀ z, (tFrame (some (tSet 2, [0]))).runs z = true → ((tFrame (some (tSet 2, [0]))).ctrl z).aligned = true ∧
      ((tFrame (some (tSet 2, [0]))).ctrl z).ports.frame = some (tSet 2, [0])) ∧ fld (tSet 2) 83 76 ≠ [(0 : Word)].length + 1 ∧
    us 990 ≤ us 990 ∧ us 1010 ≤ us 1010 := by
  refine ⟨?_, ?_, ?_, fun z => ?_, fun z => ?_, ?_, ?_, ?_⟩ <;> first | (cases z <;> decide +kernel) | decide +kernel

/-- Controller A with reassemblies, begun 10 ms ago. -/
def tReasm (n : Nat) : State :=
  tWith { tOn .eth1 none with
    ports := { (tOn .eth1 none).ports with
      reasm := (List.range n).map fun i =>
        { ident := i, ip := 0, udp := 0, parts := [(0, [0])], total := none, started := tState.now - 10000000 } } }

theorem test_ethernet_hypotheses :
    datagramMessages [0] = none ∧ [(0 : Byte)].length ≤ 8192 ∧ (tReasm 0).ethUp .a = true ∧ (tReasm 0).ctrlA.portServes (ethPort .a) = true ∧
    (tReasm 1).ctrlA.ports.reasm = [{ ident := 0, ip := 0, udp := 0, parts := [(0, [0])], total := none, started := tState.now - 10000000 }] ∧
    8192 < 8192 + [(0 : Byte)].length ∧ 8 ≤ (tReasm 8).ctrlA.ports.reasm.length ∧
    (∀ r ∈ (tReasm 8).ctrlA.ports.reasm, r.ident ≠ 9) ∧ tState.now - 10000000 + ms 10 ≤ tState.now ∧
    tActive.ownAddress .a ≠ tActive.ownAddress .a + 1 ∧ tState.runs .a = true ∧
    speedAllows (fld (tActive.portCfg (portCode (ethPort .a))) 81 80) 2 = true := by decide +kernel

theorem test_usb_hypotheses :
    transferMessage [0] = none ∧ transferMessage (List.replicate 16 0) = none ∧ 16 ≤ (List.replicate 16 (0 : Byte)).length ∧
    (List.replicate 16 (0 : Byte)).length ≤ 4096 ∧ tState.usbUp = true ∧ tState.arb.steer = some .a ∧
    { tState with locate := some tState.now }.locate = some tState.now ∧ tState.attached = true ∧
    { tState with usbLink := 3 }.attached = true ∧ { tState with usbLink := 3 }.usbLink = 3 ∧
    { tState with detachAt := some (tState.now - 20000000) }.detachAt = some (tState.now - 20000000) ∧
    tState.now - 20000000 + ms 20 ≤ tState.now ∧ tState.vbus = true ∧ { tState with vbus := false }.vbus = false ∧
    { tState with vbus := false }.arb.steer = some .a ∧ { tState with vbus := false }.detachAt = none ∧
    { tState with vbus := false, detachAt := some 0 }.detachAt ≠ none := by decide +kernel

/-- A queued SPI write of output 0 of the window's pod, or of its first configuration word. -/
def tSpi (c : Ctrl) (addr : Nat) : State := tWith { c with spi := { queue := [{ addr, value := 1, pod := 0 }] } }
/-- Under COMPAT B's claim of 1 prevails until A claims 1 too. -/
def tClaims : State :=
  { tState with
    compat := true, ctrlA := tStandby, ctrlB := { tActive with spi := { claimB := 1 } }, arb := { tState.arb with steer := some .b } }

theorem test_spi_hypotheses :
    tState.arb.steer = some .a ∧ (∀ z, tState.runs z = true ∧ tState.spiTakes z = true) ∧ mosiGood 31 0 = false ∧ mosiGood 32 1 = false ∧
    tState.compat = false ∧ (tClaims.spiShift 32 (mosiFrame true 0x20 0)).holder = tClaims.holder ∧
    (tClaims.spiShift 32 (mosiFrame true 0x20 1)).holder = some .a ∧ tClaims.holder = some .b ∧
    (tClaims.spiShift 32 (mosiFrame true 0x20 1)).resteer.mayTake .a = true := by
  refine ⟨by decide +kernel, fun z => by cases z <;> decide +kernel, ?_⟩
  decide +kernel

/-- A queued write commits; it is undefined where a Trela-3 configuration of the same pod stands in the same period (R338). -/
theorem test_spi_commit_hypotheses :
    (tSpi tActive 3).active = some .a ∧ (tSpi tActive 3).ctrlA.spi.queue = [{ addr := 3, value := 1, pod := 0 }] ∧
    (tSpi tActive 3).ctrlA.commitsOp 0x11 = true ∧ (tSpi tActive 3).stale .a = false ∧
    (let u := ((tSpi tActive 3).modCtrl .a fun c => c.spiDone { addr := 3, value := 1, pod := 0 }).modCtrl .b fun c =>
      c.spiDone { addr := 3, value := 1, pod := 0 }
     u.spiStatus .a { addr := 3, value := 1, pod := 0 } = stOk ∧ u.spiUndefined .a { addr := 3, value := 1, pod := 0 } = none) ∧
    (let u := ((tSpi { tActive with podCfg := [(0, 1)] } 0x10).modCtrl .a fun c => c.spiDone { addr := 0x10, value := 1, pod := 0 }).modCtrl
      .b fun c => c.spiDone { addr := 0x10, value := 1, pod := 0 }
     u.spiStatus .a { addr := 0x10, value := 1, pod := 0 } = stOk ∧
       u.spiUndefined .a { addr := 0x10, value := 1, pod := 0 } = some .mixedConfiguration) := by decide +kernel

/-! ## Trackers, sessions, PTP -/

/-- Both controllers with a tracker of AS0 to AS2 in a state, and a setting of the timebase. -/
def tTrackCfg (f : Tracker) (w : Word) : State :=
  { tState with
    ctrlA := { (tActive.putKeep 0x601 w) with as0 := f, as1 := f, as2 := f }
    ctrlB := { (tStandby.putKeep 0x601 w) with as0 := f, as1 := f, as2 := f } }
def tTrack (f : Tracker) : State := tTrackCfg f 0
/-- A tracker in a state, as each of the two controllers has it. -/
def tAll (s : State) (p : Ctrl → Bool) : Bool := s.runs .a && s.runs .b && p s.ctrlA && p s.ctrlB

theorem test_edge_hypotheses :
    inRange 0 64516130 = true ∧ inRange 0 285714285 = true ∧ inRange 0 285714286 = false ∧
    tAll tState (fun c => acEdge c.angleCfg == !true && c.as1.edges == 0) = true ∧ 999 < 1000 ∧
    tAll (tTrack { edges := 5, period := 8000, lastEdge := 3599999999000 }) (fun c =>
      acEdge c.angleCfg == !true && decide (c.as1.period ≤ (tState.clock c - c.as1.lastEdge) * 8)) = true := by decide +kernel

/-- The inputs of AS1 and AS2 are lost; AS0's loss is sensed by the event itself. -/
theorem test_loss_hypotheses :
    (tAll (tTrack { st := .locked }) fun c => ([0, 1, 2].all fun i =>
      (c.tracker i).st == .locked && (c.tracker i).lossDue i (tState.clock c) (c.rope.role == 1))) = true ∧
    (tAll (tTrack { st := .relock, outOf := 4, lastEdge := 3600000000000 }) fun c =>
      (c.tracker 1).st == .relock && (c.tracker 1).lossDue 1 (tState.clock c) false) = true := by decide +kernel

theorem test_tracker_hypotheses :
    (tAll (tTrack { st := .acquire }) fun c => [0, 1, 2].all fun i => (c.tracker i).st == .acquire) = true ∧
    (tAll (tTrack { st := .relock, slew := -64 }) fun c => (c.tracker 0).st == .relock && decide ((c.tracker 0).slew.natAbs ≤ 64)) = true ∧
    (tAll (tTrack { st := .flywheel }) fun c => (c.tracker 2).st == .flywheel && acFallback c.angleCfg 2 != 1 &&
      decide ((c.tracker 2).since + flywheelLimit c.angleCfg 2 (c.tracker 2) ≤ tState.clock c)) = true ∧
    (tAll (tTrackCfg { st := .flywheel } (mkw [(127, 96, 1000), (95, 94, 1), (87, 84, 1)])) fun c => (c.tracker 0).st == .flywheel &&
      acFallback c.angleCfg 0 == 1 &&
      decide ((c.tracker 0).since + flywheelLimit c.angleCfg 0 (c.tracker 0) ≤ tState.clock c)) = true ∧
    (tAll tState fun c => (c.tracker 2).st == .noSignal) = true ∧ (tAll (tTrack { st := .lost }) fun c => (c.tracker 2).st == .lost) = true := by
  decide +kernel

/-- An input that is valid again agrees with the tracked angle at 2,048 units, and not at 2,049. -/
theorem test_valid_again_hypotheses :
    (tAll (tTrack { st := .flywheel }) fun c => let u := c.tracker 1
      u.st == .flywheel && u.agrees (angleError 2048 u.angle.toNat) (u.numberAt (mtimeOf tState c).toNat 2048)) = true ∧
    (tAll (tTrack { st := .fallback }) fun c => let u := c.tracker 1
      u.st == .fallback && !u.agrees (angleError 2049 u.angle.toNat) (u.numberAt (mtimeOf tState c).toNat 2049)) = true ∧
    (tAll (tTrack { st := .flywheel, given := some 9, lastPos := 589824 }) fun c => let u := c.tracker 2
      u.st == .flywheel && !u.agrees (angleError 0 u.angle.toNat) (u.numberAt (mtimeOf tState c).toNat 0)) = true := by decide +kernel

/-- The Frame port serves both controllers, which hold no angle word yet. -/
def tAngle : State := { tState with ctrlA := tActive.putKeep 0x606 (mkw [(127, 127, 1), (119, 119, 1)]), ctrlB := tStandby.putKeep 0x606 (mkw [(127, 127, 1), (119, 119, 1)]) }

theorem test_angle_word_hypotheses :
    (∀ x, tAngle.runs x = true → bitOf ((tAngle.ctrl x).portCfg 0) 119 = true ∧ (tAngle.ctrl x).rope.role ≠ 1 ∧
      (tAngle.ctrl x).ports.aseq ≠ some (fld (mkw [(79, 79, 1)]) 75 64)) ∧ bitOf (mkw [(79, 79, 1)]) 79 = true ∧ 999 < 1000 ∧
    ((({ tState with now := tState.now + 1000 }).trackAll .a).trackAll .b).active = some .a ∧
    (({ State.reset with now := 1000 }.trackAll .a).trackAll .b).active = none := by
  refine ⟨fun x => ?_, ?_⟩
  · cases x <;> decide +kernel
  · decide +kernel

/-- Session 1 with a reply and an event, in either order of formation. -/
def tReply (order : Nat) : Reply :=
  { req := tReq, op := 0x31, status := stOk, words := [], dup := false, vol := false, counted := true, order }
def tQueued (op a b : Nat) : State :=
  tWith { tActive with sessions := [(1, { tBound .usb with replies := [tReply a], events := [{ op, words := [0], order := b }] })] }

theorem test_queue_hypotheses :
    (tQueued 0x80 0 1).active = some .a ∧ ((tQueued 0x80 0 1).ctrlA.session 1).replies = [tReply 0] ∧
    (∀ e ∈ ((tQueued 0x80 0 1).ctrlA.session 1).events, (tReply 0).order ≤ e.order) ∧ (tQueued 0x80 0 1).portReady .a .usb = true ∧
    ((tQueued 0x81 1 0).ctrlA.session 1).events = [{ op := 0x81, words := [0], order := 0 }] ∧
    ((tQueued 0x80 1 0).ctrlA.session 1).events = [{ op := 0x80, words := [0], order := 0 }] ∧
    ((tQueued 0x81 1 0).ctrlA.session 1).isOpen = true ∧ (∀ r ∈ ((tQueued 0x81 1 0).ctrlA.session 1).replies, 0 ≤ r.order) := by decide +kernel

/-- Controller A hears the masters 5, of lower quality number, and 6, silent for 3 s, and has selected 5. -/
def tMaster (ident quality ago : Nat) : Master := { ident, quality, heardAt := tState.now - ago, logInt := 0, utcOffset := 37 }
def tPtp (masters : List Master) (m : Option Nat) (at_ : Option Nat) (use : Nat) : State :=
  tWith { tOn .usb none with time := { masters, master := m, delayAt := at_, inUse := use } }
def tHearing : State := tPtp [tMaster 5 1 0, tMaster 6 2 3000000000] (some 5) none 1

theorem test_ptp_hypotheses :
    tHearing.runs .a = true ∧ tHearing.runs .b = true ∧ (tReset 4 5).runs .b = false ∧ 1 ≠ acDomain tHearing.ctrlA.angleCfg ∧
    tHearing.ctrlA.time.master = some 5 ∧ tHearing.ctrlA.role ≠ .standby ∧ tHearing.ctrlA.timeInUse = 1 ∧ tHearing.ctrlB.role = .standby ∧
    tHearing.ctrlA.takesSync 0 5 (-7) = true ∧ tHearing.ctrlA.takesSync 0 5 1 = true ∧ tHearing.ctrlA.takesSync 0 5 2 = false ∧
    tHearing.ctrlA.takesSync 0 5 (-8) = false ∧ tHearing.ctrlA.takesSync 0 6 0 = false ∧ tHearing.ctrlA.takesSync 1 5 0 = false ∧
    tHearing.ctrlA.time.delayDue (tHearing.clock tHearing.ctrlA) = true ∧
    (tPtp [] (some 5) (some 3600000000000) 1).ctrlA.time.delayDue (tState.clock tActive) = false ∧
    (tPtp [] none none 1).ctrlA.time.master = none := by decide +kernel

/-- R98: the better master is selected, an equal one of a lower identity prevails, a silent one is forgotten. -/
theorem test_best_master :
    bestMaster [tMaster 5 2 0, tMaster 6 1 0] = some (tMaster 6 1 0) ∧ bestMaster [tMaster 6 1 0, tMaster 5 1 0] = some (tMaster 5 1 0) ∧
    (match exec (.ptpAnnounceTimeout .a) tHearing with
      | .next u => u.ctrlA.time.masters == [tMaster 5 1 0] | _ => false) = true ∧
    (match exec (.ptpSync .a 0 ⟨5, 0, 1000001⟩) tHearing with
      | .next u => u.ctrlA.time.offPs == -1000001000 && u.ctrlA.time.state == 1 | _ => false) = true := by decide +kernel

/-! ## Engines and duties -/

/-- An execution of duty 5 with a stage word. -/
def tExec (w : Word) : Exec :=
  { duty := 5, firing := { point := 0, mtime := 0, at_ := 0, angle := 0, skipped := false, flywheel := false, order := 0 }
    card := { st := 2, header := mkw [(127, 116, 5), (57, 54, 1), (53, 50, 1)], stages := [w] } }
/-- Engine 0 at that stage; and queues that hold executions. -/
def tStage (w : Word) (halted pass : Bool) (breaks : List (Nat × Nat)) : State :=
  tWith { tActive with sched := { tActive.sched with engines := [(0, { run := some (tExec w), halted, pass })], breaks } }
def tQueues (qs : Tab (List Exec)) : State := tWith { tActive with sched := { tActive.sched with queues := qs } }

theorem test_dispatch_hypotheses :
    (tQueues [(0, [tExec 0])]).active = some .a ∧ ((tQueues [(0, [tExec 0])]).ctrlA.queue (15 / 16)) = [tExec 0] ∧
    (tQueues [(0, [tExec 0])]).ctrlA.enginesRun = true ∧ ((tQueues [(0, [tExec 0])]).ctrlA.engine 15).free = true ∧
    ((tQueues [(0, [tExec 0])]).ctrlA.engine 15).slow = false := by decide +kernel

/-- R161: a window above 1.5 times its costs makes an engine SLOW; the tenth of at most 1.2 times ends that, and a ninth does not. -/
theorem test_slow_windows :
    let w := fun (g : Engine) taken => match exec (.slowWindow 191 taken g.winCost g.winDone g.winBusy) (tWith { tActive with sched := { tActive.sched with engines := [(191, g)] } }) with
      | .next u => some ((u.ctrlA.engine 191).slow, (u.ctrlA.engine 191).fine) | _ => none
    w { winCost := 2, winDone := true } 4 = some (true, 0) ∧ w { winCost := 2, winDone := true } 3 = some (false, 0) ∧
    w { winBusy := true } 0 = some (true, 0) ∧ w { slow := true, winCost := 5, winDone := true, fine := 9 } 6 = some (false, 0) ∧
    w { slow := true, winCost := 5, winDone := true, fine := 8 } 6 = some (true, 9) ∧
    w { slow := true, winCost := 5, winDone := true, fine := 9 } 7 = some (true, 0) := by decide +kernel

/-- The stages of every type, 1 to 11, at engine 0. -/
theorem test_stage_hypotheses :
    ((List.range 11).all fun k =>
      let w := mkw [(127, 124, k + 1), (116, 116, 1)]
      let s := tStage w false false []
      s.active == some .a && s.ctrlA.stageOn 0 == some (tExec w, w) && s.ctrlA.enginesRun && !(s.ctrlA.engine 0).halted &&
        !s.ctrlA.breaksAt (tExec w) && sType w == k + 1) = true := by decide +kernel

theorem test_breakpoint_hypotheses :
    let w := mkw [(127, 124, 5), (116, 116, 1)]
    (tStage w false false [(5, 0)]).ctrlA.breaksAt (tExec w) = true ∧ (tStage w false false [(5, 0)]).ctrlA.stageOn 0 = some (tExec w, w) ∧
    ((tStage w false false [(5, 0)]).ctrlA.engine 0).halted = false ∧ ((tStage w false false [(5, 0)]).ctrlA.engine 0).pass = false ∧
    ((tStage w false true [(5, 0)]).ctrlA.engine 0).pass = true ∧ ((tStage w true false []).ctrlA.engine 0).halted = true := by decide +kernel

/-- Cluster 1 has all its engines at work and `e` in its queue, and cluster 11 the same with `e'`, if there is one. -/
def tBusy (e : Exec) (e' : Option Exec) : State :=
  tWith { tActive with sched := { tActive.sched with
    engines := (List.range 16).map (fun j => (16 + j, { run := some (tExec 0) })) ++
      (List.range 16).map (fun j => (176 + j, { run := some (tExec 0) }))
    queues := (1, [e]) :: (match e' with | some f => [(11, [f])] | none => []) } }
def tLater : Exec := { tExec 0 with firing := { (tExec 0).firing with order := 1 } }

theorem test_leapfrog_hypotheses :
    (tBusy (tExec 0) none).ctrlA.queue (0 / 16) = [] ∧ (tBusy (tExec 0) none).ctrlA.enginesRun = true ∧
    ((tBusy (tExec 0) none).ctrlA.engine 0).free = true ∧ ((tBusy (tExec 0) none).ctrlA.engine 0).slow = false ∧
    (tBusy (tExec 0) none).ctrlA.stealable (min ((0 / 16 + 1) % 12) ((0 / 16 + 11) % 12)) = some (tExec 0) ∧
    (tBusy (tExec 0) none).ctrlA.stealable (max ((0 / 16 + 1) % 12) ((0 / 16 + 11) % 12)) = none ∧
    (tBusy tLater (some (tExec 0))).ctrlA.stealable (min ((0 / 16 + 1) % 12) ((0 / 16 + 11) % 12)) = some tLater ∧
    (tBusy tLater (some (tExec 0))).ctrlA.stealable (max ((0 / 16 + 1) % 12) ((0 / 16 + 11) % 12)) = some (tExec 0) ∧
    (tExec 0).precedes tLater = true ∧ (tBusy tLater (some (tExec 0))).active = some .a ∧
    { tActive.engine 0 with slow := true, fine := 9 }.slow = true ∧ 9 ≤ { tActive.engine 0 with slow := true, fine := 9 }.fine := by decide +kernel

/-- A duty migrates to cluster 11; its record waits for the eNVM; CALIBRATE ends, with a change to SAFE_HOLD due or not. -/
def tMoving : Ctrl := { tActive with sched := { tActive.sched with migrating := [(4095, 12)] } }
def tStoring : Ctrl := { tActive with storing := [(4095, [1])] }
def tCalibrating (esc : Bool) : Ctrl := { tActive with mode := .calibrate, calEnter := tState.now - 1300000000, escPending := esc }

theorem test_placement_hypotheses :
    rebalances tActive.mode = true ∧ tState.isStandby .b = true ∧ tget 0 tMoving.sched.migrating 4095 = 11 + 1 ∧
    (tMoving.sched.deferred.all fun m => fld (wordAt m.2.2 0) 127 116 != 4095) = true ∧ (tWith tMoving).active = some .a ∧
    tStoring.storing.find? (fun r => r.1 == 4095) = some (4095, [1]) ∧ (tWith (tCalibrating true)).active = some .a ∧
    (tCalibrating true).mode = .calibrate ∧ (tWith (tCalibrating true)).calOver (tCalibrating true) = true ∧
    (tCalibrating true).escPending = true ∧ (tWith (tCalibrating false)).calOver (tCalibrating false) = true ∧
    (tCalibrating false).escPending = false ∧ (tCalibrating false).faults.episode.isOpen = false := by decide +kernel

/-- The keep bank writes a group for nothing, for KEEP_WRITE and for CFG_WRITE. -/
def tGroup (tag : Option Nat) : KeepGroup := { words := [(0x1100, 1)], entry := 0, tag, reply := [0], begun := true }
def tGroups (tag : Option Nat) (op : Nat) : State :=
  tWith { tActive with groups := [tGroup tag], flights := [{ tFlight with op, payload := [0], committed := true }] }

theorem test_keep_hypotheses :
    (tGroups none 0x11).ctrlA.groups = [tGroup none] ∧ (tGroup none).begun = true ∧ (tGroup none).tag = none ∧
    ([0x61, 0x11].all fun op =>
      let u := (tGroups (some 2) op).modCtrl .a fun c => { c.writeGroup (tGroup (some 2)).words with groups := beginGroup false [] }
      u.ctrlA.flight 2 == some { tFlight with op, payload := [0], committed := true } && u.ctrlA.isActive &&
        endOp op [0] == (op == 0x61)) = true := by decide +kernel

/-! ## Links, pods and channels -/

/-- A pod with power on every link end, each in a receive state, and its channels. -/
def tPod (link : Nat) (p : Pod) (ds : Tab DigCh) (ls : Tab LoopCh) : State := { tState with pods := [(link, p)], digs := ds, loops := ls }
/-- The uplink receivers of A on link 95. -/
def tUp (r : Rx) : State := tWith { tActive with up := [(95, { rx := r })] }
/-- A good uplink frame of the loop pod on link 95. -/
def tFrameUp (seq : Nat) (typ : Nat) : UpFrame := { link := 95, seq, hdr := BitVec.ofNat 48 (typ * 2 ^ 44), pstat := 0, payload := 0 }

theorem test_link_hypotheses :
    95 < 96 ∧ tActive.inReset = false ∧ tActive.isActive = true ∧ tStandby.isActive = false ∧ (tReset 4 5).ctrlB.inReset = true ∧
    ((tPod 95 { powered := true } [] []).pod 95).powered = true ∧ uhType (tFrameUp 8 15) ≠ b2n (decide (64 ≤ 95)) ∧
    uhType (tFrameUp 8 1) = b2n (decide (64 ≤ 95)) ∧
    (((tUp { st := .good, seq := 7 }).ctrlA.uplink 95).rx.takeGood 8).2 = true ∧
    (((tUp { st := .hunt, seq := 7 }).ctrlA.uplink 95).rx.takeGood 8).1.st = .hunt ∧
    (({ st := .hunt, seq := 7, good := 1 } : Rx).takeGood 8).1.st = .good ∧ (({ st := .good, seq := 7 } : Rx).takeGood 80).2 = false ∧ seqFollows 4095 15 = true ∧ seqFollows 4095 16 = false := by decide +kernel

/-- Receive states at the bounds of R264's counts. -/
theorem test_receive_states :
    ({ st := .degraded, bad := 15 } : Rx).takeBad.st = .hunt ∧ ({ st := .good, bad := 1 } : Rx).takeBad.st = .good ∧
    ({ st := .good, bad := 2 } : Rx).takeBad.st = .degraded ∧ ({ st := .degraded, bad := 14 } : Rx).takeBad.st = .degraded ∧
    (({ st := .degraded, good := 15, seq := 1 } : Rx).takeGood 2).1.st = .good ∧
    (({ st := .degraded, good := 14, seq := 1 } : Rx).takeGood 2).1.st = .degraded := by decide +kernel

/-- A downlink frame of the holder with its tether word, and a pod that holds epoch 5 under lease. -/
def tDown (tether : BitVec 48) : DownHdr := { side := .a, seq := 8, mode := 3, ftime := 0, tether }
def tLeased : Pod :=
  { powered := true, epoch := 5, lease := true, leaseEnd := tState.now + 1, rxA := { st := .good, seq := 7 }, mode := .service
    reqNo := some 1 }
def tLeasedPod : State := tPod 95 tLeased [] [(0x47F, { configured := true, cfg := mkw [(115, 114, 1), (111, 110, 1)] })]

theorem test_pod_frame_acts :
    (let r := tLeasedPod.podFrame 95 (tDown (grantWord 1 .a 5 1))
     r.2 = (true, true) ∧ (r.1.pod 95).reqNo ≠ some (fld (mkw [(127, 120, 2)]) 127 120) ∧
       (r.1.pod 95).reqNo = some (fld (mkw [(127, 120, 1)]) 127 120) ∧ r.1.modemTakes 95 (chanAt 95 (fld (mkw [(127, 126, 3)]) 127 126)) = true ∧ (r.1.pod 95).counts = (tDown 0).side ∧
       1 ≤ fld (mkw [(125, 122, 12)]) 125 122 ∧ fld (mkw [(125, 122, 12)]) 125 122 ≤ 12) ∧
    (tLeasedPod.podFrame 95 (tDown 0)).2 = (true, false) := by decide +kernel

/-- A pod whose links are silent since 250 µs; one whose lease has ended; one that has held no lease for a second. -/
def tSilent : State :=
  tPod 0 { powered := true, lastGoodA := tState.now - 250000, lastGoodB := tState.now - 250000 }
    ((List.range 16).map fun k => (k, { configured := true })) []
def tLapsed : State := tPod 0 { powered := true, lease := true, leaseEnd := tState.now, rxA := { st := .good }, rxB := { st := .degraded, bad := 15 } } [] []
def tFree : State := tPod 0 { powered := true, lastPass := tState.now - 1000000000, lastGoodA := tState.now - 10001, lastGoodB := tState.now } [] []

/-- A silent pod in STARTING with one output configured. -/
def tStartingOut : State :=
  { tSilent with digs := [(0, { configured := true, cfg := mkw [(115, 113, 3)] })] }

theorem test_pod_timer_hypotheses :
    ((tLapsed.pod 0).rx .a).takeBad.st ≠ .hunt ∧ ((tLapsed.pod 0).rx .b).takeBad.st = .hunt ∧ (tSilent.pod 0).powered = true ∧
    (tSilent.pod 0).quiet = false ∧ (tSilent.pod 0).lastGoodA + us 250 ≤ tSilent.now ∧ (tSilent.pod 0).lastGoodB + us 250 ≤ tSilent.now ∧
    tSilent.isStarting 0 = false ∧ tStartingOut.isStarting 0 = true ∧ tStartingOut.anyOut 0 = true ∧ (tStartingOut.pod 0).quiet = false ∧
    (tLapsed.pod 0).lease = true ∧ (tLapsed.pod 0).leaseEnd ≤ tLapsed.now ∧ tLapsed.compat = false ∧
    (tFree.pod 0).lease = false ∧ (tFree.pod 0).lastPass + ms 1000 ≤ tFree.now ∧ (tFree.pod 0).refFallback = false ∧
    (tFree.pod 0).lastGood (tFree.pod 0).refSide + us 10 < tFree.now ∧ 31 < 32 := by decide +kernel

/-- One digital channel, the last of pod 63, and one loop channel, the last of loop pod 31, with their pods powered. -/
def tDig (m : Mode) (d : DigCh) : State := tPod 63 { powered := true, mode := m } [(0x3FF, d)] []
def tLoop (p : Pod) (l : LoopCh) : State := tPod 95 p [] [(0x47F, l)]
def tLeaseHold : Hold := { ends := tState.now, kind := .lease }
def tIn (n : Nat) : DigCh := { configured := true, cfg := mkw [(115, 113, n), (95, 94, 3), (80, 80, 1)] }
def tOut (n : Nat) (f : DigCh → DigCh) : DigCh := f { configured := true, cfg := mkw [(115, 113, n)] }

theorem test_hold_hypotheses :
    isDigital 0x3FF = true ∧ ((tDig .service { tIn 3 with hold := some tLeaseHold }).dig 0x3FF).hold = some tLeaseHold ∧
    ((tDig .service { tIn 3 with hold := some tLeaseHold }).pod (linkOf 0x3FF)).powered = true ∧ tLeaseHold.ends ≤ tState.now ∧
    isDigital 0x47F = false ∧ isLoop 0x47F = true ∧
    ((tLoop { powered := true } { configured := true, hold := some tLeaseHold }).loop 0x47F).hold = some tLeaseHold ∧
    ((tLoop { powered := true } { configured := true, hold := some tLeaseHold }).pod (linkOf 0x47F)).powered = true := by decide +kernel

theorem test_digital_input_hypotheses :
    (tDig .service (tIn 2)).digLive 0x3FF = true ∧ debounceNs .service (tIn 2).cfg = 0 ∧
    debounceNs .dormant (tIn 2).cfg = 1000000 ∧ tState.now < (tState.now - 999999) + debounceNs .dormant (tIn 2).cfg ∧
    auxUse ((tDig .recovery (tIn 2)).modeAt 0x3FF) = 2 ∧ digIsIn (tIn 2).cfg = true ∧ selectsEdge (tIn 2).cfg true = true ∧
    selectsEdge (tIn 2).cfg false = true ∧ (tIn 2).capture = none ∧
    ({ tIn 2 with capture := some (Capture.mk true false 0 0 0 0) } : DigCh).capture ≠ none ∧ digMode (tIn 2).cfg = 2 ∧
    auxUse ((tDig .service (tIn 2)).modeAt 0x3FF) = 1 ∧ dbit (tIn 2).diag dOpen = !true ∧ (tIn 2).openFrom + ms 4 ≤ tState.now ∧
    digIsOut (tIn 2).cfg = false ∧ (165 : Int) ≤ 165 := by decide +kernel

/-- An output whose protection has switched it off 100 ms ago. -/
def tProtected : DigCh := tOut 3 fun d => { d with prot := some { since := tState.now - 100000000, level := 2, thermal := false } }
/-- An output that drives its commanded level since 10 ms, with its last change `ago` ns back. -/
def tDrives (n drive ago : Nat) : DigCh :=
  tOut n fun d => { d with
    drive, target := drive, drivingAt := tState.now - 10000000, lastChange := some (tState.now - ago), held := some 1 }

theorem test_digital_output_hypotheses :
    (tDig .service tProtected).digLive 0x3FF = true ∧
    tProtected.prot = some { since := tState.now - 100000000, level := 2, thermal := false } ∧ ovlLatch tProtected.cfg = false ∧
    tState.now - 100000000 + ms 100 ≤ tState.now ∧ (tDrives 3 2 25000).held = some 1 ∧
    (tDrives 3 2 25000).lastChange = some (tState.now - 25000) ∧ tState.now - 25000 + us 25 ≤ tState.now ∧
    (tDig .service (tDrives 3 2 0)).digDrives 0x3FF = true ∧ (tDrives 3 2 0).drive = 2 ∧ (tDrives 3 1 0).drive = 1 ∧
    (tDig .service (tDrives 3 1 0)).digDrives 0x3FF = true ∧ (tDrives 3 1 0).prot = none ∧
    (tDrives 3 1 0).drivingAt + ms 10 ≤ tState.now ∧ (tDrives 3 1 0).drive = (tDrives 3 1 0).wanted .service ∧
    (tDig .service (tDrives 4 1 30000)).digDrives 0x3FF = true ∧ digMode (tDrives 4 1 30000).cfg = 4 ∧ (tDrives 4 1 30000).drive ≠ 0 ∧
    tState.now - 30000 + us 30 ≤ tState.now ∧ (tDrives 4 0 1000000).drive = 0 ∧
    (∀ x ∈ (tDrives 4 0 1000000).lastChange, x + ms 1 ≤ tState.now) ∧ chanAt 63 15 = 0x3FF := by decide +kernel

/-- A loop channel that converts, an input in a way of conversion with readback, on a pod that tracks AS0 or not. -/
def tConvOn (tracked : Bool) (kind : Nat) (f : LoopCh → LoopCh) : State :=
  tLoop { powered := true, mode := .service, state0 := if tracked then 3 else 0 }
    (f { configured := true, cfg := mkw [(115, 114, 1), (111, 110, 1), (97, 97, 1)], conv := mkw [(115, 114, kind), (106, 106, 1), (66, 59, 1)], powered := true })
def tConv (kind : Nat) (f : LoopCh → LoopCh) : State := tConvOn false kind f

/-- A window that ends on the grid, one that does not, the first after a restart, and the first after AS0 is tracked. -/
theorem test_window_hypotheses :
    (tConv 0 id).converts 0x47F = true ∧ convKind ((tConv 0 id).loop 0x47F).conv ≠ 2 ∧ ((tConv 0 id).loop 0x47F).urgent = false ∧
    (tConv 0 id).windowEnds 0x47F = true ∧ ((tConv 0 id).loop 0x47F).relock = false ∧ ((tConv 0 id).loop 0x47F).skipFirst = false ∧
    ((tConv 0 fun l => { l with skipFirst := true }).loop 0x47F).skipFirst = true ∧ ((tConv 0 id).pod (linkOf 0x47F)).calPhase = 0 ∧
    (tConv 0 fun l => { l with gridNo := (tConv 0 id).gridNow l }).windowEnds 0x47F = false ∧
    (let s := tConvOn true 1 fun l => { l with relock := true }
     s.converts 0x47F = true ∧ convKind (s.loop 0x47F).conv ≠ 2 ∧ (s.loop 0x47F).urgent = false ∧ s.windowEnds 0x47F = true ∧
       (s.loop 0x47F).relock = true ∧ (s.pod (linkOf 0x47F)).locks (s.loop 0x47F) = true) := by decide +kernel

theorem test_conversion_hypotheses :
    (let s := tConv 2 fun l => { l with trigRun := true }
     s.converts 0x47F = true ∧ convKind (s.loop 0x47F).conv = 2 ∧ (s.loop 0x47F).trigRun = true ∧
       (s.loop 0x47F).trigStart + s.windowNs 0x47F ≤ s.now + 488) ∧
    ((tConv 2 fun l => { l with urgent := true }).loop 0x47F).urgent = true ∧ loopMode ((tConv 2 id).loop 0x47F).cfg = 1 ∧
    fld ((tConv 2 id).loop 0x47F).conv 66 59 ≠ 0 ∧ ((tConv 2 id).loop 0x47F).trigRun = false ∧
    ((tConv 2 id).loop 0x47F).lastResult + ms (10 * fld ((tConv 2 id).loop 0x47F).conv 66 59) ≤ tState.now ∧
    ((tConv 0 fun l => { l with starting := true }).loop 0x47F).starting = true ∧ isLoop 0x47F = true ∧
    ((tConv 0 id).pod (linkOf 0x47F)).powered = true ∧ loopHeld ((tConv 0 id).pod (linkOf 0x47F)).mode = false ∧
    bitOf ((tConv 0 id).loop 0x47F).conv 106 = true ∧ bitOf ((tConv 0 fun l => { l with conv := 0 }).loop 0x47F).conv 106 = false ∧
    loopMode ((tConv 0 fun l => { l with conv := 0 }).loop 0x47F).cfg ≠ 0 := by decide +kernel

/-- A loop source that verifies at 1.0 mA. -/
def tSource : State :=
  tLoop { powered := true, mode := .service } { configured := true, cfg := mkw [(115, 114, 2), (113, 112, 1)], source := 500000 }

theorem test_loop_verdict_hypotheses :
    (tConv 0 id).watchesBreak 0x47F = true ∧ ((tConv 0 id).loop 0x47F).tripped = false ∧
    ((tConv 0 fun l => { l with tripped := true, tripAt := tState.now - 1500000 }).loop 0x47F).tripAt + us 1500 ≤ tState.now ∧
    dbit ({ ({} : LoopCh) with diag := putBit 0 lOpen true }).diag lOpen = true ∧ dbit ({ ({} : LoopCh) with diag := 0 }).diag lOpen = false ∧
    tSource.watchesSource 0x47F = true ∧ tSource.loopLive 0x47F = true ∧ loopMode (tSource.loop 0x47F).cfg = 2 ∧
    loopMode ((tConv 0 id).loop 0x47F).cfg = 1 ∧ (tSource.loop 0x47F).hot = false ∧ (tSource.loop 0x47F).coolAt + ms 10 ≤ tState.now ∧
    ((tConv 0 fun l => { l with hot := true }).loop 0x47F).hot = true ∧ 31 < 32 ∧ 3 < 4 ∧
    ((tLoop { powered := true, almRead := true, alm := 2 } {}).pod (64 + 31)).almRead = true ∧
    ((tLoop { powered := true, almRead := true, alm := 2 } {}).pod (64 + 31)).alm ≠ 3 ∧
    ((tLoop { powered := true, almRead := true, alm := 3 } {}).pod (64 + 31)).alm = 3 := by decide +kernel

/-- A loop pod in a phase of its self-calibration, begun long enough ago. -/
def tCalPod (phase : Nat) : Pod := { powered := true, mode := .service, calPhase := phase, calStart := tState.now - 1280000000 }

theorem test_pod_measurement_hypotheses :
    ((tLoop (tCalPod 7) {}).pod (64 + 31)).powered = true ∧ 1 ≤ (tCalPod 7).calPhase ∧ (tCalPod 7).calPhase ≤ 7 ∧
    (tCalPod 7).calStart + ms (160 * (tCalPod 7).calPhase) ≤ tState.now ∧ (tCalPod 7).calPhase ≠ 0 ∧ (tCalPod 7).calStart + ms 1280 ≤ tState.now ∧
    chanAt (64 + 31) 3 = 0x47F ∧ ((tLoop (tCalPod 0) { calCount := 1 }).loop 0x47F).calCount ≠ 0 ∧
    ((tLoop (tCalPod 0) { calCount := 1 }).loop 0x47F).departed = false ∧
    20 < (21 - sext 8 ((tLoop (tCalPod 0) { calCount := 1 }).loop 0x47F).calTemp.toNat : Int).natAbs ∧ (tConv 0 id).loopLive (chanAt (64 + 31) 3) = true ∧
    fskActs .service ((tConv 0 id).loop (chanAt (64 + 31) 3)).cfg = true := by decide +kernel

/-! ## FSK, trim, firmware, rope and sleep -/

/-- A send on loop channel 0x400, queued, on its way or waiting for its reply, with a good reply of the same address. -/
def tJob (phase : Nat) : FskJob :=
  { req := tReq, frame := [0x02, 0x80, 0, 0, 0x82], long := false, ref := 0, tries := 0, phase, endAt := tState.now - 300000000, last := [], entry := 0 }
def tFsk (phase : Nat) (sending : Bool) : State :=
  { tWith { tActive with fsk := [(0x400, [tJob phase])] } with loops := [(0x400, { sending })] }

theorem test_fsk_hypotheses :
    (tFsk 0 false).active = some .a ∧ isLoop 0x400 = true ∧ tget [] (tFsk 0 false).ctrlA.fsk 0x400 = [tJob 0] ∧ (tJob 0).phase = 0 ∧
    (tFsk 0 false).ctrlA.fskStill 0x400 = false ∧ ((tFsk 1 false).loop 0x400).sending = false ∧ ((tFsk 1 true).loop 0x400).sending = true ∧
    (tJob 2).endAt + ms 300 ≤ tState.now ∧ fskActs (tFsk 2 false).ctrlA.mode ((tFsk 2 false).ctrlA.loopCfg 0x400) = true ∧
    fskOther [0x06, 0x80, 0, 0, 0x86] = none ∧ fskGood (tJob 2) [0x06, 0x80, 0, 0, 0x86] = true ∧
    fskSound [0x06, 0x80, 0, 0, 0x86] true true = true := by decide +kernel

theorem test_trim_event_hypotheses :
    (tWith { tActive with arm := some (tArm false) }).active = some .a ∧ (tArm false).out = false ∧ (tArm false).capture = none ∧
    (tArm true).out = true ∧ { tArm false with ends := tState.now }.ends ≤ tState.now ∧ tState.now < (tArm false).ends ∧
    { tArm false with capture := some (true, some 1), startAt := tState.now - 1000000000 }.startAt + ms 1000 ≤ tState.now ∧
    { tArm false with capture := some (false, none) }.capture = some (false, none) ∧
    2000 < ((2001 : Int) - 0).natAbs ∧ tTesting.test 0 = some { act := 1, value := 0, ends := 3600000001000, session := 1 } ∧
    { tState with now := 3600000001000 }.now = 3600000001000 := by decide +kernel

/-- A swap of A whose partner is the tadpole; a handover; a claim awaited for 600 s; a rollback's soak. -/
def tSwap (u : Update) (b : Ctrl) : State := { tWith { tActive with update := u } with ctrlB := b }
def tTadpole : Ctrl := { tStandby with trial := true, imageOk := false, role := .syncing, slot0 := { tStandby.slot0 with state := 3 } }

/-- Both controllers run an image on trial whose soak is over. -/
def tTrial (c : Ctrl) : Ctrl := { c with slot0 := { c.slot0 with state := 3 } }
def tSoaks : State := tSwap { op := 2, phase := 6 } (tTrial tStandby) |> fun s => { s with ctrlA := tTrial s.ctrlA }

theorem test_firmware_hypotheses :
    (tSwap { op := 1, leftB := 2, erasing := true } tStandby).active = some .a ∧ 1 < (tSwap { op := 1, leftB := 2, erasing := true } tStandby).ctrlA.update.left .b ∧
    tStandby.erases = true ∧ (tSwap { op := 2 } tTadpole).migrates .b = true ∧
    (tSwap { op := 2, phase := 4 } tStandby).isStandby .b = true ∧ tStandby.mirrorOk = true ∧ tActive.yieldSet = false ∧
    (tSwap { op := 2, phase := 4 } tStandby).ctrlA.quiet = true ∧ (tSwap { op := 2 } tTadpole).tadpole .b = true ∧
    (tSwap { op := 2 } tTadpole).isStandby .b = false ∧ (tSwap { op := 2 } tTadpole).ctrlA.update.since + ms 10000 ≤ tState.now ∧
    (tSwap { op := 2, phase := 8 } tStandby).ctrlA.update.claimAt + ms 600000 ≤ tState.now ∧
    tSoaks.active = some .a ∧ tSoaks.ctrlA.update.phase = 6 ∧ tSoaks.ctrlA.update.soakEnd ≤ tSoaks.now ∧ tSoaks.ctrlA.onTrial = true ∧
    tSoaks.ctrlB.onTrial = true ∧ (tDebugA tActive { st := 2 }).compat = false ∧
    (tDebugA { tActive with duties := [(5, { st := 2, busy := true })] } { st := 2 }).ctrlA.quiet = false ∧
    (tDebugA { tActive with duties := [(5, { st := 2, busy := true })] } { st := 2 }).ctrlA.update.op < 2 := by decide +kernel

/-- The rope of A. -/
def tRope (m : Mode) (r : Rope) : State := tWith { tActive with mode := m, rope := r }
/-- Outside its bypass, in a role, with the last CSF `ago` ns before. -/
def tKnot (role ago : Nat) : Rope := { bypass := false, role, lastCsf := some (tState.now - ago) }

theorem test_rope_role_hypotheses :
    (tRope .boot (tKnot 1 0)).bypassed (tRope .boot (tKnot 1 0)).ctrlA = true ∧ (tKnot 1 0).bypass = false ∧
    (let c := ((tRope .service {}).ctrlA.putKeep 0x605 (mkw [(127, 127, 1)]));
      (tWith c).bypassed c = false ∧ c.rope.bypass = true ∧ (tWith c).active = some .a) ∧
    (tRope .service (tKnot 1 2000000000)).ctrlA.hears = true ∧ ropeMode .service = true ∧ (tKnot 1 2000000000).role ≠ 0 ∧
    (tKnot 1 2000000000).yielded = false ∧ tState.now - 2000000000 + ms (2000 + 20 * tState.knotId) ≤ tState.now ∧ tState.knotId = 0 ∧
    ({ tKnot 1 0 with lastCsf := none } : Rope).lastCsf = none ∧ (tKnot 1 0).reform = false ∧
    ({ tKnot 1 0 with reform := true, wasMaster := true } : Rope).reform = true ∧
    (tAll tState fun c => c.as2.st == .noSignal) = true ∧ (tAll (tTrack { st := .locked }) fun c => c.as2.st == .locked) = true ∧ tState.now - 750000 + us 750 ≤ tState.now ∧ (tKnot 1 750000).role = 1 ∧
    (tRope .boot (tKnot 1 0)).active = some .a := by decide +kernel

/-- A CSF of serial `serial` that checks, and one that does not. -/
def tCsf (serial : Nat) : Csf :=
  let h : Word := mkw [(71, 40, serial)]
  { header := h, time := 0, delay := delayField 0, body := [], check := csfCheck h 0 [] }

theorem csfGood_tCsf (serial : Nat) : csfGood (tCsf serial) = true := by
  have h : (delayField (delayAcc (delayField 0)) == delayField 0) = true := by decide +kernel
  unfold csfGood csfDelayGood tCsf
  dsimp only
  rw [h, Bool.true_and, beq_self_eq_true]

theorem test_csf_checks : csfGood { tCsf 0 with delay := 1 } = false ∧ csfDelayGood { tCsf 0 with delay := 1 } = false := by
  have h : csfDelayGood { tCsf 0 with delay := 1 } = false := by decide +kernel
  exact ⟨by rw [csfGood, h]; rfl, h⟩

theorem test_rope_cycle_hypotheses :
    (tRope .service (tKnot 0 0)).active = some .a ∧ (tRope .service (tKnot 0 0)).ctrlA.hears = true ∧ (tKnot 0 0).gotCommit = false ∧
    ({ tKnot 0 0 with gotCommit := true, cycle := 4294967295 } : Rope).cycle + 1 = ({ tKnot 0 0 with gotCommit := true } : Rope).sleepS ∧
    (tKnot 1 0).role ≠ 0 ∧ (tKnot 1 0).role < 2 ∧ (tKnot 1 0).muted = false ∧ 250 ≤ 250 ∧ 250 < 251 ∧ (tKnot 2 0).role = 2 ∧
    fld (mkw [(127, 124, 1)]) 127 124 ≠ tState.knotId ∧ nbit (tKnot 1 0).present.toNat (fld (mkw [(127, 124, 1)]) 127 124) = false ∧
    nbit ({ tKnot 1 0 with present := 2 } : Rope).present.toNat (fld (mkw [(127, 124, 1)]) 127 124) = true ∧ (tKnot 0 0).sleepSt = 0 ∧
    ((tKnot 0 0).joinDue.any fun j => j.1 == fld (mkw [(127, 124, 1)]) 127 124) = false := by decide +kernel

theorem test_rope_command_hypotheses :
    (tRope .service { tKnot 1 0 with sleepSt := 1, sleepS := 65535 }).active = some .a ∧
    (tRope .service { tKnot 2 0 with sleepSt := 1, sleepS := 65535 }).ctrlA.hears = true ∧
    ({ tKnot 1 0 with sleepSt := 1, sleepS := 65535 } : Rope).sleepSt ≠ 0 ∧
    ({ tKnot 1 0 with sleepSt := 1, sleepS := 65535 } : Rope).sleepS.toNat = fld (mkw [(119, 88, 65535)]) 119 88 := by decide +kernel

theorem test_sleep_hypotheses :
    (tRope .service { tKnot 1 0 with gotCommit := true, sleepSt := 2 }).active = some .a ∧
    (tRope .dormant { tKnot 1 0 with wakeSeen := true, wakeSent := 3, wakeAt := tState.now - 50000 }).ctrlA.rope.wakeAt + us 50 ≤ tState.now ∧
    (tKnot 1 0).wakeBy = 0 ∧ ({ tKnot 1 0 with wakeSeen := true } : Rope).wakeSent = 0 ∧ (tKnot 1 0).bypass = false ∧
    (tRope .dormant { tKnot 1 0 with wakeSeen := true, wakeSent := 3 }).active = some .a ∧ (3 : Nat) < 4 ∧
    (tRope .dormant (tKnot 1 0)).ctrlA.mode = .dormant ∧ (15 : Nat) ≠ tState.knotId ∧ (tKnot 1 0).wakeSeen = false ∧
    (tRope .service { tKnot 1 750000 with sleepSt := 1 }).ctrlA.mode ≠ .dormant ∧ ({ tKnot 1 750000 with sleepSt := 1 } : Rope).sleepSt ≠ 0 := by decide +kernel

/-! ## Invariants, frames and rules -/

/-- A grant to B from HELD_A, whose line reports a failure: the epoch changes with the holder. -/
def tYield : State :=
  { tState with arb := { tState.arb with
      beatA := { last := some tState.now, failed := false, imageOk := true, failReq := true, okAt := some 0 }
      beatB := { last := some tState.now, failed := false, imageOk := true, mirrorOk := true, okAt := some 0 } }, pending := [.tetherGrant] }

theorem test_step_hypotheses :
    tYield.arb.st ≠ .start ∧ tYield.arb.agrees = true ∧ tYield.grantDue = some (.b, 5) ∧
    (match step tYield with | .next t => t.arb.st == .held .b && t.arb.epoch == 6 && t.pending.isEmpty | _ => false) = true ∧
    tState.pending = [] := by decide +kernel

theorem test_empty_queue_idles : step tState = .next tState := by rfl

theorem test_field_frame_hypotheses : actsOnField .loglineCommit = false ∧ exec .loglineCommit tState = .next tState := by
  exact ⟨by decide, by rfl⟩

theorem test_channel_frame_hypotheses :
    (match exec (.shortTrip 0x3FF) (tDig .service (tOut 3 fun d => { d with drive := 1 })) with | .next t => t.digs != [] | _ => false) = true ∧
    (match exec (.supplyVerdict 0x47F true) tSource with | .next t => t.loops != tSource.loops | _ => false) = true := by decide +kernel

theorem test_query_frame_hypotheses :
    requestOf (.journalRead tReq [mkw [(86, 79, 1)]]) = some (0x41, tReq, [mkw [(86, 79, 1)]]) ∧
    tState.admits .a 0x41 tReq [mkw [(86, 79, 1)]] = true ∧ tActive.rope.sleepSt = 0 ∧
    (match exec (.journalRead tReq [mkw [(86, 79, 1)]]) tState with | .next t => t.ctrlA.sessions != tActive.sessions | _ => false) = true := by decide +kernel

/-- A level on a channel that is not an output. -/
def tWrong : List Word := [mkw [(127, 116, 0x3FF), (115, 112, 1), (63, 52, 0xFFF)]]

theorem test_refusal_hypotheses :
    requestOf (.outputSet tReq tWrong) = some (0x31, tReq, tWrong) ∧ tState.admits .a 0x31 tReq tWrong = true ∧ journalled 0x31 tWrong = true ∧
    ((tState.entered .a 0x31 tReq tWrong).ctrl .a).waiting = [] ∧ ((tState.entered .a 0x31 tReq tWrong).ctrl .a).commitsOp 0x31 = true ∧
    (tState.entered .a 0x31 tReq tWrong).commitStatus .a 0x31 tReq tWrong = stModeForbids ∧ stModeForbids ≠ stOk ∧
    modeStatus .service 0x55 [] tActive ≠ stOk ∧ (tWith { tWaits tWrong with waiting := [] }).commitStatus .a 0x31 tReq tWrong ≠ stOk ∧
    (tWith { tWaits tWrong with waiting := [] }).stale .a = false := by decide +kernel

/-- FAULT_PIN_RELEASE with an episode open, within 10 ms of an assertion, at 10 ms, before any episode, and with a payload. -/
def tPinned (isOpen : Bool) (number ago : Nat) : Ctrl :=
  { tActive with faults := { tActive.faults with episode := { isOpen, number := BitVec.ofNat 32 number }, pinHeld := true, pinAt := tState.now - ago } }

theorem test_pin_release_hypotheses :
    ([tPinned true 1 20000000, tPinned false 1 9999999, tPinned false 1 10000000, tPinned false 0 0].all fun c =>
      (tWith c).admits .a 0x52 tReq [] && ((tWith c).entered .a 0x52 tReq []).ctrlA.waiting.isEmpty &&
        ((tWith c).entered .a 0x52 tReq []).ctrlA.commitsOp 0x52) = true ∧
    (tPinned true 1 0).faults.episode.isOpen = true ∧ (tPinned false 1 9999999).faults.episode.number ≠ 0 ∧
    tState.now < (tPinned false 1 9999999).faults.pinAt + ms 10 ∧ (tPinned false 1 10000000).faults.pinAt + ms 10 ≤ tState.now ∧
    (tPinned false 0 0).faults.episode.number = 0 ∧ tState.admits .a 0x52 tReq [0] = true := by decide +kernel

theorem test_channel_ids :
    0x3FF < 4096 ∧ isDigital 0x3FF = true ∧ isLoop 0x400 = true ∧ isLoop 0x47F = true ∧ isLoop 0x480 = false ∧ isDigital 0x480 = false ∧
    linkOf 0x2A7 = 42 ∧ pinOf 0x2A7 = 7 ∧ linkOf 0x41E = 64 + 7 ∧ pinOf 0x41E = 2 := by decide +kernel

/-- A CSF with a serial above the module's, and one with a serial below it, whatever the module's serial (but the last, or 0). -/
theorem test_master_meets_hypotheses :
    (tRope .service (tKnot 0 0)).active = some .a ∧ (tRope .service (tKnot 0 0)).ctrlA.hears = true ∧ (tKnot 0 0).role = 0 ∧ (tKnot 0 0).muted = false ∧
    csfGood (tCsf 0) = true ∧ csfGood (tCsf 4294967295) = true ∧ ropeMode .service = true ∧
    (fld (tCsf 0).header 71 40 < Config.serialNumber.toNat ∨ Config.serialNumber.toNat < fld (tCsf 4294967295).header 71 40) := by
  refine ⟨by decide +kernel, by decide +kernel, by decide +kernel, by decide +kernel, csfGood_tCsf 0, csfGood_tCsf 4294967295, by decide, ?_⟩
  have h0 : fld (tCsf 0).header 71 40 = 0 := by decide +kernel
  have h1 : fld (tCsf 4294967295).header 71 40 = 4294967295 := by decide +kernel
  omega

theorem test_tether_word_passes :
    (let r := tLeasedPod.podFrame 95 (tDown (grantWord 1 .a 5 1))
     tetherOk (grantWord 1 .a 5 1) = true ∧ tetherEpoch (grantWord 1 .a 5 1) = (tLeasedPod.pod 95).epoch ∧
       (tLeasedPod.pod 95).leaseRuns tState.now = true ∧ (r.1.pod 95).epoch = 5) ∧ tLeased.grantPasses tState.now .a (grantWord 1 .a 5 1) = true ∧
    tetherEpoch (grantWord 1 .b 6 0) ≠ tLeased.epoch ∧ epochGe (tetherEpoch (grantWord 1 .b 6 0)) tLeased.epoch = true := by decide +kernel

theorem test_stage_rule_hypotheses :
    (fld (mkw [(111, 108, 5)]) 111 108 = 5) ∧ bitOf (mkw [(111, 108, 5)]) 91 = false ∧ (tExec 0).card.set.length ≤ 64 ∧
    (∀ i, i < 64 → tget 0 (tExec 0).stages.counts (64 * (tExec 0).stage + i) ≤ 16383) := by decide +kernel

/-! ## Worked examples of the spec -/

/-- R323: the check values and running values over "123456789". -/
theorem test_check_values :
    let bs := [0x31, 0x32, 0x33, 0x34, 0x35, 0x36, 0x37, 0x38, 0x39]
    crcOf 0 bs = 0xF4 ∧ crcOf 1 bs = 0x29B1 ∧ crcOf 2 bs = 0xCBF43926 ∧ crcOf 3 bs = 0xE3069283 ∧
    crcRun 0 (crcInit 0) bs = 0xF4 ∧ crcRun 1 (crcInit 1) bs = 0x29B1 ∧ crcRun 2 (crcInit 2) bs = 0x340BC6D9 ∧
    crcRun 3 (crcInit 3) bs = 0x1CF96D7C := by decide +kernel

/-- The home clusters of chapter 01: D42 in C5, L21 in C10, D62 and D63 in C7, L31 in C11. -/
theorem test_home_clusters :
    homeOf (linkOf 0x2A7) = 5 ∧ homeOf (linkOf 0x456) = 10 ∧ homeOf 62 = 7 ∧ homeOf 63 = 7 ∧ homeOf 95 = 11 := by decide +kernel

/-- Duty 7 of chapter 04, "contactor feedback supervision". -/
def tContactors : List Word :=
  [mkw [(127, 116, 7), (111, 96, 1), (95, 80, 500), (79, 77, 5), (76, 76, 1), (57, 54, 5), (53, 50, 1)],
    mkw [(127, 96, 0x0FFF0FFF), (95, 84, 0x0E0)], mkw [(127, 112, 0x4000)],
    mkw [(127, 124, 1), (123, 116, 1), (63, 0, 0xFFF)], mkw [(127, 124, 3), (123, 116, 1), (111, 110, 1), (109, 98, 0x010)],
    mkw [(127, 124, 4), (123, 116, 1), (109, 96, 3)], mkw [(127, 124, 8), (123, 116, 1), (111, 110, 1), (109, 105, 7)],
    mkw [(127, 124, 9), (123, 116, 1), (111, 110, 2), (109, 108, 1), (99, 96, 3), (79, 72, 12), (71, 64, 3)]]

/-- It is accepted, and its worst case under R129 is the 716 engine cycles of the example. -/
theorem test_contactor_example :
    recordOk tContactors = true ∧ defineCost (Duty.ofRecord tContactors) = 716 := by decide +kernel

end Sys2Proof.Tests
end

section
/-! The statements of chapter 00: what module reset leaves, what the four commands of the supply do, and how a channel ID reads. -/

namespace Sys2Proof.Machine

/-! ## The state at module reset, part by part -/

@[simp] theorem State.reset_ctrl (x : Side) : State.reset.ctrl x = Ctrl.reset := by cases x <;> rfl
@[simp] theorem State.reset_pod (l : Nat) : State.reset.pod l = {} := rfl
@[simp] theorem State.reset_dig (ch : Nat) : State.reset.dig ch = {} := rfl
@[simp] theorem State.reset_loop (ch : Nat) : State.reset.loop ch = {} := rfl

/-- At reset no controller is ACTIVE: neither of them runs, whoever holds the tether. -/
theorem State.active_reset : State.reset.active = none := by
  have hidle : Ctrl.reset.isActive = false := rfl
  have ha : State.reset.ctrlA = Ctrl.reset := rfl
  have hb : State.reset.ctrlB = Ctrl.reset := rfl
  simp [State.active, ha, hb, hidle]

/-! ## The commands of the supply, one equation per branch (R492) -/

section Supply
variable {s : State}

theorem execVbatRise_of_off (h : s.supply = false) :
    execVbatRise s = .next ({ s with supply := true, powerFail := false }.resetModule 0) := by
  simp [execVbatRise, h]

theorem execVbatRise_of_on (h : s.supply = true) : execVbatRise s = .next s := by
  simp [execVbatRise, h]

theorem execPowerFailWarning_of_on (h : s.supply = true) : execPowerFailWarning s = .next { s with powerFail := true } := by
  simp [execPowerFailWarning, h]

theorem execPowerFailClear_of_warned (h : s.powerFail = true) :
    execPowerFailClear s =
      .next (({ s with powerFail := false }.modCtrl .a Ctrl.beginGroups).modCtrl .b Ctrl.beginGroups) := by
  simp [execPowerFailClear, h]

theorem execHoldUpSpent_of_on (h : s.supply = true) :
    execHoldUpSpent s = .next ({ s with supply := false, powerFail := false }.resetModule 0) := by
  simp [execHoldUpSpent, h]

theorem execHoldUpSpent_of_off (h : s.supply = false) : execHoldUpSpent s = .next s := by
  simp [execHoldUpSpent, h]

end Supply

/-! ## Channel IDs (R9) -/

section ChannelId
variable {ch : Nat}

theorem isDigital_iff : isDigital ch = true ↔ ch < 0x400 := by simp [isDigital]
theorem isLoop_iff : isLoop ch = true ↔ 0x400 ≤ ch ∧ ch < 0x480 := by simp [isLoop]

theorem linkOf_of_digital (h : ch < 0x400) : linkOf ch = ch >>> 4 := by
  rw [linkOf, if_pos h, Nat.shiftRight_eq_div_pow]

theorem pinOf_of_digital (h : ch < 0x400) : pinOf ch = ch &&& 15 := by
  rw [pinOf, if_pos h]
  exact (Nat.and_two_pow_sub_one_eq_mod ch 4).symm

theorem linkOf_of_loop (h : 0x400 ≤ ch) : linkOf ch = 64 + ((ch - 0x400) >>> 2) := by
  rw [linkOf, if_neg (by omega), Nat.shiftRight_eq_div_pow]

/-- The position is counted from 0x400, a multiple of 4, so it is the ID's own low two bits. -/
theorem pinOf_of_loop (h : 0x400 ≤ ch) : pinOf ch = ch &&& 3 := by
  have hlow : (ch - 0x400) % 4 = ch % 4 := by omega
  rw [pinOf, if_neg (by omega), hlow]
  exact (Nat.and_two_pow_sub_one_eq_mod ch 2).symm

theorem linkOf_lt_of_digital (h : ch < 0x400) : linkOf ch < 64 := by
  rw [linkOf, if_pos h]
  omega

theorem linkOf_lt_of_loop (h : 0x400 ≤ ch) (h' : ch < 0x480) : linkOf ch < 96 := by
  rw [linkOf, if_neg (by omega)]
  omega

theorem reserved_id (h : 0x480 ≤ ch) : isDigital ch = false ∧ isLoop ch = false := by
  rw [Bool.eq_false_iff, Bool.eq_false_iff, ne_eq, ne_eq, isDigital_iff, isLoop_iff]
  omega

end ChannelId

/-! ## The obligations -/

/-- Settles O2: a controller, a pod and a channel read at reset as their reset records do, whichever side, link or ID is asked for. -/
theorem resetState : Obligations.ResetState := by
  refine ⟨rfl, rfl, rfl, rfl, rfl, rfl, rfl, rfl, fun x => ?controller, fun l => ?pod, fun ch => ?channel, rfl,
    State.active_reset⟩
  case controller =>
    rw [State.reset_ctrl]
    decide
  case pod =>
    rw [State.reset_pod]
    decide
  case channel =>
    rw [State.reset_dig, State.reset_loop]
    decide

/-- Settles O16, a branch of the four commands of the supply for each clause. -/
theorem supplyCommandsRun : Obligations.SupplyCommandsRun := fun _ =>
  ⟨execVbatRise_of_off, execVbatRise_of_on, execPowerFailWarning_of_on, execPowerFailClear_of_warned, execHoldUpSpent_of_on,
    execHoldUpSpent_of_off⟩

/-- Settles O53: shifts and masks of the ID are the quotients and remainders by 16 pins and by 4 positions. -/
theorem channelIds : Obligations.ChannelIds := by
  intro ch _
  refine ⟨isDigital_iff.trans Nat.lt_succ_iff, isLoop_iff.trans (and_congr_right' Nat.lt_succ_iff), fun hd => ?digital,
    fun hl => ?loop, reserved_id⟩
  case digital =>
    have h := isDigital_iff.mp hd
    exact ⟨linkOf_of_digital h, pinOf_of_digital h, linkOf_lt_of_digital h⟩
  case loop =>
    obtain ⟨hlo, hhi⟩ := isLoop_iff.mp hl
    exact ⟨linkOf_of_loop hlo, pinOf_of_loop hlo, linkOf_lt_of_loop hlo hhi⟩

end Sys2Proof.Machine
end

section
/-! The statements of chapter 01: a whole message over every port, the commands of USB, and the frames and commits of the SPI legacy
port. -/

namespace Sys2Proof.Machine

/-! ## Whole messages (R25, R342, R349, R350, R352) -/

section Messages
variable {s : State} {x y : Side} {ip udp ident : Nat} {h : Word} {p : List Word} {bytes : List Byte}

theorem framed_of_intact {port : Port} (hi : intact port h p = true) : framed port h p = true := by
  simp only [intact, Bool.and_eq_true] at hi
  obtain ⟨⟨hf, _⟩, _⟩ := hi
  exact hf

theorem framed_iff {port : Port} :
    framed port h p = true ↔ fld h 127 120 = 0xB6 ∧ fld h 39 36 = genOf port ∧ fld h 83 76 = p.length := by
  simp [framed, and_assoc]

theorem execRelayedMessage_completes (hi : intact (ethPort y) h p = true)
    (hc : s.completes x (fld h 119 112) (headerReq (ethPort y) ip udp h) p = true) :
    execRelayedMessage y ip udp h p s = .next (s.completed x (fld h 119 112) (headerReq (ethPort y) ip udp h) p) := by
  rw [execRelayedMessage, if_pos (framed_of_intact hi), receive_completes hi hc]

/-- A datagram of one message is that message. -/
theorem datagram_completes (hs : (s.ctrl y).portServes (ethPort y) = true) (hb : datagramMessages bytes = some [(h, p)])
    (hi : intact (ethPort y) h p = true) (hc : s.completes x (fld h 119 112) (headerReq (ethPort y) ip udp h) p = true) :
    s.datagram y ip udp bytes = .next (s.completed x (fld h 119 112) (headerReq (ethPort y) ip udp h) p) := by
  simp [State.datagram, hs, hb, State.receiveAll, receive_completes hi hc]

theorem State.setCtrl_self (s : State) (x : Side) : s.setCtrl x (s.ctrl x) = s := by cases x <;> rfl

theorem setReasm_nil {c : Ctrl} (hr : c.ports.reasm = []) : c.setReasm [] = c := by
  rw [Ctrl.setReasm, ← hr]

/-- The UDP port of a datagram is that of its first fragment. -/
theorem add_first_udp (r : Reassembly) (more : Bool) : (r.add udp 0 bytes more).udp = udp := rfl

/-- A first fragment that is also the last holds the whole datagram. -/
theorem whole_add_only (r : Reassembly) (hr : r.parts = []) (hb : 0 < bytes.length) :
    (r.add udp 0 bytes false).whole = some bytes := by
  have hne : bytes ≠ [] := List.ne_nil_of_length_pos hb
  simp [Reassembly.whole, Reassembly.add, hr, joinParts, hne]

/-- A datagram that came as its only fragment is the datagram. -/
theorem execIpv4Fragment_only (hu : s.ethUp y = true) (hr : (s.ctrl y).ports.reasm = []) (hb : 0 < bytes.length)
    (hl : bytes.length ≤ 8192) : execIpv4Fragment y ip udp ident 0 bytes false s = s.datagram y ip udp bytes := by
  have hw := whole_add_only (udp := udp) { ident, ip, udp, parts := [], total := none, started := s.now } rfl hb
  simp [execIpv4Fragment, hu, hr, hl.not_gt, hw, add_first_udp, setReasm_nil hr, State.setCtrl_self]

/-- A whole transfer over USB is its message. -/
theorem usbMessage_completes (hb : transferMessage bytes = some (h, p)) (hi : intact .usb h p = true)
    (hc : s.completes x (fld h 119 112) (headerReq .usb 0 0 h) p = true) :
    s.usbMessage bytes = .next (s.completed x (fld h 119 112) (headerReq .usb 0 0 h) p) := by
  simp [State.usbMessage, hb, receive_completes hi hc]

/-! ### The Frame port -/

theorem dropPartial_frame (c : Ctrl) :
    c.dropPartial.running = c.running ∧ c.dropPartial.inReset = c.inReset ∧ c.dropPartial.role = c.role ∧
      c.dropPartial.spi = c.spi := by
  unfold Ctrl.dropPartial
  split <;> exact ⟨rfl, rfl, rfl, rfl⟩

/-- The last word of a message that is intact: the receivers that hold it are emptied, and the ACTIVE controller serves it. The
receivers have just been changed by `g`, which leaves alone what decides the ACTIVE controller. -/
theorem takeFrame_completes {g : Ctrl → Ctrl}
    (hg : ∀ c, (g c).running = c.running ∧ (g c).inReset = c.inReset ∧ (g c).role = c.role ∧ (g c).spi = c.spi)
    (hx : s.active = some x) (hi : intact .frame h p = true)
    (hc : (s.frameBoth fun c => (g c).setFrame none).completes x (fld h 119 112) (headerReq .frame 0 0 h) p = true) :
    (s.frameBoth fun c => (g c).setFrame (some (h, p))).takeFrame =
      .next ((s.frameBoth fun c => (g c).setFrame none).completed x (fld h 119 112) (headerReq .frame 0 0 h) p) := by
  have hframed := framed_of_intact hi
  obtain ⟨_, _, hlen⟩ := framed_iff.mp hframed
  have hactive : (s.frameBoth fun c => (g c).setFrame (some (h, p))).active = some x := by
    rw [frameBoth_active, hx]
    intro c
    obtain ⟨hrun, hreset, hrole, hspi⟩ := hg c
    exact ⟨by simp [Ctrl.isActive, Ctrl.setFrame, hrun, hreset, hrole], hspi⟩
  have hheld : ((s.frameBoth fun c => (g c).setFrame (some (h, p))).ctrl x).ports.frame = some (h, p) := by
    rw [frameBoth_ctrl, if_pos (active_runs hx)]
    rfl
  unfold State.takeFrame
  simp only [hactive, hheld, hlen, hframed, beq_self_eq_true, if_true]
  rw [frameBoth_comp s (fun c => (g c).setFrame (some (h, p))) _ fun c => by
    obtain ⟨hrun, hreset, _, _⟩ := hg c
    exact ⟨hrun, hreset⟩]
  simp only [Ctrl.setFrame, hlen, beq_self_eq_true, if_true]
  exact receive_completes hi hc

theorem execFrameHeaderWord_completes (hal : ∀ z, s.runs z = true → (s.ctrl z).aligned = true) (hx : s.active = some x)
    (hi : intact .frame h [] = true)
    (hc : (s.frameBoth fun c => c.dropPartial.setFrame none).completes x (fld h 119 112) (headerReq .frame 0 0 h) [] = true) :
    execFrameHeaderWord h s =
      .next ((s.frameBoth fun c => c.dropPartial.setFrame none).completed x (fld h 119 112) (headerReq .frame 0 0 h) []) := by
  obtain ⟨hsync, _, _⟩ := framed_iff.mp (framed_of_intact hi)
  have hopen : (s.frameBoth fun c =>
        if !c.aligned then c else if fld h 127 120 ≠ 0xB6 then c.badWord else c.dropPartial.setFrame (some (h, []))) =
      s.frameBoth fun c => c.dropPartial.setFrame (some (h, [])) :=
    frameBoth_congr _ _ _ fun z hz => by simp [hal z hz, hsync]
  rw [execFrameHeaderWord, hopen, takeFrame_completes dropPartial_frame hx hi hc]

theorem execFramePayloadWord_completes {w : Word}
    (hal : ∀ z, s.runs z = true → (s.ctrl z).aligned = true ∧ (s.ctrl z).ports.frame = some (h, p)) (hx : s.active = some x)
    (hi : intact .frame h (p ++ [w]) = true)
    (hc : (s.frameBoth fun c => c.setFrame none).completes x (fld h 119 112) (headerReq .frame 0 0 h) (p ++ [w]) = true) :
    execFramePayloadWord w s =
      .next ((s.frameBoth fun c => c.setFrame none).completed x (fld h 119 112) (headerReq .frame 0 0 h) (p ++ [w])) := by
  have hjoin : (s.frameBoth fun c =>
        if !c.aligned then c
        else
          match c.ports.frame with
          | some (h, p) => c.setFrame (some (h, p ++ [w]))
          | none => c.countPort 0 2) =
      s.frameBoth fun c => c.setFrame (some (h, p ++ [w])) :=
    frameBoth_congr _ _ _ fun z hz => by simp [hal z hz]
  unfold execFramePayloadWord
  exact (congrArg State.takeFrame hjoin).trans (takeFrame_completes (g := id) (fun _ => ⟨rfl, rfl, rfl, rfl⟩) hx hi hc)

end Messages

/-! ## USB (R24, R351 to R355) -/

section Usb
variable {s : State} {x : Side} {bytes : List Byte}

theorem execEp1OutTransfer_of_up (hu : s.usbUp = true) : execEp1OutTransfer bytes s = s.usbMessage bytes := by
  rw [execEp1OutTransfer, if_pos hu]

theorem usbMessage_discards (hb : transferMessage bytes = none) : s.usbMessage bytes = .next (s.countUsb 0) := by
  simp [State.usbMessage, hb]

theorem execMessage_of_length (hu : s.usbUp = true) (hlo : 16 ≤ bytes.length) (hhi : bytes.length ≤ 4096) :
    execMessage bytes s = if (transferMessage bytes).isSome then (s.countUsb 3).usbMessage bytes else s.usbMessage bytes := by
  simp [execMessage, hu, hlo, hhi]

theorem onUsb_of_up (f : Side → State) (hu : s.usbUp = true) (hx : s.arb.steer = some x) : s.onUsb f = .next (f x) := by
  simp [State.onUsb, hu, hx]

theorem execLocateExpiry_of_past {t : Nat} (hl : s.locate = some t) (ht : t ≤ s.now) :
    execLocateExpiry s = .next { s with locate := none } := by
  simp [execLocateExpiry, hl, ht]

theorem execUsbReattach_of_past {t : Nat} (hd : s.detachAt = some t) (ht : t + ms 20 ≤ s.now) :
    execUsbReattach s = .next { s with detachAt := none, attached := s.vbus, usbLink := b2n s.vbus } := by
  simp [execUsbReattach, hd, ht]

theorem execUsbVbusChange_of_ne {present : Bool} (hv : present ≠ s.vbus) :
    execUsbVbusChange present s =
      .next { s with
        vbus := present, attached := present && s.arb.steer.isSome && s.detachAt.isNone
        usbLink := b2n (present && s.arb.steer.isSome && s.detachAt.isNone) } := by
  rw [execUsbVbusChange, if_neg hv]

end Usb

/-! ## What decides authority, and one controller's turn -/

/-- What decides the ACTIVE controller and the module mode is the same in both states: the arbiter, under COMPAT the claims, and the
roles and modes of the controllers (R20, R53, R382). -/
structure State.SameAuthority (s t : State) : Prop where
  arb : t.arb = s.arb
  compat : t.compat = s.compat
  firstGrant : t.firstGrant = s.firstGrant
  isActive : ∀ z, (t.ctrl z).isActive = (s.ctrl z).isActive
  mode : ∀ z, (t.ctrl z).mode = (s.ctrl z).mode
  claim : s.compat = true → ∀ z, t.claimOf z = s.claimOf z

namespace State.SameAuthority
variable {s t u : State}

theorem refl (s : State) : s.SameAuthority s := ⟨rfl, rfl, rfl, fun _ => rfl, fun _ => rfl, fun _ _ => rfl⟩

theorem trans (h : s.SameAuthority t) (h' : t.SameAuthority u) : s.SameAuthority u where
  arb := h'.arb.trans h.arb
  compat := h'.compat.trans h.compat
  firstGrant := h'.firstGrant.trans h.firstGrant
  isActive z := (h'.isActive z).trans (h.isActive z)
  mode z := (h'.mode z).trans (h.mode z)
  claim hs z := (h'.claim (h.compat.trans hs) z).trans (h.claim hs z)

theorem emit (s : State) (o : Out) : s.SameAuthority (s.emit o) where
  arb := rfl
  compat := rfl
  firstGrant := rfl
  isActive z := by rw [State.emit_ctrl]
  mode z := by rw [State.emit_ctrl]
  claim _ z := by cases z <;> rfl

theorem holder_eq (h : s.SameAuthority t) : t.holder = s.holder := by
  unfold State.holder
  rw [h.compat, h.arb]
  cases hs : s.compat with
  | true => simp only [h.claim hs]
  | false => rfl

theorem active_eq (h : s.SameAuthority t) : t.active = s.active := by
  have ha : t.ctrlA.isActive = s.ctrlA.isActive := h.isActive .a
  have hb : t.ctrlB.isActive = s.ctrlB.isActive := h.isActive .b
  simp only [State.active, h.holder_eq, ha, hb]

theorem moduleMode_eq (h : s.SameAuthority t) (y : Side) : t.moduleMode y = s.moduleMode y := by
  simp only [State.moduleMode, h.active_eq, h.firstGrant, h.mode]

/-- A change of a controller's SPI port alone, which under COMPAT keeps the claims. -/
theorem setCtrl {x : Side} {c : Ctrl} (hc : c = { s.ctrl x with spi := c.spi })
    (hclaim : s.compat = true → c.spi.claimA = (s.ctrl x).spi.claimA ∧ c.spi.claimB = (s.ctrl x).spi.claimB) :
    s.SameAuthority (s.setCtrl x c) where
  arb := State.setCtrl_arb s x c
  compat := State.setCtrl_compat s x c
  firstGrant := State.setCtrl_firstGrant s x c
  isActive z := by rw [hc]; cases x <;> cases z <;> rfl
  mode z := by rw [hc]; cases x <;> cases z <;> rfl
  claim hs z :=
    match x, z, hclaim hs with
    | .a, .a, ⟨ha, _⟩ => congrArg (·.toNat % 256) ha
    | .b, .b, ⟨_, hb⟩ => congrArg (·.toNat % 256) hb
    | .a, .b, _ | .b, .a, _ => rfl

end State.SameAuthority

/-- What every running controller's turn keeps, all of them together keep. -/
theorem onRunning_keeps {P : State → Prop} {s : State} {f : Side → State → State} (hs : P s) (hf : ∀ z u, P u → P (f z u)) :
    P (s.onRunning f) := by
  unfold State.onRunning
  dsimp only
  split <;> split <;> simp only [hs, hf]

/-- A running controller comes out of its own turn, which finds it as it was and whatever the other's turn keeps. -/
theorem onRunning_turn {P : State → Prop} {s : State} {f : Side → State → State} {y : Side} (hs : P s)
    (hf : ∀ z u, P u → P (f z u)) (hown : ∀ z u, (f z u).ctrl z.other = u.ctrl z.other) (hy : s.runs y = true) :
    ∃ u, P u ∧ u.ctrl y = s.ctrl y ∧ (s.onRunning f).ctrl y = (f y u).ctrl y := by
  unfold State.runs at hy
  cases y with
  | a =>
    refine ⟨s, hs, rfl, ?_⟩
    simp only [State.onRunning, hy, if_true]
    split
    · exact hown .b _
    · rfl
  | b =>
    by_cases ha : ((s.ctrl .a).running && !(s.ctrl .a).inReset) = true
    · have hb : (f .a s).ctrl .b = s.ctrl .b := hown .a s
      exact ⟨f .a s, hf _ _ hs, hb, by simp only [State.onRunning, ha, hb, hy, if_true]⟩
    · exact ⟨s, hs, rfl, by simp [State.onRunning, ha, hy]⟩

/-! ## The SPI legacy port (R328 to R334) -/

section Spi
variable {s : State} {x y : Side} {cycles addr : Nat} {f : BitVec 32} {v : BitVec 16}

/-! ### What a controller takes of a frame -/

theorem spiTake_bad (h : mosiGood cycles f = false) :
    s.spiTake x cycles f =
      (s.ctrl x).modSpi fun p => { p with flags := p.flags ||| 8, bad := true, last := 0, crcErr := satAt 65535 (p.crcErr + 1) } := by
  simp [State.spiTake, h]

theorem spiTake_read (h : addr < 128) :
    s.spiTake x 32 (mosiFrame false addr v) = (s.ctrl x).modSpi fun p => { p with bad := false, last := s.spiRead x addr } := by
  obtain ⟨hwrite, haddr, _, hgood⟩ := mosi_fields false addr v h
  simp [State.spiTake, hwrite, haddr, hgood]

theorem spiTake_write (h : addr < 128) :
    s.spiTake x 32 (mosiFrame true addr v) =
      ((s.ctrl x).spiTakeWrite addr v).modSpi fun p => { p with bad := false, last := v } := by
  obtain ⟨hwrite, haddr, hvalue, hgood⟩ := mosi_fields true addr v h
  simp [State.spiTake, hwrite, haddr, hvalue, hgood]

theorem spiTakeWrite_queues {c : Ctrl} (h1 : addr ≠ 0x01) (hA : addr ≠ 0x20) (hB : addr ≠ 0x21) :
    c.spiTakeWrite addr v = c.spiQueue addr v := by
  unfold Ctrl.spiTakeWrite
  split
  · exact absurd rfl h1
  · exact absurd rfl hA
  · exact absurd rfl hB
  · rfl

theorem spiTakeWrite_spi (c : Ctrl) : c.spiTakeWrite addr v = { c with spi := (c.spiTakeWrite addr v).spi } := by
  unfold Ctrl.spiTakeWrite
  split <;> rfl

theorem spiQueue_claims (c : Ctrl) : (c.spiQueue addr v).spi.claimA = c.spi.claimA ∧ (c.spiQueue addr v).spi.claimB = c.spi.claimB := by
  simp only [Ctrl.spiQueue, Ctrl.modSpi]
  split <;> exact ⟨rfl, rfl⟩

theorem spiTakeWrite_claims {c : Ctrl} (hA : addr ≠ 0x20) (hB : addr ≠ 0x21) :
    (c.spiTakeWrite addr v).spi.claimA = c.spi.claimA ∧ (c.spiTakeWrite addr v).spi.claimB = c.spi.claimB := by
  by_cases h1 : addr = 0x01
  · subst h1
    exact ⟨rfl, rfl⟩
  · rw [spiTakeWrite_queues h1 hA hB]
    exact spiQueue_claims c

/-- The frame writes a claim number (R334). -/
def writesClaim (cycles : Nat) (f : BitVec 32) : Bool :=
  mosiGood cycles f && nbit f.toNat 31 && (nfld f.toNat 30 24 == 0x20 || nfld f.toNat 30 24 == 0x21)

theorem writesClaim_bad (h : mosiGood cycles f = false) : writesClaim cycles f = false := by simp [writesClaim, h]

theorem writesClaim_mosiFrame {write : Bool} (h : addr < 128) :
    writesClaim 32 (mosiFrame write addr v) = (write && (addr == 0x20 || addr == 0x21)) := by
  obtain ⟨hwrite, haddr, _, hgood⟩ := mosi_fields write addr v h
  simp [writesClaim, hwrite, haddr, hgood]

theorem spiTake_spi : s.spiTake x cycles f = { s.ctrl x with spi := (s.spiTake x cycles f).spi } := by
  unfold State.spiTake
  dsimp only
  split
  · rfl
  · split
    · rw [spiTakeWrite_spi]
      rfl
    · rfl

theorem spiTake_claims (h : writesClaim cycles f = false) :
    (s.spiTake x cycles f).spi.claimA = (s.ctrl x).spi.claimA ∧ (s.spiTake x cycles f).spi.claimB = (s.ctrl x).spi.claimB := by
  unfold State.spiTake
  dsimp only
  split
  case isTrue => exact ⟨rfl, rfl⟩
  case isFalse hgood =>
    split
    case isTrue hwrite =>
      simp only [Bool.not_eq_true', Bool.not_eq_false] at hgood
      simp only [writesClaim, hgood, hwrite, Bool.true_and, Bool.or_eq_false_iff, beq_eq_false_iff_ne] at h
      obtain ⟨hA, hB⟩ := h
      exact spiTakeWrite_claims hA hB
    case isFalse => exact ⟨rfl, rfl⟩

/-- A register reads alike in states of the same authority that agree on the controller. -/
theorem spiRead_congr {u : State} (h : s.SameAuthority u) (hy : u.ctrl y = s.ctrl y) : u.spiRead y addr = s.spiRead y addr := by
  unfold State.spiRead
  rw [hy, h.moduleMode_eq, h.compat, h.arb]

/-! ### A frame on the port -/

/-- The turn of a controller when a frame is shifted, where `s` was the state before it. -/
theorem spiShift_turn_keeps (hclaim : s.compat = true → writesClaim cycles f = false) (z : Side) (u : State)
    (hu : s.SameAuthority u) : s.SameAuthority (if s.spiTakes z then u.setCtrl z (u.spiTake z cycles f) else u) := by
  split
  · exact hu.trans (.setCtrl spiTake_spi fun hc => spiTake_claims (hclaim (hu.compat.symm.trans hc)))
  · exact hu

theorem spiShift_of_steered (hx : s.arb.steer = some x) (hr : s.runs x = true) (ht : s.spiTakes x = true) :
    s.spiShift cycles f = (s.emit (.miso (s.misoFrame x))).onRunning fun z u =>
      if s.spiTakes z then u.setCtrl z (u.spiTake z cycles f) else u := by
  unfold State.runs at hr
  simp only [State.spiShift, hx, hr, ht, Bool.and_self, if_true]

theorem spiFrame_of_same_holder (h : (s.spiShift cycles f).holder = s.holder) : s.spiFrame cycles f = s.spiShift cycles f := by
  rw [State.spiFrame]
  exact if_pos h

/-- A frame on the port leaves the SPI state `p` at controller `y`, and the response of controller `x` on the wire. -/
def State.SpiLeaves (s : State) (x y : Side) (o : Host.Outcome State Fault Refusal) (p : Spi) : Prop :=
  ∃ t, o = .next t ∧ (t.ctrl y).spi = p ∧ t.wire = .miso (s.misoFrame x) :: s.wire

section Steered
variable (hx : s.arb.steer = some x) (hrx : s.runs x = true) (htx : s.spiTakes x = true) (hry : s.runs y = true)
  (hty : s.spiTakes y = true)
include hx hrx htx hry hty

/-- A frame that leaves authority where it was: the steered controller answers, and a controller that runs takes the frame. -/
theorem spiFrame_leaves (hclaim : s.compat = true → writesClaim cycles f = false) {p : Spi}
    (hp : ∀ u, s.SameAuthority u → u.ctrl y = s.ctrl y → (u.spiTake y cycles f).spi = p) :
    s.SpiLeaves x y (.next (s.spiFrame cycles f)) p := by
  have hkeep := spiShift_turn_keeps (cycles := cycles) (f := f) hclaim
  have hemit : s.SameAuthority (s.emit (.miso (s.misoFrame x))) := .emit s _
  have hshift := spiShift_of_steered (cycles := cycles) (f := f) hx hrx htx
  have hsame : s.SameAuthority (s.spiShift cycles f) := by
    rw [hshift]
    exact onRunning_keeps hemit hkeep
  have hframe := spiFrame_of_same_holder hsame.holder_eq
  refine ⟨_, rfl, ?_, ?_⟩
  · obtain ⟨u, hu, huy, hturn⟩ := onRunning_turn (y := y) hemit hkeep
      (fun z u => by split <;> simp) (by simpa [State.runs] using hry)
    rw [hframe, hshift, hturn, if_pos hty, State.setCtrl_ctrl]
    exact hp u hu (huy.trans (State.emit_ctrl ..))
  · rw [hframe, hshift]
    exact onRunning_keeps (P := fun u => u.wire = .miso (s.misoFrame x) :: s.wire) rfl fun z u hu => by split <;> simp [hu]

theorem spiFrame_leaves_bad (hf : mosiGood cycles f = false) :
    let p := (s.ctrl y).spi
    s.SpiLeaves x y (.next (s.spiFrame cycles f))
      { p with flags := p.flags ||| 8, bad := true, last := 0, crcErr := satAt 65535 (p.crcErr + 1) } :=
  spiFrame_leaves hx hrx htx hry hty (fun _ => writesClaim_bad hf) fun u _ huy => by
    rw [spiTake_bad hf, huy]
    rfl

theorem spiFrame_leaves_read (ha : addr < 128) :
    s.SpiLeaves x y (.next (s.spiFrame 32 (mosiFrame false addr v)))
      { (s.ctrl y).spi with bad := false, last := s.spiRead y addr } :=
  spiFrame_leaves hx hrx htx hry hty (fun _ => writesClaim_mosiFrame ha) fun u hu huy => by
    rw [spiTake_read ha, spiRead_congr hu huy, huy]
    rfl

theorem spiFrame_leaves_write (ha : addr < 128) (hclaim : s.compat = true → addr ≠ 0x20 ∧ addr ≠ 0x21) :
    s.SpiLeaves x y (.next (s.spiFrame 32 (mosiFrame true addr v)))
      { ((s.ctrl y).spiTakeWrite addr v).spi with bad := false, last := v } := by
  refine spiFrame_leaves hx hrx htx hry hty (fun hc => ?_) fun u _ huy => ?_
  · rw [writesClaim_mosiFrame ha]
    simpa using hclaim hc
  · rw [spiTake_write ha, huy]
    rfl

theorem spiFrame_leaves_queued (ha : addr < 128) (h1 : addr ≠ 0x01) (hA : addr ≠ 0x20) (hB : addr ≠ 0x21) :
    s.SpiLeaves x y (.next (s.spiFrame 32 (mosiFrame true addr v)))
      { ((s.ctrl y).spiQueue addr v).spi with bad := false, last := v } := by
  rw [← spiTakeWrite_queues h1 hA hB]
  exact spiFrame_leaves_write hx hrx htx hry hty ha fun _ => ⟨hA, hB⟩

end Steered

/-! ### A claim that prevails (R382) -/

theorem spiShift_compat : (s.spiShift cycles f).compat = s.compat :=
  congrArg (fun k : Framed => k.1.1.2.2.1) (State_spiShift_core s cycles f)

theorem spiFrame_takes_over (hc : s.compat = true) (hne : (s.spiShift cycles f).holder ≠ s.holder)
    (hy : (s.spiShift cycles f).holder = some y) (hm : (s.spiShift cycles f).resteer.mayTake y = true) :
    s.spiFrame cycles f = (s.spiShift cycles f).resteer.takeOver y := by
  have hc' : (s.spiShift cycles f).compat = true := spiShift_compat.trans hc
  rw [State.spiFrame]
  refine (if_neg hne).trans ?_
  simp [State.followClaims, hc', hy, hm]

/-! ### The commit of a queued write (R332, R333, R338) -/

/-- The write has left the queues of both controllers. -/
def State.spiDequeued (s : State) (r : SpiWrite) : State :=
  (s.modCtrl .a fun c => c.spiDone r).modCtrl .b fun c => c.spiDone r

theorem spiDequeued_eq (s : State) (r : SpiWrite) :
    s.spiDequeued r = (s.modCtrl .a fun c => c.spiDone r).modCtrl .b fun c => c.spiDone r := rfl

section Commit
variable {r : SpiWrite} {rest : List SpiWrite} (hx : s.active = some x) (hq : (s.ctrl x).spi.queue = r :: rest)
  (hc : (s.ctrl x).commitsOp 0x11 = true) (hst : s.stale x = false)
include hx hq hc hst

theorem execSpiWriteCommit_commits
    (hdef : (s.spiDequeued r).spiStatus x r = stOk → (s.spiDequeued r).spiUndefined x r = none) :
    execSpiWriteCommit s = .next ((s.spiDequeued r).spiCommitNow x r) := by
  simp only [execSpiWriteCommit, hx, hq, hc, hst, Bool.not_true, Bool.false_eq_true, if_false, ← spiDequeued_eq]
  by_cases hok : (s.spiDequeued r).spiStatus x r = stOk
  · simp only [hok, if_true, hdef hok]
  · simp only [hok, if_false]

theorem execSpiWriteCommit_undefined {e : Fault} (hok : (s.spiDequeued r).spiStatus x r = stOk)
    (he : (s.spiDequeued r).spiUndefined x r = some e) : execSpiWriteCommit s = .fault e := by
  simp only [execSpiWriteCommit, hx, hq, hc, hst, Bool.not_true, Bool.false_eq_true, if_false, ← spiDequeued_eq, hok, if_true, he]

end Commit

end Spi

/-! ## The obligations of chapter 01 -/

/-- Settles O20: each port's path leads the message to `State.receive`, where an intact one is the request it spells. -/
theorem intactMessagesRun : Obligations.IntactMessagesRun := by
  intro s x y ip udp h p
  refine ⟨execRelayedMessage_completes, ?datagram, ?fragment, ?transfer, ?vendor, execFrameHeaderWord_completes,
    fun _ => execFramePayloadWord_completes⟩
  case datagram =>
    intro bytes hu hs hb hi hc
    exact (if_pos hu).trans (datagram_completes hs hb hi hc)
  case fragment =>
    intro bytes ident hu hs hb hr hpos hlen hi hc
    exact (execIpv4Fragment_only hu hr hpos hlen).trans (datagram_completes hs hb hi hc)
  case transfer =>
    intro bytes hu hb hi hc
    exact (execEp1OutTransfer_of_up hu).trans (usbMessage_completes hb hi hc)
  case vendor =>
    intro bytes hu hlo hhi hb hi hc
    refine (execMessage_of_length hu hlo hhi).trans ?_
    rw [hb]
    exact usbMessage_completes hb hi hc

/-- Settles O23, a branch of the USB commands for each clause. -/
theorem usbCommandsRun : Obligations.UsbCommandsRun := by
  intro s x bytes
  refine ⟨?transfer, ?message, fun hu => congrArg _ (if_pos hu), ?vendor, fun _ => execLocateExpiry_of_past,
    fun ha => congrArg _ (if_pos ha), fun hu => congrArg _ (if_pos hu), ?resume, fun _ => execUsbReattach_of_past, ?vbusOff, ?vbusOn,
    ?detached⟩
  case transfer =>
    intro hu hb
    exact (execEp1OutTransfer_of_up hu).trans (usbMessage_discards hb)
  case message =>
    intro hu hb hlo hhi
    refine (execMessage_of_length hu hlo hhi).trans ?_
    rw [hb]
    exact usbMessage_discards hb
  case vendor =>
    intro hu hx
    refine ⟨onUsb_of_up _ hu hx, onUsb_of_up _ hu hx, onUsb_of_up _ hu hx, fun n hlo hhi => ?_, fun n hn => ?_⟩
    · refine (onUsb_of_up _ hu hx).trans ?_
      rw [if_neg (by omega), if_pos hhi]
    · refine (onUsb_of_up _ hu hx).trans ?_
      rw [if_neg (by omega), if_neg (by omega)]
  case resume =>
    intro ha hl
    exact congrArg _ (if_pos (by simp [ha, hl]))
  case vbusOff =>
    intro hv
    exact execUsbVbusChange_of_ne (by simp [hv])
  case vbusOn =>
    intro hv hx hd
    refine (execUsbVbusChange_of_ne (by simp [hv])).trans ?_
    simp [hx, hd, b2n]
  case detached =>
    intro hv hd
    refine (execUsbVbusChange_of_ne (by simp [hv])).trans ?_
    simp [Option.isNone_eq_false_iff.mpr (Option.isSome_iff_ne_none.mpr hd), b2n]

/-- Settles O24: a frame that is no claim under COMPAT leaves authority where it was, so each controller takes it as it stood before
the frame; a claim that reverses the holder takes over; and a commit is `State.spiCommitNow` unless its case is undefined. -/
theorem spiCommandsRun : Obligations.SpiCommandsRun := by
  refine ⟨?frames, ?claims, ?commit⟩
  case frames =>
    intro s x y v hx hrx htx hry hty
    have hbad := fun n f => spiFrame_leaves_bad (cycles := n) (f := f) hx hrx htx hry hty
    have hwrite := fun addr => spiFrame_leaves_write (addr := addr) (v := v) hx hrx htx hry hty
    have hqueue := fun addr => spiFrame_leaves_queued (addr := addr) (v := v) hx hrx htx hry hty
    exact ⟨hbad 0 0 (by decide), hbad, fun _ => spiFrame_leaves_read hx hrx htx hry hty,
      hqueue 0x03 (by decide) (by decide) (by decide) (by decide),
      fun addr ha h1 hA hB => ⟨hqueue addr ha h1 hA hB, hqueue addr ha h1 hA hB⟩,
      hwrite 0x01 (by decide) fun _ => by decide,
      fun hc => ⟨hwrite 0x20 (by decide) (by simp [hc]), hwrite 0x21 (by decide) (by simp [hc])⟩⟩
  case claims =>
    intro s y v hc u
    exact ⟨fun h => congrArg _ (spiFrame_of_same_holder h), fun hne hy hm => congrArg _ (spiFrame_takes_over hc hne hy hm)⟩
  case commit =>
    intro s x
    exact ⟨fun _ _ => execSpiWriteCommit_commits,
      fun _ _ _ hx hq hc hst hok he => execSpiWriteCommit_undefined hx hq hc hst hok he⟩

end Sys2Proof.Machine
end

section
/-! The statements of chapter 02: requests accepted and refused at their commit, placement and KEEP groups, the pod links, FSK
exchanges, and sleep and wake. -/

namespace Sys2Proof.Machine

/-! ## Reads after the updates of the state

What a read gives after the update of the same place, and what the mirrored data set leaves at the ACTIVE controller (R373). -/

@[simp] theorem State.setLoop_loop (s : State) (ch : Nat) (l : LoopCh) : (s.setLoop ch l).loop ch = l := tget_tset_self ..

@[simp] theorem State.setPod_pod (s : State) (link : Nat) (p : Pod) : (s.setPod link p).pod link = p := tget_tset_self ..

@[simp] theorem draw_ctrl (s : State) (y : Side) : s.draw.2.ctrl y = s.ctrl y := by cases y <;> rfl

theorem onActive_of_active {s : State} {x : Side} (hx : s.active = some x) (f : Side → Ctrl → State) :
    s.onActive f = f x (s.ctrl x) := by
  rw [State.onActive, hx]

/-- What each turn of a walk through a list keeps, the walk keeps. -/
theorem foldl_keeps {α β γ : Type} (m : β → γ) {g : β → α → β} (h : ∀ b a, m (g b a) = m b) (l : List α) (b : β) :
    m (l.foldl g b) = m b := by
  induction l generalizing b with
  | nil => rfl
  | cons a l ih => exact (ih (g b a)).trans (h b a)

@[simp] theorem syncTags_ctrl (s : State) (x : Side) : (s.syncTags x).ctrl x = s.ctrl x := by
  unfold State.syncTags
  split
  · exact State.modCtrl_other_ctrl ..
  · rfl

@[simp] theorem syncDuty_ctrl (s : State) (x : Side) (n : Nat) : (s.syncDuty x n).ctrl x = s.ctrl x := by
  unfold State.syncDuty
  split
  · exact State.modCtrl_other_ctrl ..
  · rfl

@[simp] theorem syncImage_ctrl (s : State) (x : Side) : (s.syncImage x).ctrl x = s.ctrl x := by
  unfold State.syncImage
  split
  · exact State.modCtrl_other_ctrl ..
  · rfl

@[simp] theorem syncDuties_ctrl (s : State) (x : Side) (ns : List Nat) : (s.syncDuties x ns).ctrl x = s.ctrl x :=
  foldl_keeps (fun u : State => u.ctrl x) (fun u n => syncDuty_ctrl u x n) ns s

theorem journal_ctrl (s : State) (x : Side) (op session tag kind seq status port digest : Nat) :
    (s.journal x op session tag kind seq status port digest).ctrl x = { s.ctrl x with
      logl := (s.ctrl x).logl.put
        (logWord (s.ctrl x).logl.next op session tag kind seq status port x (s.ctrl x).logl.isVolatile digest) } := by
  unfold State.journal
  dsimp only
  split <;> simp

/-- An entry of a request leaves the module mode. -/
theorem journalReq_mode (s : State) (x : Side) (q : Req) (op kind status digest : Nat) :
    ((s.journalReq x q op kind status digest).ctrl x).mode = (s.ctrl x).mode := by
  simp [State.journalReq, journal_ctrl, Ctrl.setSession]

/-! ## Requests at their commit (R49, R63, R291) -/

/-- A row of the table that stands for a request sends that request. -/
theorem exec_of_requestOf {i : Instr} {s : State} {op : Nat} {q : Req} {p : List Word} (h : requestOf i = some (op, q, p)) :
    exec i s = s.request op q p := by
  unfold requestOf at h
  split at h <;> cases h <;> rfl

/-- Only COMMISSION and MAINTAIN allow a WDOG_KEY, whatever the controller holds (R62). -/
theorem modeStatus_wdogKey (m : Mode) (p : List Word) (c : Ctrl) :
    modeStatus m 0x55 p c = if [Mode.commission, .maintain].contains m then stOk else stModeForbids := rfl

section Refusals
variable {s u : State} {x : Side} {op : Nat} {q : Req} {p : List Word} {st : Nat}

/-- An admitted request before which nothing waits commits at once. -/
theorem request_commits (h : s.admits x op q p = true) (hj : journalled op p = true)
    (hw : ((s.entered x op q p).ctrl x).waiting = []) (hc : ((s.entered x op q p).ctrl x).commitsOp op = true) :
    s.request op q p = (s.entered x op q p).commit x op q p := by
  have hadm : ((s.heard x).ctrl x).admission op q p = .admitted := by
    simp only [State.admits, Bool.and_eq_true, beq_iff_eq] at h
    obtain ⟨_, hadm⟩ := h
    exact hadm
  obtain ⟨_, _, _, hwait, hcommits⟩ := ((s.heard x).ctrl x).enter_frame op q p
  rw [State.entered, State.setCtrl_ctrl] at hw hc
  rw [hwait] at hw
  rw [hcommits] at hc
  rw [request_admits h]
  simp only [State.admitMessage, hadm, hj, hw, hc, List.isEmpty_nil, Bool.and_self, if_true]
  rfl

theorem not_stale_of_admits (h : s.admits x op q p = true) : (s.entered x op q p).stale x = false := by
  refine entered_stale ?_
  simp only [State.admits, Bool.and_eq_true, Bool.not_eq_true'] at h
  obtain ⟨⟨⟨_, hstale⟩, _⟩, _⟩ := h
  exact hstale

/-- A commit whose status is not OK goes on to its refusal, whatever its case. -/
theorem commit_of_status (hs : u.stale x = false) (hst : u.commitStatus x op q p ≠ stOk) :
    u.commit x op q p = .next (u.commitNow x op q p) := by
  simp [State.commit, hs, hst]

theorem refuseMessage_of_mode (hkey : op = 0x55 → modeStatus (u.ctrl x).mode op p (u.ctrl x) ≠ stOk) :
    u.refuseMessage x op q p st = u.modCtrl x fun c => c.finish q.tag st [] := by
  unfold State.refuseMessage
  dsimp only
  rw [if_neg]
  rintro ⟨hop, hmode⟩
  exact hkey hop (bne_eq_false_iff_eq.mp hmode)

/-- A refused message leaves its entry and its reply; a WDOG_KEY leaves no more only if its mode forbids it (R438). -/
theorem commitNow_of_status (hst : u.commitStatus x op q p = st) (hne : st ≠ stOk)
    (hkey : op = 0x55 → modeStatus (u.ctrl x).mode op p (u.ctrl x) ≠ stOk) :
    u.commitNow x op q p = (((u.journalReq x q op 0 st q.crc).modCtrl x fun c =>
      c.modFlight q.tag fun f => { f with committed := true }).modCtrl x fun c => c.finish q.tag st []).syncTags x := by
  unfold State.commitNow
  dsimp only
  rw [hst, if_neg hne, refuseMessage_of_mode]
  intro hop
  have hmode : ((u.journalReq x q op 0 st q.crc).ctrl x |>.modFlight q.tag fun f => { f with committed := true }).mode =
      (u.ctrl x).mode := journalReq_mode ..
  have hkey := hkey hop
  subst hop
  rw [modeStatus_wdogKey] at hkey
  rw [State.modCtrl_ctrl, modeStatus_wdogKey]
  rwa [hmode]

theorem execLoglineCommit_commits {rest : List (Nat × Req × List Word)} (hx : s.active = some x)
    (hw : (s.ctrl x).waiting = (op, q, p) :: rest) (hc : (s.ctrl x).commitsOp op = true) :
    execLoglineCommit s = (s.setCtrl x { s.ctrl x with waiting := rest }).commit x op q p := by
  simp [execLoglineCommit, hx, hw, hc]

end Refusals

section Accepted
variable {s : State} {x : Side} {op : Nat} {q : Req} {p : List Word}

/-- An accepted message that is not answered at End, with the effect `r` of its opcode. -/
theorem request_settled {r : State × Option (List Word)} (h : s.accepts x op q p = true) (he : endOp op p = false)
    (hr : (s.begun x op q p).effect x op q p (((s.entered x op q p).ctrl x).session q.session).lastEntry = r) :
    s.request op q p = .next (State.settled r x q) := by
  rw [request_accepts h, settled_carry _ _ _ _ _ _ _ hr he]

/-- An accepted message whose effect `t` forms its reply. -/
theorem request_replied {t : State} {ws : List Word} (h : s.accepts x op q p = true) (he : endOp op p = false)
    (hr : (s.begun x op q p).effect x op q p (((s.entered x op q p).ctrl x).session q.session).lastEntry = (t, some ws)) :
    s.request op q p = .next (t.replied x q stOk ws) :=
  request_settled h he hr

/-- An accepted message whose effect `t` leaves its reply to a later event. -/
theorem request_deferred {t : State} (h : s.accepts x op q p = true)
    (hr : (s.begun x op q p).effect x op q p (((s.entered x op q p).ctrl x).session q.session).lastEntry = (t, none)) :
    s.request op q p = .next (t.syncTags x) := by
  rw [request_accepts h, State.carryOut, hr]

end Accepted

/-! ## Placement, stored duties, the end of CALIBRATE and KEEP groups -/

section Placement
variable {s : State} {x : Side} {duty : Nat}

theorem execRebalance_runs (hx : s.active = some x) (hm : rebalances (s.ctrl x).mode = true) :
    ∃ t, execRebalance s = .next t ∧ (t.ctrl x).sched.rebalances = ((s.ctrl x).sched.rebalances + 1) % 4294967296 ∧
      (t.ctrl x).sched.lastRebal = mtime32 s (s.ctrl x) ∧ (t.ctrl x).sched.movedLast = 0 ∧
      (t.ctrl x).duties = (s.ctrl x).duties := by
  refine ⟨_, rfl, ?_⟩
  rw [onActive_of_active hx, if_pos hm, State.setCtrl_ctrl]
  exact ⟨rfl, rfl, rfl, rfl⟩

theorem execShadowPlacement_standby (h : s.isStandby x = true) :
    execShadowPlacement x s = .next (s.modCtrl x fun c => { c with sched := { c.sched with shadow := c.shadowOf } }) :=
  if_pos h

/-- The next firing of a duty moves no placement: it is entered in the queue of the cluster where the duty stands. -/
theorem nextFiring_sched (c : Ctrl) (n : Nat) :
    ∃ queues meas, (c.nextFiring n).sched = { c.sched with queues, meas } := by
  unfold Ctrl.nextFiring
  dsimp only
  split
  · split
    · exact ⟨_, _, rfl⟩
    · exact ⟨_, _, rfl⟩
  · exact ⟨_, _, rfl⟩

theorem runDeferred_nil {c : Ctrl} {n : Nat} (h : (c.sched.deferred.all fun m => fld (wordAt m.2.2 0) 127 116 != n) = true) :
    Ctrl.runDeferred s c n = c := by
  have hmine : (c.sched.deferred.filter fun m => fld (wordAt m.2.2 0) 127 116 == n) = [] := by
    rw [List.filter_eq_nil_iff]
    intro m hm
    simpa using List.all_eq_true.mp h m hm
  have hrest : (c.sched.deferred.filter fun m => fld (wordAt m.2.2 0) 127 116 != n) = c.sched.deferred :=
    List.filter_eq_self.mpr (List.all_eq_true.mp h)
  simp only [Ctrl.runDeferred, hmine, hrest, List.foldl_nil]

/-- A copy for which nothing is put off ends with its switch, and the duty's next firing. -/
theorem finishCopy_sched {c : Ctrl} {n k : Nat} (hk : tget 0 c.sched.migrating n = k + 1)
    (hd : (c.sched.deferred.all fun m => fld (wordAt m.2.2 0) 127 116 != n) = true) :
    ∃ queues meas, (s.finishCopy c n).sched = { (c.switchPlace n k).sched with queues, meas } := by
  unfold State.finishCopy
  dsimp only
  rw [if_neg (by omega), hk, Nat.add_sub_cancel]
  split
  · have hswitch : ((c.switchPlace n k).sched.deferred.all fun m => fld (wordAt m.2.2 0) 127 116 != n) = true := hd
    rw [runDeferred_nil hswitch]
    exact ⟨_, _, rfl⟩
  · obtain ⟨queues, meas, hnext⟩ := nextFiring_sched (c.switchPlace n k) n
    rw [runDeferred_nil (by rw [hnext]; exact hd), hnext]
    exact ⟨_, _, rfl⟩

theorem execMigrationSwitch_switches {k : Nat} (hx : s.active = some x) (hk : tget 0 (s.ctrl x).sched.migrating duty = k + 1)
    (hd : ((s.ctrl x).sched.deferred.all fun m => fld (wordAt m.2.2 0) 127 116 != duty) = true) :
    ∃ t, execMigrationSwitch duty s = .next t ∧ ((t.ctrl x).place duty).cluster = k ∧
      ((t.ctrl x).place duty).moves = ((s.ctrl x).place duty).moves + 1 ∧
      ((t.ctrl x).place duty).lastMove = (s.ctrl x).sched.rebalances ∧
      (t.ctrl x).sched.movedLast = (s.ctrl x).sched.movedLast + 1 ∧ tget 0 (t.ctrl x).sched.migrating duty = 0 := by
  refine ⟨_, rfl, ?_⟩
  rw [onActive_of_active hx, if_neg (by omega), syncTags_ctrl, syncDuty_ctrl, State.setCtrl_ctrl]
  obtain ⟨queues, meas, hsched⟩ := finishCopy_sched (s := s) hk hd
  simp only [Ctrl.place, hsched, Ctrl.switchPlace, tget_tset_self, and_self]

theorem execDutyStoreWriteDone_pending {r : Nat × List Word} (h : (s.ctrl x).storing.find? (fun r => r.1 == duty) = some r) :
    execDutyStoreWriteDone x duty s = .next (s.setCtrl x
      { s.ctrl x with storing := (s.ctrl x).storing.erase r, store := tset [] (s.ctrl x).store duty r.2 }) := by
  simp only [execDutyStoreWriteDone, h]

section Calibrate
variable (hx : s.active = some x) (hm : (s.ctrl x).mode = .calibrate) (ho : s.calOver (s.ctrl x) = true)
include hx hm ho

theorem execCalibrateEnd_escalated (he : (s.ctrl x).escPending = true) :
    execCalibrateEnd s = .next (s.leaveCalibrate x .safeHold 1) := by
  simp [execCalibrateEnd, onActive_of_active hx, State.endCalibrate, hm, ho, he]

theorem execCalibrateEnd_starts (he : (s.ctrl x).escPending = false) (hf : (s.ctrl x).faults.episode.isOpen = false) :
    execCalibrateEnd s = .next (s.leaveCalibrate x (if s.safeBoot then .maintain else (s.ctrl x).startMode) 2) := by
  simp [execCalibrateEnd, onActive_of_active hx, State.endCalibrate, hm, ho, he, hf]

end Calibrate

/-- The group at the head of the KEEP queue has ended: its words are written and the next one may begin (R461). -/
def State.groupWritten (s : State) (x : Side) (g : KeepGroup) (rest : List KeepGroup) : State :=
  s.modCtrl x fun c => { c.writeGroup g.words with groups := beginGroup s.powerFail rest }

section KeepGroups
variable {g : KeepGroup} {rest : List KeepGroup} (hg : (s.ctrl x).groups = g :: rest) (hb : g.begun = true)
include hg hb

theorem execKeepGroupEnd_untagged (ht : g.tag = none) : execKeepGroupEnd x s = .next (s.groupWritten x g rest) := by
  simp only [execKeepGroupEnd, hg, hb, ht, Option.bind_none, Bool.not_true, Bool.false_eq_true, if_false]
  rfl

variable {t : Nat} {f : Flight} (ht : g.tag = some t) (hf : ((s.groupWritten x g rest).ctrl x).flight t = some f)
  (ha : ((s.groupWritten x g rest).ctrl x).isActive = true)
include ht hf ha

theorem execKeepGroupEnd_completes (he : endOp f.op f.payload = true) :
    execKeepGroupEnd x s = .next ((s.groupWritten x g rest).complete x f.req.tag stOk g.reply) := by
  rw [State.groupWritten] at hf ha
  simp only [execKeepGroupEnd, hg, hb, ht, hf, ha, he, Option.bind_some, Bool.not_true, Bool.false_eq_true, if_false, if_true]
  rfl

theorem execKeepGroupEnd_answers (he : endOp f.op f.payload = false) :
    execKeepGroupEnd x s =
      .next (((s.groupWritten x g rest).modCtrl x fun c => c.finish f.req.tag stOk g.reply).syncTags x) := by
  rw [State.groupWritten] at hf ha
  simp only [execKeepGroupEnd, hg, hb, ht, hf, ha, he, Option.bind_some, Bool.not_true, Bool.false_eq_true, if_false]
  rfl

end KeepGroups
end Placement

/-! ## Frames on the pod links (R50, R262, R264, R270, R272, R277) -/

section Links
variable {s : State} {x : Side} {link : Nat} {f : UpFrame}

/-- The slot of a digital frame is taken from the field side alone. -/
theorem digSlot_ctrls (s : State) (link : Nat) : (s.digSlot link).2.ctrlA = s.ctrlA ∧ (s.digSlot link).2.ctrlB = s.ctrlB := by
  unfold State.digSlot
  split <;> exact ⟨rfl, rfl⟩

theorem digPayload_ctrls (s : State) (link : Nat) :
    (s.digPayload link).2.ctrlA = s.ctrlA ∧ (s.digPayload link).2.ctrlB = s.ctrlB :=
  digSlot_ctrls s.draw.2 link

theorem loopPayload_ctrls (s : State) (link : Nat) :
    (s.loopPayload link).2.ctrlA = s.ctrlA ∧ (s.loopPayload link).2.ctrlB = s.ctrlB := ⟨rfl, rfl⟩

theorem frameBoundary_not_windowed (h : link ≠ ((s.takeModeNext x false).ctrl x).window) :
    s.frameBoundary x link = s.takeModeNext x false := by
  rw [State.frameBoundary]
  exact if_neg h

theorem execDownlinkFrame_reset (hr : (s.ctrl x).inReset = true) : execDownlinkFrame x link s = .next s :=
  if_pos (.inr hr)

theorem execPodUplinkSend_powered (hl : link < 96) (hp : (s.pod link).powered = true) :
    ∃ t, execPodUplinkSend link s = .next t ∧ (t.pod link).upSeq = ((s.pod link).upSeq + 1) % 4096 ∧ t.ctrlA = s.ctrlA ∧
      t.ctrlB = s.ctrlB := by
  have hsends : ¬(!(s.pod link).powered || decide (96 ≤ link)) = true := by simp [hp, hl]
  have hpayload (w : Word × State) (hw : w = if link < 64 then s.digPayload link else s.loopPayload link) :
      w.2.ctrlA = s.ctrlA ∧ w.2.ctrlB = s.ctrlB := by
    subst hw
    split
    · exact digPayload_ctrls s link
    · exact loopPayload_ctrls s link
  unfold execPodUplinkSend
  dsimp only
  rw [if_neg hsends]
  exact ⟨_, rfl, congrArg Pod.upSeq (State.setPod_pod ..), hpayload _ rfl⟩

/-- A link of the module and a controller that is not in reset (R259, R262). -/
theorem link_in_use (hl : link < 96) (hr : (s.ctrl x).inReset = false) : ¬(96 ≤ link ∨ (s.ctrl x).inReset = true) := by
  simp [hl, hr]

theorem execDownlinkFrame_running (hl : link < 96) (hr : (s.ctrl x).inReset = false) :
    execDownlinkFrame x link s = .next ((if (s.ctrl x).isActive then s.frameBoundary x link else s).sendDown x link) :=
  if_neg (link_in_use hl hr)

theorem execUplinkBadFrame_running (hl : link < 96) (hr : (s.ctrl x).inReset = false) :
    execUplinkBadFrame x link s = .next (s.upState x link ((s.ctrl x).uplink link).rx.takeBad true) :=
  if_neg (link_in_use hl hr)

/-- The state after a good frame: its instants are noted, and its receive state is counted. -/
def State.upGood (s : State) (x : Side) (f : UpFrame) : State :=
  let up := (s.ctrl x).uplink f.link
  (s.setCtrl x ((s.ctrl x).setUp f.link { up with lastGood := mtime32 s (s.ctrl x), lastAt := s.now })).upState x f.link
    (up.rx.takeGood f.seq).1 false

section Uplink
variable (hl : f.link < 96) (hr : (s.ctrl x).inReset = false)
include hl hr

theorem execUplinkFrame_undefined (ht : uhType f ≠ b2n (decide (64 ≤ f.link))) :
    execUplinkFrame x f s = .next (s.upState x f.link ((s.ctrl x).uplink f.link).rx.takeBad true) := by
  unfold execUplinkFrame
  dsimp only
  rw [if_neg (link_in_use hl hr), if_pos ht]

variable (ht : uhType f = b2n (decide (64 ≤ f.link)))
include ht

theorem execUplinkFrame_used (hu : (((s.ctrl x).uplink f.link).rx.takeGood f.seq).2 = true) :
    execUplinkFrame x f s = .next ((s.upGood x f).upUse x f) := by
  unfold execUplinkFrame
  dsimp only
  rw [if_neg (link_in_use hl hr), if_neg (not_not.mpr ht), hu]
  rfl

variable (hu : (((s.ctrl x).uplink f.link).rx.takeGood f.seq).2 = false)
include hu

theorem execUplinkFrame_out_of_sequence (hst : ((s.ctrl x).uplink f.link).rx.st ≠ .hunt) :
    execUplinkFrame x f s = .next (s.upState x f.link (((s.ctrl x).uplink f.link).rx.takeGood f.seq).1 true) := by
  unfold execUplinkFrame
  dsimp only
  rw [if_neg (link_in_use hl hr), if_neg (not_not.mpr ht), hu, beq_eq_false_iff_ne.mpr hst, if_neg (not_and_of_not_left _ hst)]
  rfl

variable (hst : ((s.ctrl x).uplink f.link).rx.st = .hunt)
include hst

theorem execUplinkFrame_hunts (hn : (((s.ctrl x).uplink f.link).rx.takeGood f.seq).1.st ≠ .good) :
    execUplinkFrame x f s = .next (s.upGood x f) := by
  unfold execUplinkFrame
  dsimp only
  rw [if_neg (link_in_use hl hr), if_neg (not_not.mpr ht), hu, hst, if_neg (not_and_of_not_right _ hn)]
  rfl

theorem execUplinkFrame_ends_hunt (hn : (((s.ctrl x).uplink f.link).rx.takeGood f.seq).1.st = .good) :
    let v := (s.upGood x f).linkEvent x f.link
    execUplinkFrame x f s =
      .next (if (v.ctrl x).isActive = true ∧ v.holder = some x then v.startPod x f.link else v) := by
  unfold execUplinkFrame
  dsimp only
  rw [if_neg (link_in_use hl hr), if_neg (not_not.mpr ht), hu, hst, if_pos (And.intro (rfl : RxState.hunt = .hunt) hn)]
  simp only [Bool.and_eq_true, beq_iff_eq]
  rfl

end Uplink

end Links

/-! ## FSK exchanges (R223 to R227) -/

section Fsk
variable {s : State} {x : Side} {ch : Nat} {j : FskJob} {js : List FskJob} {bytes : List Byte} {gapsOk : Bool}

theorem setLoop_active (l : LoopCh) : (s.setLoop ch l).active = s.active := rfl

theorem regulate_sending (m : Mode) (alm now : Nat) (l : LoopCh) : (l.regulate m alm now).sending = l.sending := by
  unfold LoopCh.regulate
  dsimp only
  split <;> rfl

theorem fskSound_of_parity : fskSound bytes false gapsOk = false := rfl

variable (hx : s.active = some x) (hq : tget [] (s.ctrl x).fsk ch = j :: js)
include hx hq

theorem execFskTransmitStart_queued (hl : isLoop ch = true) (hj : j.phase = 0) (hs : (s.ctrl x).fskStill ch = false) :
    ∃ t, execFskTransmitStart ch s = .next t ∧
      tget [] (t.ctrl x).fsk ch = { j with phase := 1, tries := j.tries + 1, last := [] } :: js := by
  refine ⟨_, rfl, ?_⟩
  rw [onActive_of_active hx]
  simp only [hq, hj, hl, hs, and_self, if_true, State.setCtrl_ctrl, Ctrl.setFsk, tget_tset_self]

theorem execFskTransmitEnd_still (hj : j.phase = 1) (hs : (s.loop ch).sending = false) :
    execFskTransmitEnd ch s = .next (s.setCtrl x ((s.ctrl x).setFsk ch ({ j with phase := 2, endAt := s.now } :: js))) := by
  simp only [execFskTransmitEnd, hs, Bool.and_false, Bool.false_eq_true, if_false, onActive_of_active hx, hq, hj, if_true]

/-- A modem that still sends stops, whatever its source then follows (R66). -/
theorem execFskTransmitEnd_sending (hl : isLoop ch = true) (hj : j.phase = 1) (hs : (s.loop ch).sending = true) :
    ∃ t, execFskTransmitEnd ch s = .next t ∧ (t.loop ch).sending = false ∧
      tget [] (t.ctrl x).fsk ch = { j with phase := 2, endAt := s.now } :: js := by
  refine ⟨_, rfl, ?_⟩
  rw [hl, hs, Bool.and_self, if_pos rfl, onActive_of_active ((setLoop_active _).trans hx)]
  simp only [State.setLoop_ctrl, hq, hj, if_true]
  constructor
  · rw [State.loop, State.setCtrl_loops, ← State.loop, State.setLoop_loop, regulate_sending]
  · simp only [State.setCtrl_ctrl, Ctrl.setFsk, tget_tset_self]

theorem execFskReplyTimeout_late (hj : j.phase = 2) (ht : j.endAt + ms 300 ≤ s.now) :
    execFskReplyTimeout ch s = .next (s.fskFailed x ch j js 1 [] (mtimeAgo s (s.ctrl x) j.endAt)) := by
  simp only [execFskReplyTimeout, onActive_of_active hx, hq, hj, ht, and_self, if_true]

theorem execFskFrameReceived_reply (hl : isLoop ch = true) (ha : fskActs (s.ctrl x).mode ((s.ctrl x).loopCfg ch) = true)
    (hj : j.phase = 2) (ho : fskOther bytes = none) (hg : fskGood j bytes = true) (hs : fskSound bytes true true = true) :
    execFskFrameReceived ch bytes true true s =
      .next (((s.fskTime (s.ctrl x) ch).2.modCtrl x fun c => c.setFsk ch js).fskOutcome x ch j 0 bytes
        (s.fskTime (s.ctrl x) ch).1) := by
  simp only [execFskFrameReceived, onActive_of_active hx, hl, ha, hs, ho, hq, hj, hg, Bool.not_true, Bool.or_self,
    Bool.false_eq_true, if_false, if_true, Bool.and_self]

theorem execFskFrameReceived_parity (hl : isLoop ch = true) (ha : fskActs (s.ctrl x).mode ((s.ctrl x).loopCfg ch) = true)
    (hj : j.phase = 2) :
    execFskFrameReceived ch bytes false gapsOk s =
      .next ((s.fskTime (s.ctrl x) ch).2.fskFailed x ch j js 2 bytes (s.fskTime (s.ctrl x) ch).1) := by
  simp only [execFskFrameReceived, onActive_of_active hx, hl, ha, fskSound_of_parity, hq, hj, Bool.not_true, Bool.or_self,
    Bool.false_eq_true, if_false, if_true, Bool.false_and]

end Fsk

/-! ## The module mode that a controller holds (R34) -/

section CtrlMode
variable (s : State) (c : Ctrl)

theorem tell_mode (i op : Nat) (ws : List Word) : (c.tell i op ws).mode = c.mode := by
  unfold Ctrl.tell
  dsimp only
  split <;> rfl

theorem eventAll_mode (code subject : Nat) (ws : List Word) : (s.eventAll c code subject ws).mode = c.mode := rfl

theorem eventTo_mode (i code subject : Nat) (ws : List Word) : (s.eventTo c i code subject ws).mode = c.mode :=
  tell_mode ..

theorem modDuty_mode (n : Nat) (f : Duty → Duty) : (c.modDuty n f).mode = c.mode := rfl

theorem nextFiring_mode (n : Nat) : (c.nextFiring n).mode = c.mode := by
  unfold Ctrl.nextFiring
  dsimp only
  split
  · split <;> rfl
  · rfl

theorem removeExecs_mode (n : Nat) : (c.removeExecs n).mode = c.mode := rfl

theorem deliver_mode (e : Exec) (late : Bool) : (s.deliver c e late).mode = c.mode :=
  foldl_keeps Ctrl.mode (fun _ _ => eventTo_mode ..) _ c

theorem cutDuty_mode (n : Nat) : (s.cutDuty c n).mode = c.mode := by
  rw [State.cutDuty, removeExecs_mode, foldl_keeps Ctrl.mode fun d e => ?_]
  exact deliver_mode ..

theorem giveSlot_mode (n : Nat) : (c.giveSlot n).mode = c.mode := by
  unfold Ctrl.giveSlot
  split <;> rfl

theorem defineDuty_mode (p : List Word) : (c.defineDuty p).mode = c.mode := by
  unfold Ctrl.defineDuty Ctrl.holdDuty
  dsimp only
  split
  · rfl
  · exact giveSlot_mode ..

theorem unplace_mode (n : Nat) : (c.unplace n).mode = c.mode := rfl

theorem placeDuty_mode (n : Nat) : (c.placeDuty n).mode = c.mode := by
  rw [Ctrl.placeDuty]
  rfl

theorem startDuty_mode (n : Nat) (c0 : BitVec 32) (t : Nat) : (c.startDuty n c0 t).mode = c.mode := by
  rw [Ctrl.startDuty, placeDuty_mode, modDuty_mode]

theorem stopDuty_mode (n : Nat) : (s.stopDuty c n).mode = c.mode := by
  unfold State.stopDuty
  dsimp only
  split
  · rw [unplace_mode, modDuty_mode]
    split
    · exact cutDuty_mode ..
    · split
      · exact removeExecs_mode ..
      · rfl
  · rfl

theorem dutyEffect_mode (op : Nat) (p : List Word) : (s.dutyEffect c op p).mode = c.mode := by
  unfold State.dutyEffect
  dsimp only
  split
  · exact defineDuty_mode ..
  · split
    · exact startDuty_mode ..
    · exact stopDuty_mode ..

theorem runDeferred_mode (n : Nat) : (Ctrl.runDeferred s c n).mode = c.mode :=
  foldl_keeps Ctrl.mode (fun _ _ => dutyEffect_mode ..) _ _

theorem finishCopy_mode (n : Nat) : (s.finishCopy c n).mode = c.mode := by
  unfold State.finishCopy
  dsimp only
  split
  · rfl
  · rw [runDeferred_mode]
    split
    · rfl
    · exact nextFiring_mode ..

theorem safeStop_mode (n : Nat) : (s.safeStop c n).mode = c.mode := cutDuty_mode s c n

theorem safeStops_mode : (s.safeStops c).mode = c.mode := by
  unfold State.safeStops
  dsimp only
  have hcopied : (s.finishCopies c).mode = c.mode := foldl_keeps Ctrl.mode (finishCopy_mode s) _ c
  have hstops : ∀ (d : Ctrl) (p : Nat × Duty), (s.safeStop d p.1).mode = d.mode := fun d p => safeStop_mode s d p.1
  have hcuts : ∀ (d : Ctrl) (p : Nat × Duty), ((s.cutDuty d p.1).nextFiring p.1).mode = d.mode := fun d p =>
    (nextFiring_mode ..).trans (cutDuty_mode ..)
  rw [foldl_keeps Ctrl.mode hcuts, foldl_keeps Ctrl.mode hstops, hcopied]

theorem leave_mode (ch : Nat) : (c.leave ch).mode = c.mode := by
  unfold Ctrl.leave
  split <;> rfl

theorem endTest_mode (ch cause : Nat) : (s.endTest c ch cause).mode = c.mode := by
  unfold State.endTest
  split
  · rfl
  · exact (eventTo_mode ..).trans (leave_mode ..)

theorem endTests_mode (cause : Nat) (which : Test → Bool) : (s.endTests c cause which).mode = c.mode := by
  refine foldl_keeps Ctrl.mode (fun d p => ?_) _ c
  split
  · split
    · exact endTest_mode ..
    · rfl
  · rfl

theorem putSafe_mode (now ch : Nat) : (c.putSafe now ch).mode = c.mode := by
  unfold Ctrl.putSafe
  split <;> rfl

theorem allSafe_mode (now : Nat) : (c.allSafe now).mode = c.mode :=
  foldl_keeps Ctrl.mode (fun d ch => putSafe_mode d now ch) _ c

theorem markAll_mode : c.markAll.mode = c.mode := by
  refine foldl_keeps Ctrl.mode (fun d l => ?_) _ c
  rfl

theorem goSafe_mode : (s.goSafe c).mode = c.mode := by
  rw [State.goSafe, markAll_mode, allSafe_mode, endTests_mode]

theorem suspendDuties_mode : c.suspendDuties.mode = c.mode := by
  refine foldl_keeps Ctrl.mode (fun d p => ?_) _ c
  exact modDuty_mode ..

theorem resumeDuties_mode : c.resumeDuties.mode = c.mode := by
  refine foldl_keeps Ctrl.mode (fun d p => ?_) _ c
  exact modDuty_mode ..

theorem enterDuties_mode (before n : Mode) : (s.enterDuties before n c).mode = c.mode := by
  have hresumed : (if before = .dormant then c.resumeDuties else c).mode = c.mode := by
    split
    · exact resumeDuties_mode c
    · rfl
  unfold State.enterDuties
  dsimp only
  split
  · rw [goSafe_mode, safeStops_mode, hresumed]
  · rw [suspendDuties_mode, goSafe_mode, hresumed]
  · exact hresumed

theorem finish_mode (tag status : Nat) (ws : List Word) : (c.finish tag status ws).mode = c.mode := by
  unfold Ctrl.finish
  split
  · rfl
  · split <;> rfl

end CtrlMode

section StateMode
variable (s : State) (x y : Side)

theorem setCtrl_mode {c : Ctrl} (h : c.mode = (s.ctrl x).mode) : ((s.setCtrl x c).ctrl y).mode = (s.ctrl y).mode := by
  cases x <;> cases y
  · exact h
  · rfl
  · rfl
  · exact h

theorem modCtrl_mode {f : Ctrl → Ctrl} (h : ∀ c, (f c).mode = c.mode) : ((s.modCtrl x f).ctrl y).mode = (s.ctrl y).mode :=
  setCtrl_mode s x y (h _)

theorem modBoth_mode {f : Ctrl → Ctrl} (h : ∀ c, (f c).mode = c.mode) : ((s.modBoth f).ctrl y).mode = (s.ctrl y).mode :=
  (modCtrl_mode _ _ _ h).trans (modCtrl_mode _ _ _ h)

theorem onActive_mode {f : Side → Ctrl → State} (h : ∀ z, ((f z (s.ctrl z)).ctrl y).mode = (s.ctrl y).mode) :
    ((s.onActive f).ctrl y).mode = (s.ctrl y).mode := by
  unfold State.onActive
  split
  · rfl
  · exact h _

theorem startDog_mode : ((s.startDog x).ctrl y).mode = (s.ctrl y).mode := by
  refine (modCtrl_mode s.draw.2 x y fun c => ?_).trans (congrArg _ (draw_ctrl s y))
  rfl

theorem resumeDog_mode : ((s.resumeDog x).ctrl y).mode = (s.ctrl y).mode := by
  unfold State.resumeDog
  dsimp only
  split
  · exact modCtrl_mode _ _ _ fun _ => rfl
  · exact startDog_mode ..

theorem enableDogs_mode : ((s.enableDogs).ctrl y).mode = (s.ctrl y).mode := by
  unfold State.enableDogs
  split
  · dsimp only
    rw [onActive_mode]
    · split <;> split <;> simp only [resumeDog_mode, modCtrl_mode, implies_true]
    · exact fun z => setCtrl_mode _ _ _ rfl
  · rfl

theorem servedDogIn_mode (before n : Mode) : ((s.servedDogIn x before n).ctrl y).mode = (s.ctrl y).mode := by
  unfold State.servedDogIn
  dsimp only
  split
  · rfl
  · split
    · exact modCtrl_mode _ _ _ fun _ => rfl
    · split
      · exact startDog_mode ..
      · rfl

theorem startHostDog_mode (i : Nat) : ((s.startHostDog x i).ctrl y).mode = (s.ctrl y).mode := by
  refine (modCtrl_mode s.draw.2 x y fun c => ?_).trans (congrArg _ (draw_ctrl s y))
  rfl

theorem hostDogsIn_mode (before n : Mode) : ((s.hostDogsIn x before n).ctrl y).mode = (s.ctrl y).mode := by
  unfold State.hostDogsIn
  dsimp only
  split
  · refine modCtrl_mode _ _ _ fun c => foldl_keeps Ctrl.mode (fun d i => ?_) _ c
    rfl
  · split
    · exact foldl_keeps (fun u : State => (u.ctrl y).mode) (fun u i => startHostDog_mode u x y i) _ s
    · rfl

theorem dogsIn_mode (before n : Mode) : ((s.dogsIn x before n).ctrl y).mode = (s.ctrl y).mode := by
  unfold State.dogsIn
  dsimp only
  rw [hostDogsIn_mode, servedDogIn_mode]
  split
  · rfl
  · exact enableDogs_mode ..

theorem endSuspension_mode : ((s.endSuspension x).ctrl y).mode = (s.ctrl y).mode := by
  unfold State.endSuspension
  split
  · exact (startDog_mode ..).trans (modCtrl_mode _ _ _ fun _ => rfl)
  · rfl

theorem complete_mode (tag status : Nat) (ws : List Word) :
    ((s.complete x tag status ws).ctrl x).mode = (s.ctrl x).mode := by
  unfold State.complete
  split
  · rfl
  · dsimp only
    rw [syncTags_ctrl, State.modCtrl_ctrl, finish_mode, journalReq_mode]

theorem stopStaging_mode (state : Nat) : ((s.stopStaging state).ctrl y).mode = (s.ctrl y).mode := by
  unfold State.stopStaging
  dsimp only
  rw [endSuspension_mode, endSuspension_mode]
  exact modBoth_mode _ _ fun _ => rfl

theorem publish_mode (code subject : Nat) (ws : List Word) : ((s.publish code subject ws).ctrl y).mode = (s.ctrl y).mode :=
  onActive_mode _ _ fun _ => setCtrl_mode _ _ _ rfl

theorem endUpdate_mode (outcome reason : Nat) (side : Side) (count : Nat) :
    ((s.endUpdate x outcome reason side count).ctrl x).mode = (s.ctrl x).mode := by
  have hreported (op phase : Nat) (v : BitVec 32) :
      (((s.modBoth fun c => { c with update := {} }).fwEvent op phase outcome reason side v count).ctrl x).mode = (s.ctrl x).mode :=
    (publish_mode ..).trans (modBoth_mode _ _ fun _ => rfl)
  unfold State.endUpdate
  dsimp only
  split
  · rw [complete_mode, hreported]
  · exact hreported ..

theorem endStaging_mode : ((s.endStaging x).ctrl x).mode = (s.ctrl x).mode := by
  unfold State.endStaging
  dsimp only
  split
  · rw [endUpdate_mode]
    split
    · exact stopStaging_mode ..
    · refine (modCtrl_mode _ x x fun c => ?_).trans (stopStaging_mode ..)
      rfl
  · rfl

/-- The mode entered is the mode held: nothing that ends or begins with it changes it. -/
theorem enterMode_mode (n : Mode) (cause tag session : Nat) : ((s.enterMode x n cause tag session).ctrl x).mode = n := by
  unfold State.enterMode
  dsimp only
  rw [syncDuties_ctrl, syncImage_ctrl, State.modCtrl_ctrl, eventAll_mode]
  have hdogs (u : State) : (((u.modCtrl x fun c => u.enterDuties (s.ctrl x).mode n { c with
      mode := n, modeBefore := if n = .dormant then (s.ctrl x).mode else c.modeBefore }).dogsIn x (s.ctrl x).mode n).ctrl x).mode = n := by
    rw [dogsIn_mode, State.modCtrl_ctrl, enterDuties_mode]
  split
  · rw [endStaging_mode, hdogs]
  · rw [hdogs]

theorem hwEnter_mode (n : Mode) (cause : Nat) : ((s.hwEnter x n cause).ctrl x).mode = n := enterMode_mode ..

end StateMode

/-! ## Sleep and wake (R421 to R424) -/

section Sleep
variable (s : State) (x : Side)

@[simp] theorem emitRope_ctrl (o : Out) (y : Side) : (s.emitRope x o).ctrl y = s.ctrl y := by
  unfold State.emitRope
  split
  · exact State.emit_ctrl ..
  · rfl

theorem modRope_ctrl (f : Rope → Rope) : (s.modRope x f).ctrl x = { s.ctrl x with rope := f (s.ctrl x).rope } := by
  unfold State.modRope State.setRope
  dsimp only
  split
  · rw [State.modCtrl_other_ctrl, State.modCtrl_ctrl]
  · exact State.modCtrl_ctrl ..

theorem ropeEvent_mode (ev who detail : Nat) : ((s.ropeEvent x ev who detail).ctrl x).mode = (s.ctrl x).mode := by
  rw [State.ropeEvent, State.modCtrl_ctrl, eventAll_mode]

theorem ropeEvent_rope (ev who detail : Nat) : ((s.ropeEvent x ev who detail).ctrl x).rope = (s.ctrl x).rope := by
  rw [State.ropeEvent, State.modCtrl_ctrl]
  rfl

theorem disciplined_mode (c : Ctrl) : c.disciplined.mode = c.mode := rfl

theorem disciplined_rope (c : Ctrl) : c.disciplined.rope = c.rope := rfl

theorem ropeRole_keeps (role : Nat) :
    ((s.ropeRole x role).ctrl x).mode = (s.ctrl x).mode ∧
      ((s.ropeRole x role).ctrl x).rope.wakeSeen = (s.ctrl x).rope.wakeSeen := by
  unfold State.ropeRole
  split
  · exact ⟨rfl, rfl⟩
  · rw [State.modCtrl_ctrl, disciplined_mode, disciplined_rope, ropeEvent_mode, ropeEvent_rope, modRope_ctrl]
    exact ⟨rfl, rfl⟩

/-- A module that leaves DORMANT has no wake outstanding (R424). -/
theorem awaken_keeps : ((s.awaken x).ctrl x).mode = (s.ctrl x).mode ∧ ((s.awaken x).ctrl x).rope.wakeSeen = false := by
  have hrope := modRope_ctrl s x fun r => r.awake s.now (s.clock (s.ctrl x))
  unfold State.awaken
  dsimp only
  split
  · obtain ⟨hmode, hseen⟩ := ropeRole_keeps (s.modRope x fun r => r.awake s.now (s.clock (s.ctrl x))) x 2
    rw [hmode, hseen, hrope]
    exact ⟨rfl, rfl⟩
  · rw [hrope]
    exact ⟨rfl, rfl⟩

end Sleep

section SleepCommands
variable {s : State} {x : Side} (hx : s.active = some x)
include hx

theorem execDormantEntry_committed (hc : (s.ctrl x).rope.gotCommit = true) (hst : (s.ctrl x).rope.sleepSt = 2)
    (hm : (s.ctrl x).mode = .commission ∨ (s.ctrl x).mode = .service ∨ (s.ctrl x).mode = .safeHold) :
    execDormantEntry s = .next ((s.draw.2.enterMode x .dormant (s.draw.1 % 16) 0xFFF 0).modRope x fun r =>
      { r with
        sleepSt := 0, gotCommit := false, sleptAt := s.clock (s.ctrl x), wakeSent := 0, woke := false, wakeBy := 0
        present := if r.role = 0 then BitVec.ofNat 16 s.ownBit else 0, lastCsf := none, joinDue := []
        cmds := [], asks := [], isOpen := false }) := by
  rw [execDormantEntry, onActive_of_active hx]
  exact congrArg _ (if_pos (by simpa [hc, hst, or_assoc] using hm))

theorem execWakeFrameSend_due (hb : (s.ctrl x).rope.bypass = false) (hm : (s.ctrl x).mode = .dormant)
    (hw : (s.ctrl x).rope.wakeSeen = true) (hby : (s.ctrl x).rope.wakeBy = 0) (hn : (s.ctrl x).rope.wakeSent < 4)
    (ht : (s.ctrl x).rope.wakeSent = 0 ∨ (s.ctrl x).rope.wakeAt + us 50 ≤ s.now) :
    execWakeFrameSend s = .next ((s.emitRope x (.wakeFrame s.knotId)).modRope x fun r =>
      { r with wakeSent := r.wakeSent + 1, wakeAt := s.now, woke := r.woke && decide (r.wakeSent < 3) }) := by
  rw [execWakeFrameSend, onActive_of_active hx]
  exact congrArg _ (if_pos (by simpa [hb, hm, hw, hby, hn] using ht))

theorem execWakeFrameReceive_wakes {k : Nat} (hb : (s.ctrl x).rope.bypass = false) (hm : (s.ctrl x).mode = .dormant)
    (hk : k ≠ s.knotId) (hw : (s.ctrl x).rope.wakeSeen = false) :
    execWakeFrameReceive k s =
      .next ((s.emitRope x (.wakeFrame k)).modRope x fun r => { r with wakeSeen := true, wakeBy := k + 1 }) := by
  rw [execWakeFrameReceive, onActive_of_active hx, if_pos ⟨hm, hb, hk⟩]
  simp only [State.modRope, emitRope_ctrl, hw, Bool.false_eq_true, if_false]

theorem execWakeFrameReceive_awake {k : Nat} (hm : (s.ctrl x).mode ≠ .dormant) : execWakeFrameReceive k s = .next s := by
  rw [execWakeFrameReceive, onActive_of_active hx, if_neg (not_and_of_not_left _ hm)]

theorem execWake_wakes (hm : (s.ctrl x).mode = .dormant) (hw : (s.ctrl x).rope.wakeSeen = true) :
    ∃ t, execWake s = .next t ∧
      (t.ctrl x).mode = (if (s.ctrl x).escPending then .safeHold else (s.ctrl x).modeBefore) ∧
      (t.ctrl x).rope.wakeSeen = false := by
  have hwake (u : State) (n : Mode) (cause ev who detail : Nat) :
      let t := ((((u.hwEnter x n cause).modCtrl x fun c => { c with escPending := false }).awaken x).ropeEvent x ev who detail).syncImage x
      (t.ctrl x).mode = n ∧ (t.ctrl x).rope.wakeSeen = false := by
    obtain ⟨hmode, hseen⟩ := awaken_keeps ((u.hwEnter x n cause).modCtrl x fun c => { c with escPending := false }) x
    dsimp only
    rw [syncImage_ctrl, ropeEvent_mode, ropeEvent_rope, hmode, hseen, State.modCtrl_ctrl]
    exact ⟨hwEnter_mode .., rfl⟩
  refine ⟨_, rfl, ?_⟩
  rw [onActive_of_active hx, if_pos ⟨hm, hw⟩]
  exact hwake ..

theorem execSleepOrphanWake_late {t : Nat} (hm : (s.ctrl x).mode ≠ .dormant) (hr : (s.ctrl x).rope.role = 1)
    (hst : (s.ctrl x).rope.sleepSt ≠ 0) (hc : (s.ctrl x).rope.gotCommit = false) (hl : (s.ctrl x).rope.lastCsf = some t)
    (ht : t + us 750 ≤ s.now) :
    execSleepOrphanWake s = .next (s.modRope x fun r => { r with woke := true, wakeSent := 0, wakeBy := 0, sleepSt := 0 }) := by
  have hlate : (s.ctrl x).rope.lastCsf.getD (s.ctrl x).rope.listenAt + us 750 ≤ s.now := by
    rw [hl]
    exact ht
  rw [execSleepOrphanWake, onActive_of_active hx]
  exact congrArg _ (if_pos ⟨hm, hr, hst, hc, hlate⟩)

end SleepCommands

/-! ## The obligations of chapter 02 -/

/-- Settles O51: a message that commits, at its arrival or from the queue, with a status other than OK is only entered and
answered. -/
theorem refusedRequestsHaveNoEffect : Obligations.RefusedRequestsHaveNoEffect := by
  refine ⟨?arrival, ?waited⟩
  case arrival =>
    intro i s x op q p hi hadm hj u st hw hc hne hkey
    rw [exec_of_requestOf hi, request_commits hadm hj hw hc, commit_of_status (not_stale_of_admits hadm) hne,
      commitNow_of_status rfl hne hkey]
  case waited =>
    intro s x op q p rest hx hw hc u st hs hne hop
    exact (execLoglineCommit_commits hx hw hc).trans
      ((commit_of_status hs hne).trans (congrArg _ (commitNow_of_status rfl hne fun h => absurd h hop)))

/-- Settles O7: an accepted request is carried out at once, and the effect of its opcode forms its reply or leaves it to a later
event. -/
theorem sessionAndOutputRequestsRun : Obligations.SessionAndOutputRequestsRun := by
  intro s x q p
  exact ⟨fun h => request_settled h rfl rfl, fun h => request_settled h rfl rfl, fun h => request_replied h rfl rfl,
    fun h => request_replied h rfl rfl, fun h => request_replied h rfl rfl, fun h => request_replied h rfl rfl,
    fun h => request_replied h rfl rfl, fun h => request_deferred h rfl, fun h => request_deferred h rfl,
    fun h => request_settled h rfl rfl⟩

/-- Settles O30, a branch of the placement commands, of the stored duties, of CALIBRATE and of KEEP for each clause. -/
theorem placementAndKeepCommandsRun : Obligations.PlacementAndKeepCommandsRun := by
  refine ⟨fun s x duty => ?_, fun s x g rest hg hb => ?_⟩
  · exact ⟨execRebalance_runs, execShadowPlacement_standby, fun _ => execMigrationSwitch_switches,
      fun _ => execDutyStoreWriteDone_pending, execCalibrateEnd_escalated, execCalibrateEnd_starts⟩
  · exact ⟨execKeepGroupEnd_untagged hg hb, fun _ _ => execKeepGroupEnd_completes hg hb,
      fun _ _ => execKeepGroupEnd_answers hg hb⟩

/-- Settles O31: by the type of a frame and the receive state each command takes one branch, or none at a controller in reset. -/
theorem linkCommandsRun : Obligations.LinkCommandsRun := by
  intro s x link hl
  refine ⟨?active, frameBoundary_not_windowed, ?standby, execDownlinkFrame_reset, execPodUplinkSend_powered hl,
    execUplinkBadFrame_running hl, ?undefined, ?good⟩
  case active =>
    intro hr ha
    exact (execDownlinkFrame_running hl hr).trans (by rw [if_pos ha])
  case standby =>
    intro hr ha
    exact (execDownlinkFrame_running hl hr).trans (by rw [if_neg (by simp [ha])])
  case undefined =>
    rintro f rfl hr ht
    exact execUplinkFrame_undefined hl hr ht
  case good =>
    rintro f rfl hr ht
    exact ⟨execUplinkFrame_used hl hr ht, fun hu => execUplinkFrame_out_of_sequence hl hr ht hu, execUplinkFrame_hunts hl hr ht,
      execUplinkFrame_ends_hunt hl hr ht⟩

/-- Settles O39, a branch of the five commands of an exchange for each clause. -/
theorem fskCommandsRun : Obligations.FskCommandsRun := by
  intro s x ch j js hx hl hq
  exact ⟨execFskTransmitStart_queued hx hq hl, execFskTransmitEnd_still hx hq, execFskTransmitEnd_sending hx hq hl,
    execFskReplyTimeout_late hx hq, fun _ => execFskFrameReceived_reply hx hq hl, fun _ _ => execFskFrameReceived_parity hx hq hl⟩

/-- Settles O45: each command of sleep and wake takes one branch; the mode after a wake is the one `State.hwEnter` enters, which the
rest of the wake leaves. -/
theorem sleepCommandsRun : Obligations.SleepCommandsRun := by
  intro s x hx
  exact ⟨execDormantEntry_committed hx, rfl, execWakeFrameSend_due hx, fun _ => execWakeFrameReceive_wakes hx,
    fun _ => execWakeFrameReceive_awake hx, execWake_wakes hx, fun hm hr hst hc _ => execSleepOrphanWake_late hx hm hr hst hc⟩

/-- Settles O54, mode by mode. -/
theorem auxiliaryComparatorByMode : Obligations.AuxiliaryComparatorByMode := by
  intro m
  cases m <;> decide

end Sys2Proof.Machine
end

section
/-! The statements of chapter 03: accepted configuration writes and duty requests, the commands of the trackers, and PTP. -/

namespace Sys2Proof.Machine

/-! ## Turns of a running controller

A tracker command gives every running controller its turn. A turn changes its own controller alone, so each of the two finds its
controller and the time as they were before the command. -/

/-- From `s` to `t` only controller `x` changes. -/
def State.OnlyCtrl (s : State) (x : Side) (t : State) : Prop := ∃ c, t = s.setCtrl x c

namespace State.OnlyCtrl
variable {s t : State} {x : Side} {src : Nat}

theorem refl (s : State) (x : Side) : s.OnlyCtrl x s := ⟨s.ctrl x, (setCtrl_self s x).symm⟩

theorem setCtrl (h : s.OnlyCtrl x t) (c : Ctrl) : s.OnlyCtrl x (t.setCtrl x c) := by
  obtain ⟨d, rfl⟩ := h
  exact ⟨c, by cases x <;> rfl⟩

theorem modCtrl (h : s.OnlyCtrl x t) (f : Ctrl → Ctrl) : s.OnlyCtrl x (t.modCtrl x f) := h.setCtrl _

theorem now (h : s.OnlyCtrl x t) : t.now = s.now := by
  obtain ⟨c, rfl⟩ := h
  exact State.setCtrl_now ..

theorem other (h : s.OnlyCtrl x t) : t.ctrl x.other = s.ctrl x.other := by
  obtain ⟨c, rfl⟩ := h
  exact State.setCtrl_ctrl_other ..

theorem ite {p : Prop} [Decidable p] {u : State} (ht : s.OnlyCtrl x t) (hu : s.OnlyCtrl x u) : s.OnlyCtrl x (if p then t else u) := by
  split
  · exact ht
  · exact hu

theorem angleEvent (h : s.OnlyCtrl x t) (old new : TrackSt) (step : Int) : s.OnlyCtrl x (t.angleEvent x src old new step) :=
  ite (h.setCtrl _) h

theorem noteTrack (h : s.OnlyCtrl x t) : s.OnlyCtrl x (t.noteTrack x src) := h.modCtrl _

theorem trackEnter (h : s.OnlyCtrl x t) (st : TrackSt) (step : Int) : s.OnlyCtrl x (t.trackEnter x src st step) := by
  cases st with
  | noSignal | acquire => exact (h.modCtrl _).noteTrack
  | _ => exact (h.modCtrl _).noteTrack.angleEvent ..

theorem fireAll (h : s.OnlyCtrl x t) (a d : Nat) (cyc next : BitVec 32) (skipped : Bool) :
    s.OnlyCtrl x (t.fireAll x src a d cyc next skipped) :=
  ite (h.setCtrl _) (h.setCtrl _)

theorem stepSource (h : s.OnlyCtrl x t) (e : Int) (st : TrackSt) (num : Option (BitVec 32)) :
    s.OnlyCtrl x (t.stepSource x src e st num) :=
  (((h.modCtrl _).modCtrl _).fireAll ..).angleEvent ..

theorem measure (h : s.OnlyCtrl x t) (measured : Nat) (num : Option (BitVec 32)) :
    s.OnlyCtrl x (t.measure x src measured num) := by
  unfold State.measure
  dsimp only
  split
  case h_1 | h_2 => exact ite (h.modCtrl _) (ite (h.stepSource ..) (h.modCtrl _))
  case h_3 => exact h

theorem setPeriod (h : s.OnlyCtrl x t) (period dt : Nat) : s.OnlyCtrl x (t.setPeriod x src period dt) := h.modCtrl _

theorem carrierEdge (h : s.OnlyCtrl x t) : s.OnlyCtrl x (t.carrierEdge x) :=
  have hedge := (ite h (h.setPeriod ..)).modCtrl _
  ite (hedge.measure ..) hedge

theorem as2Sample (h : s.OnlyCtrl x t) (mt angle : Nat) (cyc : BitVec 32) : s.OnlyCtrl x (t.as2Sample x mt angle cyc false) :=
  ((h.setPeriod _ _).modCtrl _).measure _ _

end State.OnlyCtrl

/-- Both module times of a controller go by the time of the state. -/
theorem clock_of_now {s u : State} (h : u.now = s.now) (c : Ctrl) : u.clock c = s.clock c := by rw [State.clock, h, State.clock]

theorem mtimeOf_of_now {s u : State} (h : u.now = s.now) (c : Ctrl) : mtimeOf u c = mtimeOf s c := by
  rw [mtimeOf, timebase, h, mtimeOf, timebase]

/-- Turns that are the same for a controller as it was before the command are the same on all running controllers. -/
theorem onRunning_congr {s : State} {f g : Side → State → State} (hg : ∀ z (u : State), u.OnlyCtrl z (g z u))
    (h : ∀ z u, s.runs z = true → u.now = s.now → u.ctrl z = s.ctrl z → f z u = g z u) : s.onRunning f = s.onRunning g := by
  have second : ∀ u : State, u.now = s.now → u.ctrl .b = s.ctrl .b →
      (if u.runs .b then f .b u else u) = if u.runs .b then g .b u else u := by
    intro u hn hc
    by_cases hb : u.runs .b = true
    · rw [if_pos hb, if_pos hb]
      exact h .b u (by rwa [State.runs, hc] at hb) hn hc
    · rw [if_neg hb, if_neg hb]
  by_cases ha : s.runs .a = true
  · have hfirst : s.onRunning f = if (g .a s).runs .b then f .b (g .a s) else g .a s := by
      rw [← h .a s ha rfl rfl]
      exact congrArg (fun u : State => if u.runs .b then f .b u else u) (if_pos ha)
    rw [hfirst, second _ (hg .a s).now (hg .a s).other]
    exact (congrArg (fun u : State => if u.runs .b then g .b u else u) (if_pos ha)).symm
  · have hfirst : ∀ k : Side → State → State, s.onRunning k = if s.runs .b then k .b s else s := fun k =>
      congrArg (fun u : State => if u.runs .b then k .b u else u) (if_neg ha)
    rw [hfirst, hfirst, second s rfl rfl]

theorem onRunning_id (s : State) : (s.onRunning fun _ u => u) = s := by simp [State.onRunning]

/-! ## The commands of the trackers (R68, R76, R80, R81, R83, R345) -/

section Trackers
variable {s : State} {src : Nat}

theorem setTracker_time (c : Ctrl) (i : Nat) (t : Tracker) : (c.setTracker i t).time = c.time := by
  unfold Ctrl.setTracker
  split <;> rfl

/-- A period estimate leaves the elapsed time of its controller. -/
theorem clock_setPeriod (u : State) (x : Side) (period dt : Nat) :
    u.clock ((u.setPeriod x src period dt).ctrl x) = u.clock (u.ctrl x) := by
  have htime : ((u.setPeriod x src period dt).ctrl x).time = (u.ctrl x).time := by
    rw [State.setPeriod, State.modCtrl_ctrl]
    dsimp only
    split
    · rfl
    · split
      · exact setTracker_time ..
      · split <;> exact setTracker_time ..
  rw [State.clock, htime, State.clock]

theorem execAs0ZeroCrossing_in_range {period : Nat} (h : inRange 0 period = true) :
    execAs0ZeroCrossing period s = .next (s.onRunning fun x u =>
      ((u.setPeriod x 0 period (u.clock (u.ctrl x) - (u.ctrl x).as0.lastEdge)).modCtrl x fun c =>
        { c with as0 := { c.as0 with lastEdge := u.clock (u.ctrl x) } }).measure x 0 (acOffset (u.ctrl x).angleCfg 0) none) := by
  refine congrArg (fun f => Host.Outcome.next (s.onRunning f)) (funext fun x => funext fun u => ?_)
  rw [if_pos h, State.modCtrl, State.modCtrl, clock_setPeriod]

/-- An edge of the configured direction, at no less than an eighth of a period from the one before, is accepted. -/
theorem execCarrierSyncEdge_accepts {width : Nat} {rising : Bool} (hw : 1000 ≤ width)
    (h : ∀ x, s.runs x = true → acEdge (s.ctrl x).angleCfg = !rising ∧
      ((s.ctrl x).as1.edges = 0 ∨ (s.ctrl x).as1.period ≤ (s.clock (s.ctrl x) - (s.ctrl x).as1.lastEdge) * 8)) :
    execCarrierSyncEdge width rising s = .next (s.onRunning fun x u => u.carrierEdge x) := by
  refine congrArg _ (onRunning_congr (fun z u => (State.OnlyCtrl.refl u z).carrierEdge) fun z u hz hn hc => ?_)
  obtain ⟨hedge, hlate⟩ := h z hz
  rw [← hc] at hedge hlate
  rw [← clock_of_now hn] at hlate
  dsimp only
  rw [if_neg (by rw [hedge]; cases rising <;> simp <;> omega), if_neg (by omega)]

theorem execCarrierSyncEdge_narrow {width : Nat} {rising : Bool} (hw : width < 1000) :
    execCarrierSyncEdge width rising s = .next s := by
  simp [execCarrierSyncEdge, hw, onRunning_id]

theorem execSourceLoss_due (hsrc : src < 3)
    (h : ∀ x, s.runs x = true → (((s.ctrl x).tracker src).st = .locked ∨ ((s.ctrl x).tracker src).st = .relock) ∧
      ((s.ctrl x).tracker src).lossDue src (s.clock (s.ctrl x)) ((s.ctrl x).rope.role == 1) = true) :
    execSourceLoss src s = .next (s.onRunning fun x u => u.loseSource x src) := by
  refine congrArg _ (onRunning_congr (fun z u => ((State.OnlyCtrl.refl u z).modCtrl _).trackEnter _ _) fun z u hz hn hc => ?_)
  obtain ⟨hst, hdue⟩ := h z hz
  rw [← hc] at hst hdue
  rw [← clock_of_now hn] at hdue
  rcases hst with hst | hst <;> simp only [hst, hsrc, hdue, and_self, if_true] <;> rfl

/-- The source locks on the angle acquired, in the cycle after its last one or in the one its samples name. -/
def State.lockOn (s : State) (x : Side) (src : Nat) (angle : BitVec 16) : State :=
  let t := (s.ctrl x).tracker src
  let cyc := (t.numberAt (mtimeOf s (s.ctrl x)).toNat angle.toNat).getD (t.cycle + 1)
  (s.modCtrl x fun c => (c.setTracker src { t with
    angle, rem := 0, slew := 0, bigErr := 0, cycle := cyc
    t0 := BitVec.ofInt 32 ((mtimeOf s (s.ctrl x)).toNat - (angle.toNat * t.period / 262144 : Nat)) }).beginCycle src
      cyc).trackEnter x src .locked 0

theorem State.lockOn_onlyCtrl (s : State) {x : Side} {angle : BitVec 16} : s.OnlyCtrl x (s.lockOn x src angle) := by
  unfold State.lockOn
  exact ((State.OnlyCtrl.refl s x).modCtrl _).trackEnter _ _

theorem execAcquireLock_locks {angle : BitVec 16} (hsrc : src < 3)
    (h : ∀ x, s.runs x = true → ((s.ctrl x).tracker src).st = .acquire) :
    execAcquireLock src angle s = .next (s.onRunning fun x u => u.lockOn x src angle) := by
  refine congrArg _ (onRunning_congr (fun _ u => u.lockOn_onlyCtrl) fun z u hz _ hc => ?_)
  exact if_pos ⟨hsrc, hc ▸ h z hz⟩

theorem execAcquireInputInvalid_goes_back (hsrc : src < 3) (h : ∀ x, s.runs x = true → ((s.ctrl x).tracker src).st = .acquire) :
    execAcquireInputInvalid src s = .next (s.onRunning fun x u =>
      (u.modCtrl x fun c => c.setTracker src { c.tracker src with edges := 0 }).trackEnter x src ((u.ctrl x).tracker src).from_ 0) := by
  refine congrArg _ (onRunning_congr (fun z u => ((State.OnlyCtrl.refl u z).modCtrl _).trackEnter _ _) fun z u hz hn hc => ?_)
  exact if_pos ⟨hsrc, hc ▸ h z hz⟩

theorem execRelockComplete_ends (hsrc : src < 3)
    (h : ∀ x, s.runs x = true → ((s.ctrl x).tracker src).st = .relock ∧ ((s.ctrl x).tracker src).slew.natAbs ≤ 64) :
    execRelockComplete src s = .next (s.onRunning fun x u => u.trackEnter x src .locked 0) := by
  refine congrArg _ (onRunning_congr (fun z u => (State.OnlyCtrl.refl u z).trackEnter _ _) fun z u hz hn hc => ?_)
  exact if_pos ⟨hsrc, hc ▸ h z hz⟩

/-- A flywheel at its limit ends in the state that the fallback setting of its source says. -/
theorem execFlywheelLimit_ends {st : TrackSt} (hsrc : src < 3)
    (h : ∀ x, s.runs x = true → ((s.ctrl x).tracker src).st = .flywheel ∧
      (if acFallback (s.ctrl x).angleCfg src = 1 then .fallback else .lost) = st ∧
      ((s.ctrl x).tracker src).since + flywheelLimit (s.ctrl x).angleCfg src ((s.ctrl x).tracker src) ≤ s.clock (s.ctrl x)) :
    execFlywheelLimit src s = .next (s.onRunning fun x u => u.trackEnter x src st 0) := by
  refine congrArg _ (onRunning_congr (fun z u => (State.OnlyCtrl.refl u z).trackEnter _ _) fun z u hz hn hc => ?_)
  obtain ⟨hst, hfall, hlimit⟩ := h z hz
  rw [← hc] at hst hfall hlimit
  rw [← clock_of_now hn] at hlimit
  rw [State.endFlywheel, if_pos ⟨hsrc, hst, hlimit⟩, ← hfall]
  split <;> rfl

/-! ### An input that is valid again -/

theorem validAgain_acquires {x : Side} {angle : BitVec 16}
    (h : ((s.ctrl x).tracker src).st = .noSignal ∨ ((s.ctrl x).tracker src).st = .lost) :
    s.validAgain x src angle =
      (s.modCtrl x fun c => c.setTracker src { c.tracker src with from_ := (c.tracker src).st }).trackEnter x src .acquire 0 := by
  unfold State.validAgain
  dsimp only
  split
  case h_1 | h_2 => rfl
  case h_3 hst | h_4 hst => exact absurd h (by simp [hst])
  case h_5 hsignal hlost _ _ => exact (h.elim hsignal hlost).elim

/-- From FLYWHEEL and FALLBACK an angle that agrees locks, and another one steps. -/
theorem validAgain_recovers {x : Side} {angle : BitVec 16}
    (h : ((s.ctrl x).tracker src).st = .flywheel ∨ ((s.ctrl x).tracker src).st = .fallback) :
    s.validAgain x src angle =
      let t := (s.ctrl x).tracker src
      let e := angleError angle.toNat t.angle.toNat
      let num := t.numberAt (mtimeOf s (s.ctrl x)).toNat angle.toNat
      if t.agrees e num then
        (s.modCtrl x fun c => c.setTracker src { c.tracker src with
          slew := angleError angle.toNat (c.tracker src).angle.toNat, bigErr := 0 }).trackEnter x src .locked 0
      else s.stepSource x src e .relock num := by
  unfold State.validAgain
  dsimp only
  split
  case h_1 hst | h_2 hst => exact absurd h (by simp [hst])
  case h_3 | h_4 => simp only [State.modCtrl]
  case h_5 hfly hfall => exact (h.elim hfly hfall).elim

/-- INPUT_VALID_AGAIN where the turn of each running controller, as it was before the command, is `g`. -/
theorem execInputValidAgain_turns {angle : BitVec 16} {g : Side → State → State} (hsrc : src < 3)
    (hg : ∀ z (u : State), u.OnlyCtrl z (g z u))
    (h : ∀ z u, s.runs z = true → u.now = s.now → u.ctrl z = s.ctrl z → u.validAgain z src angle = g z u) :
    execInputValidAgain src angle s = .next (s.onRunning g) :=
  congrArg _ (onRunning_congr hg fun z u hz hn hc => (if_pos hsrc).trans (h z u hz hn hc))

theorem execAngleWord_accepts {w : Word} {t : Nat} (hvalid : bitOf w 79 = true)
    (h : ∀ x, s.runs x = true → bitOf ((s.ctrl x).portCfg 0) 119 = true ∧ (s.ctrl x).rope.role ≠ 1 ∧
      (s.ctrl x).ports.aseq ≠ some (fld w 75 64)) :
    execAngleWord w t s = .next (s.onRunning fun x u =>
      (u.modCtrl x fun c => { c with ports := { c.ports with aseq := some (fld w 75 64) } }).as2Sample x t (fld w 127 112)
        (BitVec.ofNat 32 (fld w 111 80)) false) := by
  refine congrArg _ (onRunning_congr (fun z u => ((State.OnlyCtrl.refl u z).modCtrl _).as2Sample _ _ _) fun z u hz hn hc => ?_)
  obtain ⟨hport, hrole, hseq⟩ := h z hz
  rw [← hc] at hport hrole hseq
  dsimp only
  rw [if_neg (by simp [hport, hrole]), if_neg (by simp [hvalid, hseq])]
  rfl

/-- A microsecond passes, in which the trackers of both controllers advance (R70, R94). -/
def State.updated (s : State) : State := (({ s with now := s.now + 1000 }).trackAll .a).trackAll .b

theorem execAngleUpdate_active {x : Side} (hx : s.updated.active = some x) :
    execAngleUpdate s = .next ((s.updated.latchSnaps x).loneSleep x) :=
  congrArg Host.Outcome.next (onActive_of_active hx fun x _ => (s.updated.latchSnaps x).loneSleep x)

theorem execAngleUpdate_idle (h : s.updated.active = none) : execAngleUpdate s = .next s.updated := by
  have hidle : s.updated.onActive (fun x _ => (s.updated.latchSnaps x).loneSleep x) = s.updated := by rw [State.onActive, h]
  exact congrArg Host.Outcome.next hidle

end Trackers

/-! ## PTP at a controller (R96 to R101) -/

section Ptp
variable {s : State} {x : Side}

/-- A timeout keeps the masters whose 3 announce intervals are not over. -/
theorem not_timedOut (m : Master) (now : Nat) : (!m.timedOut now) = decide (now < m.heardAt + 3 * logNs m.logInt) := by
  rw [Master.timedOut, ← decide_not, decide_eq_decide, not_le]

theorem execPtpAnnounce_hears {a : Announce} {utc : Nat} (hr : s.runs x = true) :
    execPtpAnnounce x (acDomain (s.ctrl x).angleCfg) a utc s = .next ((s.modCtrl x fun c =>
      { c with time := { c.time with
        masters := { ident := a.ident, quality := a.quality, heardAt := s.clock (s.ctrl x), logInt := a.logInt, utcOffset := utc } ::
          (s.ctrl x).time.masters.filter fun n => n.ident != a.ident } }.selectMaster).reportUtc x) :=
  if_pos (by rw [beq_self_eq_true, Bool.and_true]; exact hr)

theorem execPtpAnnounce_other_domain {d utc : Nat} {a : Announce} (h : d ≠ acDomain (s.ctrl x).angleCfg) :
    execPtpAnnounce x d a utc s = .next s := by
  simp [execPtpAnnounce, h]

/-- The state and the measurement after a measured offset, before it is removed. -/
def TimeKeep.measured (t : TimeKeep) (now : Nat) (offset : Int) : TimeKeep :=
  { t with
    offset, everDisc := true, state := if offset.natAbs ≤ 1000 then 2 else 1, measAt := some now, rate := t.newRate now offset }

theorem correctTime_slews {o : Int} (h : o.natAbs ≤ 1000000) :
    ((s.correctTime x o).ctrl x).time = { (s.ctrl x).time.measured (s.clock (s.ctrl x)) o with slewPs := -o * 1000 } := by
  unfold State.correctTime
  dsimp only
  rw [if_pos h, State.setCtrl_ctrl]
  rfl

theorem correctTime_steps {o : Int} (h : 1000000 < o.natAbs) :
    ((s.correctTime x o).ctrl x).time =
      { (s.ctrl x).time.measured (s.clock (s.ctrl x)) o with slewPs := 0, offPs := (s.ctrl x).time.offPs - o * 1000 } := by
  unfold State.correctTime
  dsimp only
  rw [if_neg (Nat.not_le.mpr h)]
  split <;> rw [State.setCtrl_ctrl] <;> rfl

/-- A correction of time, by rate or by one step (R96). -/
theorem correctTime_time (s : State) (x : Side) (o : Int) :
    let c := s.ctrl x
    let t := ((s.correctTime x o).ctrl x).time
    t.ownOffset = c.time.ownOffset ∧ t.offset = o ∧ t.everDisc = true ∧ t.state = (if o.natAbs ≤ 1000 then 2 else 1) ∧
      (o.natAbs ≤ 1000000 → t.offPs = c.time.offPs ∧ t.slewPs = -o * 1000) ∧
      (1000000 < o.natAbs → t.offPs = c.time.offPs - o * 1000 ∧ t.slewPs = 0) := by
  dsimp only
  rcases le_or_gt o.natAbs 1000000 with h | h
  · rw [correctTime_slews h]
    exact ⟨rfl, rfl, rfl, rfl, fun _ => ⟨rfl, rfl⟩, fun h' => absurd h (Nat.not_le.mpr h')⟩
  · rw [correctTime_steps h]
    exact ⟨rfl, rfl, rfl, rfl, fun h' => absurd h' (Nat.not_le.mpr h), fun _ => ⟨rfl, rfl⟩⟩

/-- The controller has measured its own offset, and has not applied it. -/
def State.ownMeasured (s : State) (x : Side) (own : Int) : State :=
  s.setCtrl x { s.ctrl x with time := { (s.ctrl x).time with ownOffset := some own } }

@[simp] theorem ownMeasured_time (s : State) (x : Side) (own : Int) :
    ((s.ownMeasured x own).ctrl x).time = { (s.ctrl x).time with ownOffset := some own } := by simp [State.ownMeasured]

@[simp] theorem ownMeasured_ctrl_other (s : State) (x : Side) (own : Int) : (s.ownMeasured x own).ctrl x.other = s.ctrl x.other :=
  State.setCtrl_ctrl_other ..

theorem takesSync_iff {c : Ctrl} {d ident : Nat} {int : Int} :
    c.takesSync d ident int = true ↔ d = acDomain c.angleCfg ∧ c.time.master = some ident ∧ -7 ≤ int ∧ int ≤ 1 := by
  simp [Ctrl.takesSync, and_assoc]

theorem execPtpSync_takes {d : Nat} {y : Sync} (hr : s.runs x = true) (ht : (s.ctrl x).takesSync d y.ident y.logInt = true) :
    execPtpSync x d y s =
      let own := y.offset - ((s.ctrl x).time.delay : Int)
      .next (if (s.ctrl x).role ≠ .standby ∧ (s.ctrl x).timeInUse = 1 then (s.ownMeasured x own).correctTime x own
        else s.ownMeasured x own) := by
  have hp : s.runsPtp x = true := hr
  simp only [execPtpSync, hp, ht, Bool.and_self, if_true, Bool.and_eq_true, bne_iff_ne, beq_iff_eq]
  split <;> rfl

theorem execPtpSync_ignores {d : Nat} {y : Sync} (ht : (s.ctrl x).takesSync d y.ident y.logInt = false) :
    execPtpSync x d y s = .next s := by
  simp [execPtpSync, ht]

theorem execPtpDelayReqSend_due (hr : s.runs x = true) (hd : (s.ctrl x).time.delayDue (s.clock (s.ctrl x)) = true) :
    execPtpDelayReqSend x s = .next ((s.emit (.delayReq x)).modCtrl x fun c =>
      { c with time := { c.time with delayAt := some (s.clock c) } }) := by
  have hp : s.runsPtp x = true := hr
  simp [execPtpDelayReqSend, hp, hd]

theorem execPtpDelayReqSend_early (hd : (s.ctrl x).time.delayDue (s.clock (s.ctrl x)) = false) :
    execPtpDelayReqSend x s = .next s := by
  simp [execPtpDelayReqSend, hd]

theorem execPtpDelayResp_takes {delay : Nat} {int : Int} (hr : s.runs x = true) (hm : (s.ctrl x).time.master ≠ none) :
    execPtpDelayResp x delay int s = .next (s.modCtrl x fun c => { c with time := { c.time with delay, delayInt := int } }) := by
  have hp : s.runsPtp x = true := hr
  simp [execPtpDelayResp, hp, Option.isSome_iff_ne_none, hm]

theorem execPtpDelayResp_ignores {delay : Nat} {int : Int} (hm : (s.ctrl x).time.master = none) :
    execPtpDelayResp x delay int s = .next s := by
  simp [execPtpDelayResp, hm]

/-- A controller that does not run takes no PTP message and sends none. -/
theorem ptp_of_stopped {d utc delay : Nat} {int : Int} {a : Announce} {y : Sync} (hr : s.runs x = false) :
    execPtpAnnounce x d a utc s = .next s ∧ execPtpAnnounceTimeout x s = .next s ∧ execPtpSync x d y s = .next s ∧
      execPtpDelayReqSend x s = .next s ∧ execPtpDelayResp x delay int s = .next s := by
  have hp : s.runsPtp x = false := hr
  simp [execPtpAnnounce, execPtpAnnounceTimeout, execPtpSync, execPtpDelayReqSend, execPtpDelayResp, hp]

end Ptp

/-! ## The obligations of chapter 03 -/

/-- Settles O8: the rows of CFG_WRITE stand for one request, and the effect of each opcode forms its reply or leaves it to a later
event. -/
theorem configurationAndDutyRequestsRun : Obligations.ConfigurationAndDutyRequestsRun := by
  intro s x q p
  refine ⟨fun h => ?write, fun h => request_replied h rfl rfl, fun h => request_replied h rfl rfl, fun h => request_replied h rfl rfl⟩
  have run : ∀ i, requestOf i = some (0x11, q, p) →
      exec i s = .next (State.settled (effectCfgWrite x q p (s.begun x 0x11 q p)) x q) :=
    fun i hi => (exec_of_requestOf hi).trans (request_settled h rfl rfl)
  exact ⟨run _ rfl, run _ rfl, run _ rfl, run _ rfl, run _ rfl, run _ rfl, run _ rfl, run _ rfl, run _ rfl, run _ rfl, run _ rfl,
    run _ rfl, run _ rfl⟩

/-- Settles O25: each command gives the turn of its clause to every running controller, which meets the clause's premise as it did
before the command. -/
theorem trackerAndUpdateCommandsRun : Obligations.TrackerAndUpdateCommandsRun := by
  refine ⟨fun s src => ⟨fun _ => execAs0ZeroCrossing_in_range, fun _ _ => execCarrierSyncEdge_accepts,
    fun _ _ => execCarrierSyncEdge_narrow, execSourceLoss_due, fun _ => execAcquireLock_locks, execAcquireInputInvalid_goes_back,
    execRelockComplete_ends, ?lost, ?fallback, ?acquires, ?agrees, ?steps, fun _ _ h hv => execAngleWord_accepts hv h⟩,
    fun _ => ⟨fun _ => execAngleUpdate_active, execAngleUpdate_idle⟩⟩
  case lost =>
    intro hsrc h
    refine execFlywheelLimit_ends hsrc fun x hx => ?_
    obtain ⟨hst, hfall, hlimit⟩ := h x hx
    exact ⟨hst, if_neg hfall, hlimit⟩
  case fallback =>
    intro hsrc h
    refine execFlywheelLimit_ends hsrc fun x hx => ?_
    obtain ⟨hst, hfall, hlimit⟩ := h x hx
    exact ⟨hst, if_pos hfall, hlimit⟩
  case acquires =>
    intro angle hsrc h
    exact execInputValidAgain_turns hsrc (fun z u => ((State.OnlyCtrl.refl u z).modCtrl _).trackEnter _ _)
      fun z u hz _ hc => validAgain_acquires (hc ▸ h z hz)
  case agrees =>
    intro angle hsrc h
    refine execInputValidAgain_turns hsrc (fun z u => ((State.OnlyCtrl.refl u z).modCtrl _).trackEnter _ _) fun z u hz hn hc => ?_
    obtain ⟨hst, hagrees⟩ := h z hz
    rw [← hc] at hst hagrees
    rw [← mtimeOf_of_now hn] at hagrees
    exact (validAgain_recovers hst).trans (if_pos hagrees)
  case steps =>
    intro angle hsrc h
    refine execInputValidAgain_turns hsrc (fun z u => (State.OnlyCtrl.refl u z).stepSource _ _ _) fun z u hz hn hc => ?_
    obtain ⟨hst, hagrees⟩ := h z hz
    rw [← hc] at hst hagrees
    rw [← mtimeOf_of_now hn] at hagrees
    exact (validAgain_recovers hst).trans (if_neg (Bool.eq_false_iff.mp hagrees))

/-- Settles O27, a branch of the five commands for each clause: what is selected is the best of the masters heard, and an offset is
removed by rate or by a step. -/
theorem ptpCommandsRun : Obligations.PtpCommandsRun := by
  intro s x c dom best
  refine ⟨fun hr => ⟨?announce, fun _ _ _ => execPtpAnnounce_other_domain, ?timeout, ?sync, fun _ _ => execPtpSync_ignores, ?delayReq,
    execPtpDelayReqSend_early, ?delayResp, fun _ _ => execPtpDelayResp_ignores⟩,
    fun hr _ _ _ _ _ _ => ptp_of_stopped hr⟩
  case announce =>
    intro ident quality utc int
    exact ⟨_, execPtpAnnounce_hears hr, selected_best ..⟩
  case timeout =>
    obtain ⟨hmasters, hbest, hother⟩ := selected_best s x fun c =>
      { c with time := { c.time with masters := c.time.masters.filter fun m => !m.timedOut (s.clock c) } }
    exact ⟨_, if_pos hr, hmasters.trans (by simp only [not_timedOut]; rfl), hbest, hother⟩
  case sync =>
    intro ident int off hm hlo hhi
    refine ⟨_, execPtpSync_takes hr (takesSync_iff.mpr ⟨rfl, hm, hlo, hhi⟩), ?_⟩
    dsimp only
    split
    case isTrue happlied =>
      obtain ⟨hrole, huse⟩ := happlied
      obtain ⟨hown, hoffset, hdisc, hstate, hslew, hstep⟩ :=
        correctTime_time (s.ownMeasured x (off - ((s.ctrl x).time.delay : Int))) x (off - ((s.ctrl x).time.delay : Int))
      rw [ownMeasured_time] at hown hslew hstep
      exact ⟨(correctTime_other ..).trans (ownMeasured_ctrl_other ..), hown, fun h => absurd h (by simp [c, hrole, huse]),
        fun _ _ => ⟨hoffset, hdisc, hstate, hslew, hstep⟩⟩
    case isFalse hidle =>
      rw [ownMeasured_time]
      exact ⟨ownMeasured_ctrl_other .., rfl, fun _ => rfl, fun hrole huse => absurd ⟨hrole, huse⟩ hidle⟩
  case delayReq =>
    intro hd
    refine ⟨_, execPtpDelayReqSend_due hr hd, ?_⟩
    simp [c]
  case delayResp =>
    intro delay int hm
    refine ⟨_, execPtpDelayResp_takes hr hm, ?_⟩
    simp [c]

end Sys2Proof.Machine
end

section
/-! The statements of chapter 04: requests answered without an entry, the stage an engine carries out, and what LOGIC and COUNT make of
T, V and the counters. -/

namespace Sys2Proof.Machine

/-! ## LOGIC (R117) -/

section Logic
variable {s : State} {x : Side} {e : Exec} {w : Word}

/-- Whatever its `OP`, LOGIC changes T and the latch alone. -/
theorem stageLogic_keeps (s : State) (x : Side) (e : Exec) (w : Word) :
    (stageLogic x e w s).1 = s ∧ (stageLogic x e w s).2.1.S = e.S ∧ (stageLogic x e w s).2.1.V = e.V ∧
      (stageLogic x e w s).2.1.cmds = e.cmds := by
  unfold stageLogic
  dsimp only
  split <;> exact ⟨rfl, rfl, rfl, rfl⟩

theorem stageLogic_any (h : fld w 111 108 = 0) :
    (stageLogic x e w s).2.1.T = (e.T || (e.V &&& BitVec.ofNat 64 (fld w 63 0)) != 0) := by
  simp only [stageLogic, h]

theorem stageLogic_all (h : fld w 111 108 = 1) :
    (stageLogic x e w s).2.1.T = ((e.V &&& BitVec.ofNat 64 (fld w 63 0)) == BitVec.ofNat 64 (fld w 63 0)) := by
  simp only [stageLogic, h]

theorem stageLogic_not (h : fld w 111 108 = 2) : (stageLogic x e w s).2.1.T = !e.T := by
  simp only [stageLogic, h]

theorem stageLogic_latch (h : fld w 111 108 = 3) :
    (stageLogic x e w s).2.1.T = (e.T || tget false e.stages.latches e.stage) ∧
      tget false (stageLogic x e w s).2.1.stages.latches e.stage = (stageLogic x e w s).2.1.T := by
  simp only [stageLogic, h, tget_tset_self, and_self]

theorem stageLogic_and (h : fld w 111 108 = 4) (hl : bitOf w 91 = false) :
    (stageLogic x e w s).2.1.T =
      (e.T && (((s.ctrl x).duty (fld w 107 96)).running && ((s.ctrl x).duty (fld w 107 96)).t)) := by
  simp only [stageLogic, h, hl, Bool.false_eq_true, if_false]

theorem stageLogic_or (h : fld w 111 108 = 5) (hl : bitOf w 91 = false) :
    (stageLogic x e w s).2.1.T =
      (e.T || (((s.ctrl x).duty (fld w 107 96)).running && ((s.ctrl x).duty (fld w 107 96)).t)) := by
  simp only [stageLogic, h, hl, Bool.false_eq_true, if_false]

end Logic

/-! ## COUNT (R118) -/

/-- The counter of channel `ch`, of index `i` in the duty's set, after COUNT. -/
def countOf (e : Exec) (w : Word) (old i ch : Nat) : Nat :=
  satAt 16383 (match fld w 111 110 with
    | 0 => if nbit e.V.toNat i then old + 1 else 0
    | 1 => old + b2n (nbit e.V.toNat i)
    | _ => old + (e.S.filter fun r => recChan r == ch && recKind r == 1).length)

/-- COUNT's turn of one channel, on the counters and the value of V so far. -/
def countChannel (e : Exec) (w : Word) (a : Tab Nat × Nat) (p : Nat × Nat) : Tab Nat × Nat :=
  let n := countOf e w (tget 0 a.1 (64 * e.stage + p.2)) p.2 p.1
  (tset 0 a.1 (64 * e.stage + p.2) n, if fld w 109 96 ≤ n then a.2 + 2 ^ p.2 else a.2)

/-- The counters and the value of V after COUNT. -/
def counted (e : Exec) (w : Word) : Tab Nat × Nat := e.card.set.zipIdx.foldl (countChannel e w) (e.stages.counts, 0)

theorem stageCount_eq (x : Side) (e : Exec) (w : Word) (s : State) :
    stageCount x e w s =
      (s, { e with
        stages := { e.stages with counts := (counted e w).1 }, V := BitVec.ofNat 64 (counted e w).2
        T := (counted e w).2 != 0 }, 10 + 2 * e.card.set.length) := rfl

section Count
variable (e : Exec) (w : Word)

theorem satAt_le (m n : Nat) : satAt m n ≤ m := by
  unfold satAt
  split <;> omega

theorem countOf_le (old i ch : Nat) : countOf e w old i ch ≤ 16383 := satAt_le ..

theorem countChannel_counts (a : Tab Nat × Nat) (p : Nat × Nat) (j : Nat) :
    tget 0 (countChannel e w a p).1 j =
      if j = 64 * e.stage + p.2 then countOf e w (tget 0 a.1 (64 * e.stage + p.2)) p.2 p.1 else tget 0 a.1 j := tget_tset ..

theorem counted_le (h : ∀ i, tget 0 e.stages.counts (64 * e.stage + i) ≤ 16383) (i : Nat) :
    tget 0 (counted e w).1 (64 * e.stage + i) ≤ 16383 := by
  refine List.foldlRecOn (motive := fun a : Tab Nat × Nat => tget 0 a.1 (64 * e.stage + i) ≤ 16383) _ _ (h i) fun a ha p _ => ?_
  rw [countChannel_counts]
  split
  · exact countOf_le ..
  · exact ha

/-- The counters of the stages before this one are other entries of the table. -/
theorem counted_earlier_stage {j : Nat} (h : j < 64 * e.stage) : tget 0 (counted e w).1 j = tget 0 e.stages.counts j :=
  foldl_keeps (fun a : Tab Nat × Nat => tget 0 a.1 j)
    (fun a p => (countChannel_counts e w a p j).trans (if_neg (by omega))) _ _

theorem countChannel_lt {a : Tab Nat × Nat} {k ch : Nat} (h : a.2 < 2 ^ k) : (countChannel e w a (ch, k)).2 < 2 ^ (k + 1) := by
  unfold countChannel
  dsimp only
  split <;> omega

/-- Every channel adds its own bit at most once, so channels from index `k` on leave a value below the bit after the last. -/
theorem foldl_countChannel_lt (set : List Nat) (k : Nat) (a : Tab Nat × Nat) (h : a.2 < 2 ^ k) :
    ((set.zipIdx k).foldl (countChannel e w) a).2 < 2 ^ (k + set.length) := by
  induction set generalizing k a with
  | nil => exact h
  | cons ch set ih =>
    rw [List.zipIdx_cons, List.foldl_cons, List.length_cons, Nat.add_comm set.length, ← Nat.add_assoc]
    exact ih _ _ (countChannel_lt e w h)

theorem counted_lt (h : e.card.set.length ≤ 64) : (counted e w).2 < 2 ^ 64 :=
  calc (counted e w).2 < 2 ^ (0 + e.card.set.length) := foldl_countChannel_lt e w _ 0 _ Nat.one_pos
    _ ≤ 2 ^ 64 := Nat.pow_le_pow_right Nat.two_pos (by omega)

theorem counted_V_ne_zero (h : e.card.set.length ≤ 64) : BitVec.ofNat 64 (counted e w).2 ≠ 0 ↔ (counted e w).2 ≠ 0 := by
  rw [ne_eq, ← BitVec.toNat_inj, BitVec.toNat_ofNat, Nat.mod_eq_of_lt (counted_lt e w h)]
  rfl

end Count

/-! ## The stage at hand (R112, R487) -/

section Stages
variable {s : State} {x : Side} {i : Nat} {e : Exec} {w : Word} (hx : s.active = some x)
  (hst : (s.ctrl x).stageOn i = some (e, w))
include hx hst

theorem onStage_advances {t : Nat} (hrun : (s.ctrl x).enginesRun = true) (hhalt : ((s.ctrl x).engine i).halted = false)
    (hbreak : (s.ctrl x).breaksAt e = false ∨ ((s.ctrl x).engine i).pass = true) (ht : sType w = t) :
    s.onStage i t = s.advance x i e w := by
  rw [State.onStage, onActive_of_active hx]
  simp only [hst]
  exact if_pos (by simp [ht, hrun, hhalt, hbreak])

theorem execEngineBreakpointHit_halts (hbreak : (s.ctrl x).breaksAt e = true) (hhalt : ((s.ctrl x).engine i).halted = false)
    (hpass : ((s.ctrl x).engine i).pass = false) :
    execEngineBreakpointHit i s =
      .next (s.setCtrl x ((s.ctrl x).setEngine i { (s.ctrl x).engine i with halted := true })) := by
  rw [execEngineBreakpointHit, onActive_of_active hx]
  simp only [hst]
  exact congrArg _ (if_pos (by simp [hbreak, hhalt, hpass]))

theorem execEngineStep_halted (hhalt : ((s.ctrl x).engine i).halted = true) :
    execEngineStep i s = .next (((s.setCtrl x ((s.ctrl x).setEngine i
      { (s.ctrl x).engine i with slow := false })).advance x i e w).modCtrl x fun d =>
        d.setEngine i { d.engine i with slow := ((s.ctrl x).engine i).slow, halted := (d.engine i).run.isSome }) := by
  rw [execEngineStep, onActive_of_active hx]
  simp only [hst]
  exact congrArg _ (if_pos hhalt)

end Stages

/-! ## Requests answered without an entry (R291) -/

section Answers
variable {s : State} {x : Side} {op : Nat} {q : Req} {p : List Word}

/-- An admitted request that is not journalled, with the answer `r` of its opcode. -/
theorem request_answered {r : State × Nat × List Word} (h : s.admits x op q p = true) (hj : journalled op p = false)
    (hr : (s.entered x op q p).answer x op q p = r) : s.request op q p = .next (State.answered r x q) := by
  rw [request_answers h hj, hr, State.answered]

theorem answer_latest {u : State} (hc : checkSample p (u.ctrl x) = stOk) :
    u.answer x 0x30 q p = (u.setCtrl x (answerLatest p (u.ctrl x) u).1, stOk, (answerLatest p (u.ctrl x) u).2) := if_pos hc

end Answers

/-! ## The obligations of chapter 04 -/

/-- Settles O58: LOGIC by its `OP`; COUNT keeps below 16,384 every counter it writes, and no carry leaves the 64 bits of V. -/
theorem logicAndCountStages : Obligations.LogicAndCountStages := by
  intro s x e w r m
  obtain ⟨hs, hS, hV, hcmds⟩ := stageLogic_keeps s x e w
  refine ⟨hs, hS, hV, hcmds, fun h => ?any, fun h => ?all, stageLogic_not, fun h => ?latch, fun h hl => ?and, fun h hl => ?or, ?count⟩
  case any => simp [r, m, stageLogic_any h]
  case all => simp [r, m, stageLogic_all h]
  case latch =>
    obtain ⟨hT, hlatch⟩ := stageLogic_latch (x := x) (e := e) (s := s) h
    exact ⟨by simp [r, hT], hlatch⟩
  case and => simp [r, stageLogic_and h hl]
  case or => simp [r, stageLogic_or h hl]
  case count =>
    rw [stageCount_eq]
    exact ⟨rfl, rfl, rfl, counted_le e w, fun hlen => bne_iff_ne.trans (counted_V_ne_zero e w hlen).symm,
      fun _ => counted_earlier_stage e w⟩

/-- Settles O6, by the answer of each opcode; LATEST answers so once its checks say OK. -/
theorem requestsWithoutEntryAnswer : Obligations.RequestsWithoutEntryAnswer := by
  intro s x q p
  have hrow (op : Nat) (hj : journalled op p = false) (h : s.admits x op q p = true) :
      s.request op q p = .next (State.answered ((s.entered x op q p).answer x op q p) x q) := request_answered h hj rfl
  exact ⟨hrow 0x10 rfl, hrow 0x23 rfl, hrow 0x24 rfl, hrow 0x41 rfl, hrow 0x50 rfl, hrow 0x78 rfl, hrow 0x60 rfl, hrow 0x68 rfl,
    hrow 0x69 rfl, hrow 0x6A rfl, hrow 0x6B rfl, fun h hj hc => request_answered h hj (answer_latest hc), hrow 0x53 rfl,
    hrow 0x54 rfl, hrow 0x53 rfl, hrow 0x54 rfl⟩

/-- Settles O29: each stage command is `State.onStage` at the type of its stage, and there its guard is what the statement assumes. -/
theorem stageCommandsRun : Obligations.StageCommandsRun := by
  intro s x i e w hx hst
  refine ⟨fun hrun hhalt hbreak => ?_, execEngineBreakpointHit_halts hx hst, execEngineStep_halted hx hst⟩
  have hstage (t : Nat) (ht : sType w = t) :
      (.next (s.onStage i t) : Host.Outcome State Fault Refusal) = .next (s.advance x i e w) :=
    congrArg _ (onStage_advances hx hst hrun hhalt hbreak ht)
  exact ⟨hstage sAcquire, hstage sFilter, hstage sCompare, hstage sCount, hstage sLogic, hstage sSequence, hstage sDrive,
    hstage sForce, hstage sPublish, hstage sCheck, hstage sRelay⟩

end Sys2Proof.Machine
end

section
/-! The statements of chapter 05: the entry that an engine takes, from its own queue or a neighbour's, and when a window makes it SLOW. -/

namespace Sys2Proof.Machine

/-! ## Taking work (R145, R148, R149) -/

section Taking
variable {s : State} {x : Side} {i : Nat} (hx : s.active = some x) (hi : i < 192) (hrun : (s.ctrl x).enginesRun = true)
  (hfree : ((s.ctrl x).engine i).free = true) (hslow : ((s.ctrl x).engine i).slow = false)
include hx hi hrun hfree hslow

theorem execExecutionDispatch_takes_head {e : Exec} {rest : List Exec} (hq : (s.ctrl x).queue (i / 16) = e :: rest) :
    execExecutionDispatch i s = .next ((s.setCtrl x ((s.ctrl x).setQueue (i / 16) rest)).take x i e false) := by
  rw [execExecutionDispatch, onActive_of_active hx]
  simp only [hq]
  exact congrArg _ (if_pos (by simp [hi, hrun, hfree, hslow]))

/-- The head `e` of the queue of the lower-numbered neighbour: the other neighbour's queue has nothing to steal. -/
theorem execLeapfrogExamine_steals_lower {e : Exec} (hq : (s.ctrl x).queue (i / 16) = [])
    (hl : (s.ctrl x).stealable (min ((i / 16 + 1) % 12) ((i / 16 + 11) % 12)) = some e)
    (hh : (s.ctrl x).stealable (max ((i / 16 + 1) % 12) ((i / 16 + 11) % 12)) = none) :
    let j := min ((i / 16 + 1) % 12) ((i / 16 + 11) % 12)
    execLeapfrogExamine i s =
      .next ((s.setCtrl x (((s.ctrl x).setQueue j (((s.ctrl x).queue j).drop 1)).countSteal j (i / 16))).take x i e true) := by
  rw [execLeapfrogExamine, onActive_of_active hx]
  simp only [hl, hh]
  exact congrArg _ (if_pos (by simp [hi, hrun, hfree, hslow, hq]))

/-- The head `e'` of the queue of the higher-numbered neighbour, which is ordered before the other neighbour's. -/
theorem execLeapfrogExamine_steals_higher {e e' : Exec} (hq : (s.ctrl x).queue (i / 16) = [])
    (hl : (s.ctrl x).stealable (min ((i / 16 + 1) % 12) ((i / 16 + 11) % 12)) = some e)
    (hh : (s.ctrl x).stealable (max ((i / 16 + 1) % 12) ((i / 16 + 11) % 12)) = some e') (hp : e'.precedes e = true) :
    let j := max ((i / 16 + 1) % 12) ((i / 16 + 11) % 12)
    execLeapfrogExamine i s =
      .next ((s.setCtrl x (((s.ctrl x).setQueue j (((s.ctrl x).queue j).drop 1)).countSteal j (i / 16))).take x i e' true) := by
  rw [execLeapfrogExamine, onActive_of_active hx]
  simp only [hl, hh, hp, if_true]
  exact congrArg _ (if_pos (by simp [hi, hrun, hfree, hslow, hq]))

end Taking

/-! ## Slow windows (R161) -/

/-- A window makes the engine SLOW: above 1.5 times the costs of its stages, or busy without a completed stage. -/
def Engine.slowIn (g : Engine) (taken : Nat) : Bool :=
  decide (3 * g.winCost < 2 * taken) || ((g.winBusy || g.run.isSome) && !g.winDone)

/-- The consecutive windows of at most 1.2 times the costs, this one included. -/
def Engine.fineWindows (g : Engine) (taken : Nat) : Nat :=
  if decide (5 * taken ≤ 6 * g.winCost) && !g.slowIn taken then g.fine + 1 else 0

/-- The engine with its next window begun. -/
def Engine.nextWindow (g : Engine) : Engine := { g with winCost := 0, winDone := false, winBusy := g.run.isSome }

/-- The engine after a window. -/
def Engine.judged (g : Engine) (taken : Nat) : Engine :=
  if g.slowIn taken then { g.nextWindow with slow := true, fine := 0 }
  else if g.slow && decide (10 ≤ g.fineWindows taken) then { g.nextWindow with slow := false, fine := 0 }
  else { g.nextWindow with fine := if g.slow then g.fineWindows taken else 0 }

theorem execSlowWindow_judges {s : State} {x : Side} {i : Nat} (hx : s.active = some x) (hi : i < 192) (taken : Nat) :
    let g := (s.ctrl x).engine i
    ∃ t, execSlowWindow i taken g.winCost g.winDone (g.winBusy || g.run.isSome) s = .next t ∧
      (t.ctrl x).engine i = g.judged taken := by
  refine ⟨_, rfl, ?_⟩
  rw [onActive_of_active hx]
  simp only [ne_eq, not_true, or_false, Nat.not_le.mpr hi, if_false, State.setCtrl_ctrl]
  exact tget_tset_self ..

section Judged
variable {g : Engine} {taken : Nat}

theorem slowIn_iff : g.slowIn taken = true ↔
    3 * g.winCost < 2 * taken ∨ ((g.winBusy = true ∨ g.run ≠ none) ∧ g.winDone = false) := by
  simp [Engine.slowIn, Option.isSome_iff_ne_none]

theorem slowIn_eq_false (hcost : 2 * taken ≤ 3 * g.winCost) (hstage : g.winDone = true ∨ (g.winBusy = false ∧ g.run = none)) :
    g.slowIn taken = false := by
  rw [← Bool.not_eq_true, slowIn_iff]
  rintro (hover | ⟨hwork, hnone⟩)
  · omega
  · obtain hdone | ⟨hbusy, hrun⟩ := hstage
    · exact absurd hdone (by simp [hnone])
    · exact hwork.elim (by simp [hbusy]) (absurd hrun)

theorem judged_nextWindow : (g.judged taken).run = g.run ∧ (g.judged taken).winCost = 0 ∧ (g.judged taken).winDone = false ∧
    (g.judged taken).winBusy = g.run.isSome := by
  unfold Engine.judged
  split
  · exact ⟨rfl, rfl, rfl, rfl⟩
  · split <;> exact ⟨rfl, rfl, rfl, rfl⟩

theorem judged_of_slowIn (h : g.slowIn taken = true) : (g.judged taken).slow = true ∧ (g.judged taken).fine = 0 := by
  rw [Engine.judged, if_pos h]
  exact ⟨rfl, rfl⟩

section NotSlow
variable (h : g.slowIn taken = false)
include h

theorem judged_stays_fast (hs : g.slow = false) : (g.judged taken).slow = false := by
  simp [Engine.judged, h, hs, Engine.nextWindow]

theorem fineWindows_of_fine (hf : 5 * taken ≤ 6 * g.winCost) : g.fineWindows taken = g.fine + 1 := by
  simp [Engine.fineWindows, h, hf]

theorem judged_stays_slow (hs : g.slow = true) (hn : g.fineWindows taken < 10) :
    (g.judged taken).slow = true ∧ (g.judged taken).fine = g.fineWindows taken := by
  simp [Engine.judged, h, hs, Nat.not_le.mpr hn, Engine.nextWindow]

theorem judged_clears (hs : g.slow = true) (hn : 10 ≤ g.fineWindows taken) : (g.judged taken).slow = false := by
  simp [Engine.judged, h, hs, hn]

end NotSlow

theorem fineWindows_of_above (hf : 6 * g.winCost < 5 * taken) : g.fineWindows taken = 0 := by
  simp [Engine.fineWindows, Nat.not_le.mpr hf]

end Judged

/-! ## The obligations of chapter 05 -/

/-- Settles O28: an engine takes the head of its queue, or else of a neighbour's, and a window judges it by `Engine.judged`. -/
theorem engineCommandsRun : Obligations.EngineCommandsRun := by
  intro s x i hx hi
  refine ⟨fun e rest hq hrun hfree hslow => execExecutionDispatch_takes_head hx hi hrun hfree hslow hq,
    fun e hq hrun hfree hslow => execLeapfrogExamine_steals_lower hx hi hrun hfree hslow hq,
    fun e e' hq hrun hfree hslow => execLeapfrogExamine_steals_higher hx hi hrun hfree hslow hq, fun taken => ?_⟩
  obtain ⟨t, hexec, hjudged⟩ := execSlowWindow_judges hx hi taken
  obtain ⟨hkeep, hcost, hdone, hbusy⟩ := judged_nextWindow (g := (s.ctrl x).engine i) (taken := taken)
  refine ⟨t, hexec, ?_⟩
  dsimp only
  rw [hjudged]
  refine ⟨hkeep, hcost, hdone, hbusy, fun h => judged_of_slowIn (slowIn_iff.mpr h), fun hwin hstage => ?_⟩
  have hslow := slowIn_eq_false hwin hstage
  refine ⟨judged_stays_fast hslow, fun hs hf => ?above, fun hs hf hn => ?fine, fun hs hf hn => ?clears⟩
  case above =>
    have hzero := fineWindows_of_above hf
    exact hzero ▸ judged_stays_slow hslow hs (by omega)
  case fine =>
    have hnext := fineWindows_of_fine hslow hf
    exact hnext ▸ judged_stays_slow hslow hs (by omega)
  case clears =>
    have hnext := fineWindows_of_fine hslow hf
    exact judged_clears hslow hs (by omega)

end Sys2Proof.Machine
end

section
/-! The statements of chapter 06: debounce, captures, protection and verdicts of digital channels, good and bad frames at a pod, the
timers and the power of pods, and what the commands on one channel leave alone. -/

namespace Sys2Proof.Machine

/-! ## What a command on one channel leaves alone -/

/-- From `s` to `t` no controller changes, nor the arbiter, time or the supply, nor a pod but the one of `link`. -/
structure OnlyPod (link : Nat) (s t : State) : Prop where
  ctrlA : t.ctrlA = s.ctrlA
  ctrlB : t.ctrlB = s.ctrlB
  arb : t.arb = s.arb
  now : t.now = s.now
  supply : t.supply = s.supply
  pod : ∀ l, l ≠ link → t.pod l = s.pod l

/-- From `s` to `t` only the digital channel `ch` and its pod change. -/
structure OnlyDig (ch : Nat) (s t : State) : Prop extends OnlyPod (linkOf ch) s t where
  loops : t.loops = s.loops
  dig : ∀ k, k ≠ ch → t.dig k = s.dig k

/-- From `s` to `t` only the loop channel `ch` and its pod change. -/
structure OnlyLoop (ch : Nat) (s t : State) : Prop extends OnlyPod (linkOf ch) s t where
  digs : t.digs = s.digs
  loop : ∀ k, k ≠ ch → t.loop k = s.loop k

section Only
variable {s t u : State} {ch : Nat}

theorem OnlyPod.refl (link : Nat) (s : State) : OnlyPod link s s := ⟨rfl, rfl, rfl, rfl, rfl, fun _ _ => rfl⟩

theorem OnlyPod.trans {link : Nat} (h : OnlyPod link s t) (h' : OnlyPod link t u) : OnlyPod link s u where
  ctrlA := h'.ctrlA.trans h.ctrlA
  ctrlB := h'.ctrlB.trans h.ctrlB
  arb := h'.arb.trans h.arb
  now := h'.now.trans h.now
  supply := h'.supply.trans h.supply
  pod l hl := (h'.pod l hl).trans (h.pod l hl)

theorem onlyPod_setPod (s : State) (link : Nat) (p : Pod) : OnlyPod link s (s.setPod link p) where
  __ := OnlyPod.refl link s
  pod _ hl := setPod_pod_ne s p hl

/-! ### A digital channel -/

theorem OnlyDig.refl (ch : Nat) (s : State) : OnlyDig ch s s := ⟨.refl _ s, rfl, fun _ _ => rfl⟩

theorem OnlyDig.trans (h : OnlyDig ch s t) (h' : OnlyDig ch t u) : OnlyDig ch s u where
  toOnlyPod := h.toOnlyPod.trans h'.toOnlyPod
  loops := h'.loops.trans h.loops
  dig k hk := (h'.dig k hk).trans (h.dig k hk)

theorem onlyDig_setDig (s : State) (ch : Nat) (d : DigCh) : OnlyDig ch s (s.setDig ch d) where
  __ := OnlyDig.refl ch s
  dig _ hk := setDig_dig_ne s d hk

theorem onlyDig_setPod (s : State) (ch : Nat) (p : Pod) : OnlyDig ch s (s.setPod (linkOf ch) p) where
  toOnlyPod := onlyPod_setPod s (linkOf ch) p
  loops := rfl
  dig _ _ := rfl

theorem onlyDig_endHolds (s : State) (ch : Nat) (expired : Bool) : OnlyDig ch s (s.endHolds (linkOf ch) expired) := by
  unfold State.endHolds
  dsimp only
  split <;> exact onlyDig_setPod s ch _

theorem onlyDig_protect (s : State) (ch : Nat) (thermal : Bool) (d : DigCh) : OnlyDig ch s (s.protect ch thermal d) :=
  (onlyDig_setDig s ch _).trans (onlyDig_endHolds _ ch false)

theorem onlyDig_latchEdge (s : State) (ch : Nat) (level raw : Bool) (tick : Nat) :
    OnlyDig ch s (s.latchEdge ch level raw tick) := by
  unfold State.latchEdge
  dsimp only
  split
  · exact .refl ch s
  · split
    · exact onlyDig_setDig s ch _
    · exact (onlyDig_setDig s ch _).trans (onlyDig_setPod _ ch _)

/-! ### A loop channel -/

theorem OnlyLoop.refl (ch : Nat) (s : State) : OnlyLoop ch s s := ⟨.refl _ s, rfl, fun _ _ => rfl⟩

theorem OnlyLoop.trans (h : OnlyLoop ch s t) (h' : OnlyLoop ch t u) : OnlyLoop ch s u where
  toOnlyPod := h.toOnlyPod.trans h'.toOnlyPod
  digs := h'.digs.trans h.digs
  loop k hk := (h'.loop k hk).trans (h.loop k hk)

theorem onlyLoop_setLoop (s : State) (ch : Nat) (l : LoopCh) : OnlyLoop ch s (s.setLoop ch l) where
  __ := OnlyLoop.refl ch s
  loop _ hk := setLoop_loop_ne s l hk

theorem onlyLoop_setPod (s : State) (ch : Nat) (p : Pod) : OnlyLoop ch s (s.setPod (linkOf ch) p) where
  toOnlyPod := onlyPod_setPod s (linkOf ch) p
  digs := rfl
  loop _ _ := rfl

theorem onlyLoop_putLoop (s : State) (ch : Nat) (l : LoopCh) : OnlyLoop ch s (s.putLoop ch l) := by
  obtain ⟨hA, hB, harb, hdigs, hnow, hsupply, hloop, hpod⟩ := putLoop_frame s ch l
  exact ⟨⟨hA, hB, harb, hnow, hsupply, hpod⟩, hdigs, hloop⟩

theorem onlyLoop_setDiag (s : State) (ch bit : Nat) (v : Bool) : OnlyLoop ch s (s.setDiag ch bit v) :=
  onlyLoop_putLoop s ch _

theorem onlyLoop_regulate (s : State) (ch : Nat) (l : LoopCh) : OnlyLoop ch s (s.regulate ch l) :=
  onlyLoop_putLoop s ch _

theorem onlyLoop_putValue (s : State) (ch path index win : Nat) (v : Int) (valid settling interrupted skipped : Bool) :
    OnlyLoop ch s (s.putValue ch path index win v valid settling interrupted skipped) :=
  onlyLoop_setPod s ch _

theorem onlyLoop_markAlarm (s : State) (ch : Nat) (v : Int) : OnlyLoop ch s (s.markAlarm ch v) := by
  unfold State.markAlarm
  dsimp only
  split
  · exact onlyLoop_putLoop s ch _
  · exact .refl ch s

theorem onlyLoop_primary (s : State) (ch index win : Nat) (raw : Int) (valid settling interrupted skipped : Bool) :
    OnlyLoop ch s (s.primary ch index win raw valid settling interrupted skipped) :=
  (onlyLoop_markAlarm s ch _).trans (onlyLoop_putValue ..)

end Only

/-- Every next state of an outcome has a property. -/
def AllNext (P : State → Prop) (o : Host.Outcome State Fault Refusal) : Prop := ∀ t, o = .next t → P t

section AllNext
variable {P : State → Prop} {t : State} {c : Prop} [Decidable c] {a b : Host.Outcome State Fault Refusal}

theorem allNext_next (h : P t) : AllNext P (.next t) := fun _ ht => by cases ht; exact h

theorem allNext_ite (ha : AllNext P a) (hb : AllNext P b) : AllNext P (if c then a else b) := by split <;> assumption

end AllNext

/-! ### The commands of a digital channel -/

section DigCommands
variable (s : State) (ch : Nat)

theorem execShortTrip_onlyDig : AllNext (OnlyDig ch s) (execShortTrip ch s) :=
  allNext_ite (allNext_next (onlyDig_protect ..)) (allNext_next (.refl ch s))

theorem execOverloadTrip_onlyDig : AllNext (OnlyDig ch s) (execOverloadTrip ch s) :=
  allNext_ite (allNext_next (onlyDig_protect ..)) (allNext_next (.refl ch s))

theorem execOvertempTrip_onlyDig (temp : Int) : AllNext (OnlyDig ch s) (execOvertempTrip ch temp s) :=
  allNext_ite (allNext_next (.refl ch s))
    (allNext_ite (allNext_next (onlyDig_protect ..)) (allNext_next (onlyDig_setDig ..)))

theorem execProtectionRetry_onlyDig : AllNext (OnlyDig ch s) (execProtectionRetry ch s) := by
  refine allNext_ite (allNext_next (.refl ch s)) ?_
  split
  · refine allNext_next ?_
    split
    · exact .refl ch s
    · exact onlyDig_setDig ..
  · exact allNext_ite (allNext_next (.refl ch s)) (allNext_next (onlyDig_setDig ..))

theorem execProtectionClear_onlyDig : AllNext (OnlyDig ch s) (execProtectionClear ch s) :=
  allNext_ite (allNext_next (onlyDig_setDig ..)) (allNext_next (.refl ch s))

theorem execMismatchVerdict_onlyDig (differs : Bool) : AllNext (OnlyDig ch s) (execMismatchVerdict ch differs s) :=
  allNext_ite (allNext_next (onlyDig_setDig ..)) (allNext_next (.refl ch s))

theorem execOffStateShortVerdict_onlyDig (high : Bool) : AllNext (OnlyDig ch s) (execOffStateShortVerdict ch high s) :=
  allNext_ite (allNext_next (onlyDig_setDig ..)) (allNext_next (.refl ch s))

theorem execLevelChangeDeferred_onlyDig : AllNext (OnlyDig ch s) (execLevelChangeDeferred ch s) := by
  unfold execLevelChangeDeferred
  dsimp only
  split
  · exact allNext_ite (allNext_next (onlyDig_setDig ..)) (allNext_next (.refl ch s))
  · exact allNext_next (.refl ch s)

theorem execOpenVerdict_onlyDig (isOpen : Bool) : AllNext (OnlyDig ch s) (execOpenVerdict ch isOpen s) :=
  allNext_ite (allNext_next (onlyDig_setDig ..)) (allNext_next (.refl ch s))

theorem execEdgeCapture_onlyDig (level : Bool) (tick : Nat) : AllNext (OnlyDig ch s) (execEdgeCapture ch level tick s) :=
  allNext_ite (allNext_next (onlyDig_latchEdge ..)) (allNext_next (.refl ch s))

end DigCommands

/-! ### The commands of a loop channel -/

section LoopCommands
variable (s : State) (ch : Nat)

theorem execVerifyOpenLoop_onlyLoop : AllNext (OnlyLoop ch s) (execVerifyOpenLoop ch s) :=
  allNext_ite (allNext_next (onlyLoop_setDiag ..)) (allNext_next (.refl ch s))

theorem execVerifyCompliance_onlyLoop : AllNext (OnlyLoop ch s) (execVerifyCompliance ch s) :=
  allNext_ite (allNext_next (onlyLoop_setDiag ..)) (allNext_next (.refl ch s))

theorem execVerifyClear_onlyLoop (bit : Nat) : AllNext (OnlyLoop ch s) (execVerifyClear ch bit s) := by
  refine allNext_ite (allNext_next (.trans ?_ (onlyLoop_setDiag ..)))
    (allNext_next (.refl ch s))
  split
  · exact onlyLoop_setLoop s ch _
  · exact .refl ch s

theorem execSupplyVerdict_onlyLoop (bad : Bool) : AllNext (OnlyLoop ch s) (execSupplyVerdict ch bad s) :=
  allNext_ite (allNext_next (onlyLoop_setDiag ..)) (allNext_next (.refl ch s))

theorem execLoopOverloadVerdict_onlyLoop (exceeds : Bool) : AllNext (OnlyLoop ch s) (execLoopOverloadVerdict ch exceeds s) :=
  allNext_ite (allNext_next (.refl ch s)) (allNext_ite (allNext_next (onlyLoop_setDiag ..))
    (allNext_ite (allNext_next (onlyLoop_setLoop ..)) (allNext_next (.refl ch s))))

theorem execLoopOvertemp_onlyLoop (hot : Bool) : AllNext (OnlyLoop ch s) (execLoopOvertemp ch hot s) :=
  allNext_ite (allNext_next (.refl ch s))
    (allNext_ite (allNext_next (onlyLoop_regulate ..)) (allNext_next (onlyLoop_regulate ..)))

theorem execLoopOvertempFlagClear_onlyLoop : AllNext (OnlyLoop ch s) (execLoopOvertempFlagClear ch s) :=
  allNext_ite (allNext_next (onlyLoop_setDiag ..)) (allNext_next (.refl ch s))

theorem execLoopBreakConfirm_onlyLoop : AllNext (OnlyLoop ch s) (execLoopBreakConfirm ch s) :=
  allNext_ite (allNext_next (onlyLoop_putLoop ..)) (allNext_next (.refl ch s))

theorem execModulatorPowerDown_onlyLoop : AllNext (OnlyLoop ch s) (execModulatorPowerDown ch s) :=
  allNext_ite (allNext_next (onlyLoop_setLoop ..)) (allNext_next (.refl ch s))

theorem execModulatorStartUpEnd_onlyLoop : AllNext (OnlyLoop ch s) (execModulatorStartUpEnd ch s) :=
  allNext_ite (allNext_next (onlyLoop_setLoop ..)) (allNext_next (.refl ch s))

/-- A readback result puts its channel back, and with `RB_REC` queues its value behind that. -/
theorem execReadbackResult_onlyLoop (raw : Int) : AllNext (OnlyLoop ch s) (execReadbackResult ch raw s) := by
  refine allNext_ite (allNext_next (.refl ch s)) (allNext_next ?_)
  split
  · exact (onlyLoop_putLoop s ch _).trans (onlyLoop_putValue ..)
  · exact onlyLoop_putLoop s ch _

theorem execConversionResult_onlyLoop (raw : Int) : AllNext (OnlyLoop ch s) (execConversionResult ch raw s) :=
  allNext_ite (allNext_next (.refl ch s)) (allNext_ite (allNext_next (onlyLoop_setLoop ..))
    (allNext_ite (allNext_next (onlyLoop_setLoop ..))
      (allNext_next ((onlyLoop_setLoop s ch _).trans (onlyLoop_primary ..)))))

end LoopCommands

/-! ## Good and bad frames at a pod (R264 to R271) -/

section Frames
variable {s u v : State} {link : Nat} {h : DownHdr} {w : Word} {used act : Bool}

theorem newRequest_passed_over (ha : act = false) : u.newRequest link act w = none := by simp [State.newRequest, ha]

theorem newRequest_repeated (hr : (u.pod link).reqNo = some (fld w 127 120)) : u.newRequest link act w = none := by
  simp [State.newRequest, hr]

theorem newRequest_new (hl : 64 ≤ link) (hr : (u.pod link).reqNo ≠ some (fld w 127 120)) :
    u.newRequest link true w = some (u.setPod link { u.pod link with reqNo := some (fld w 127 120) }) := by
  simp [State.newRequest, hr, Nat.not_lt.mpr hl]

variable (hf : s.podFrame link h = (u, used, act))
include hf

theorem execPodOutputFrame_of_frame :
    execPodOutputFrame link h w s = .next (if act then u.podOutput link w else u) := by
  rw [execPodOutputFrame, hf]

theorem execPodConfigFrame_of_frame (sub : Nat) :
    execPodConfigFrame link h sub w s = .next (if act then u.podConfig link sub w else u) := by
  rw [execPodConfigFrame, hf]

theorem execPodTimeFrame_of_frame :
    execPodTimeFrame link h w s = .next (if used && (u.pod link).counts == h.side then u.podTime link w else u) := by
  rw [execPodTimeFrame, hf]

theorem execPodFskFrame_passed_over (ha : act = false) : execPodFskFrame link h w s = .next u := by
  simp [execPodFskFrame, hf, ha]

theorem execPodFskFrame_taken (ha : act = true) (hl : 64 ≤ link)
    (hm : u.modemTakes link (chanAt link (fld w 127 126)) = true) (h1 : 1 ≤ fld w 125 122) (h12 : fld w 125 122 ≤ 12) :
    execPodFskFrame link h w s = .next (u.setLoop (chanAt link (fld w 127 126)) { u.loop (chanAt link (fld w 127 126)) with
      txBytes := (u.loop (chanAt link (fld w 127 126))).txBytes ++ toBytes ((numBytes 12 (fld w 95 0)).take (fld w 125 122))
      sending := true }) := by
  have hn : fld w 125 122 ≠ 0 := by omega
  simp [execPodFskFrame, hf, ha, hm, hn, Nat.not_lt.mpr hl, Nat.not_lt.mpr h12]

theorem execPodRequests_not_new (hn : u.newRequest link act w = none) :
    execPodRequestUrgent link h w s = .next u ∧ execPodRequestTrigger link h w s = .next u ∧
      execPodRequestSelfCal link h w s = .next u := by
  simp [execPodRequestUrgent, execPodRequestTrigger, execPodRequestSelfCal, hf, hn]

variable (hn : u.newRequest link act w = some v)
include hn

theorem execPodRequestUrgent_new :
    execPodRequestUrgent link h w s = .next ((reqPositions w).foldl (fun s k => s.startUrgent (chanAt link k)) v) := by
  simp [execPodRequestUrgent, hf, hn]

theorem execPodRequestTrigger_new :
    execPodRequestTrigger link h w s = .next ((reqPositions w).foldl (fun s k =>
      s.startTrigger link (fld w 127 120) ((v.pod link).instantOf v.now (fld w 95 32) + v.trigDelay link w)
        ((v.ctrl h.side).skipReqs.contains (link, fld w 127 120)) (chanAt link k)) v) := by
  simp [execPodRequestTrigger, hf, hn]

theorem execPodRequestSelfCal_new : execPodRequestSelfCal link h w s = .next (v.startCal link) := by
  simp [execPodRequestSelfCal, hf, hn]

end Frames

/-! ## The timers and the power of pods (R184, R193, R279, R368, R369, R506) -/

section Timers
variable {s : State} {link ch : Nat} {hd : Hold}

section Powered
variable (hp : (s.pod link).powered = true)
include hp

theorem execPodBadFrame_powered (x : Side) (hl : link < 96) :
    execPodBadFrame link x s = .next (s.setPod link (if ((s.pod link).rx x).takeBad.st = .hunt then
      ((s.pod link).setRx x ((s.pod link).rx x).takeBad).setClaim x none
      else (s.pod link).setRx x ((s.pod link).rx x).takeBad)) :=
  if_neg (by simp [hp, hl])

theorem execAutonomousHoldStart_silent (hq : (s.pod link).quiet = false) (ha : (s.pod link).lastGoodA + us 250 ≤ s.now)
    (hb : (s.pod link).lastGoodB + us 250 ≤ s.now) (ho : s.isStarting link = false ∨ s.anyOut link = true) :
    execAutonomousHoldStart link s = .next ((s.setPod link { s.pod link with quiet := true }).startHolds link .auto) :=
  if_pos (by simp [hp, hq, ha, hb, ho])

theorem execLeaseLapse_ended (hl : (s.pod link).lease = true) (he : (s.pod link).leaseEnd ≤ s.now) (hc : s.compat = false) :
    execLeaseLapse link s = .next (s.lapse link) :=
  if_pos (by simp [hp, hl, he, hc])

theorem execPodTetherAcceptAny_unleased (hl : (s.pod link).lease = false) (ht : (s.pod link).lastPass + ms 1000 ≤ s.now) :
    execPodTetherAcceptAny link s = .next (s.setPod link { s.pod link with acceptAny := true }) :=
  if_pos (by simp [hp, hl, ht])

theorem execReferenceFallback_silent (hr : (s.pod link).refFallback = false)
    (ht : (s.pod link).lastGood (s.pod link).refSide + us 10 < s.now) :
    execReferenceFallback link s = .next (s.setPod link { s.pod link with
      refFallback := true, refSeq := ((s.pod link).rx (s.pod link).refSide.other).seq
      refStart := frameStart ((s.pod link).lastGood (s.pod link).refSide.other) }) :=
  if_pos (by simp [hp, hr, ht])

end Powered

/-- No lease lapses under COMPAT (R381). -/
theorem execLeaseLapse_compat (hc : s.compat = true) : execLeaseLapse link s = .next s :=
  if_neg (by simp [hc])

section Holds
variable (hp : (s.pod (linkOf ch)).powered = true) (he : hd.ends ≤ s.now)
include hp he

theorem execHoldExpiry_digital (hc : isDigital ch = true) (hh : (s.dig ch).hold = some hd) :
    execHoldExpiry ch s = .next ((s.setDig ch ((s.dig ch).endHold (s.pod (linkOf ch)).mode s.now)).endHolds (linkOf ch)
      hd.counts) := by
  simp [execHoldExpiry, hp, hc, hh, Nat.not_lt.mpr he]

theorem execHoldExpiry_loop (hc : isDigital ch = false) (hl : isLoop ch = true) (hh : (s.loop ch).hold = some hd) :
    execHoldExpiry ch s = .next ((s.putLoop ch ((s.loop ch).endHold (s.pod (linkOf ch)).mode (s.pod (linkOf ch)).alm
      s.now)).endHolds (linkOf ch) hd.counts) := by
  simp [execHoldExpiry, hp, hc, hl, hh, Nat.not_lt.mpr he]

end Holds

theorem execPodPower_in_range {bay : Nat} (hb : bay < 32) :
    execPodPowerUp bay s = .next ((bayLinks bay).foldl State.podUp s) ∧
      execPodPowerDown bay s = .next ((bayLinks bay).foldl State.podDown s) :=
  ⟨if_neg (Nat.not_le.mpr hb), if_neg (Nat.not_le.mpr hb)⟩

end Timers

/-! ## Debounce, captures and protection of a live channel (R172, R179, R184, R185, R187, R188) -/

section Live
variable {s : State} {ch : Nat}

/-- The selected edges of an input fill its capture register, and are counted once it is full (R184). -/
theorem latchEdge_selected {level : Bool} (hi : digIsIn (s.dig ch).cfg = true) (hs : selectsEdge (s.dig ch).cfg level = true)
    (raw : Bool) (tick : Nat) :
    ((s.dig ch).capture = none → s.latchEdge ch level raw tick =
      (s.setDig ch { s.dig ch with lost := 0, capture := some (Capture.mk level raw
        (s.pod (linkOf ch)).refSeq (tick % 1024) (s.pod (linkOf ch)).captures (s.dig ch).lost) }).setPod (linkOf ch)
          { s.pod (linkOf ch) with captures := (s.pod (linkOf ch)).captures + 1 }) ∧
    ((s.dig ch).capture ≠ none → s.latchEdge ch level raw tick =
      s.setDig ch { s.dig ch with lost := satAt 255 ((s.dig ch).lost + 1) }) := by
  have hguard : ¬(!digIsIn (s.dig ch).cfg || !selectsEdge (s.dig ch).cfg level) = true := by simp [hi, hs]
  unfold State.latchEdge
  dsimp only
  rw [if_neg hguard]
  cases hcap : (s.dig ch).capture with
  | none => exact ⟨fun _ => rfl, (absurd rfl ·)⟩
  | some k => exact ⟨nofun, fun _ => rfl⟩

variable (hd : s.digLive ch = true)
include hd

theorem execDebounceChange_early (ht : s.now < (s.dig ch).since + debounceNs (s.modeAt ch) (s.dig ch).cfg) :
    execDebounceChange ch s = .next s :=
  if_pos (by simpa [hd, State.modeAt] using ht)

theorem execDebounceChange_due (ht : (s.dig ch).since + debounceNs (s.modeAt ch) (s.dig ch).cfg ≤ s.now) :
    let u := s.setDig ch { s.dig ch with state := !(s.dig ch).state, since := s.now }
    let v := if auxUse (s.modeAt ch) = 2 then u else u.latchEdge ch (!(s.dig ch).state) false ((s.pod (linkOf ch)).stamp s.now).2
    execDebounceChange ch s =
      .next (if digIsIn (s.dig ch).cfg = true ∧ bitOf (s.dig ch).cfg 80 = true then v.signalWake else v) := by
  have hguard : ¬(!s.digLive ch || decide (s.now < (s.dig ch).since + debounceNs (s.modeAt ch) (s.dig ch).cfg)) = true := by
    simpa [hd] using ht
  simp only [← Bool.and_eq_true]
  exact if_neg hguard

theorem execEdgeCapture_in_use (ha : auxUse (s.modeAt ch) = 2) (level : Bool) (tick : Nat) :
    execEdgeCapture ch level tick s = .next (s.latchEdge ch level true tick) :=
  if_pos (by simp [hd, ha])

theorem execOpenVerdict_stood {o : Bool} (hm : digMode (s.dig ch).cfg = 2) (ha : auxUse (s.modeAt ch) = 1)
    (ho : dbit (s.dig ch).diag dOpen = !o) (ht : (s.dig ch).openFrom + ms 4 ≤ s.now) :
    execOpenVerdict ch o s =
      .next (s.setDig ch { s.dig ch with diag := putBit (s.dig ch).diag dOpen o, openFrom := s.now }) :=
  if_pos (by simp [hd, hm, ha, ho, ht])

section Hot
variable {temp : Int} (ht : 165 ≤ temp)
include ht

theorem execOvertempTrip_output (ho : digIsOut (s.dig ch).cfg = true) :
    execOvertempTrip ch temp s =
      .next (s.protect ch true { s.dig ch with diag := putBit (s.dig ch).diag dOvertemp true }) :=
  (if_neg (by simp [hd, ht])).trans (if_pos ho)

theorem execOvertempTrip_input (ho : digIsOut (s.dig ch).cfg = false) :
    execOvertempTrip ch temp s = .next (s.setDig ch { s.dig ch with diag := putBit (s.dig ch).diag dOvertemp true }) :=
  (if_neg (by simp [hd, ht])).trans (if_neg (by simp [ho]))

end Hot

theorem execProtectionRetry_releases {p : Protection} (hp : (s.dig ch).prot = some p) (hl : ovlLatch (s.dig ch).cfg = false)
    (ht : p.thermal = true ∨ p.since + ms 100 ≤ s.now) :
    execProtectionRetry ch s =
      .next (s.setDig ch ({ (s.dig ch).release with drivingAt := s.now }.settle (s.modeAt ch) s.now)) := by
  have hcooled : (!p.thermal && decide (s.now < p.since + ms 100)) = false := by
    rcases ht with ht | ht
    · simp [ht]
    · simp [Nat.not_lt.mpr ht]
  simp [execProtectionRetry, hd, hp, hl, hcooled]

theorem execLevelChangeDeferred_due {l t : Nat} (hh : (s.dig ch).held = some l) (hc : (s.dig ch).lastChange = some t)
    (ht : t + us 25 ≤ s.now) : execLevelChangeDeferred ch s = .next (s.setDig ch ((s.dig ch).setDrive s.now l)) := by
  simp [execLevelChangeDeferred, hd, hh, hc, ht]

end Live

/-! ## Trips and verdicts of an output (R187, R188, R189) -/

section Drives
variable {s : State} {ch : Nat}

section Output
variable (hd : s.digDrives ch = true)
include hd

theorem execOverloadTrip_high (h2 : (s.dig ch).drive = 2) :
    execOverloadTrip ch s = .next (s.protect ch false { s.dig ch with diag := putBit (s.dig ch).diag dOverload true }) :=
  if_pos (by simp [hd, h2])

theorem execShortTrip_low (h1 : (s.dig ch).drive = 1) :
    execShortTrip ch s = .next (s.protect ch false { s.dig ch with diag := putBit (s.dig ch).diag dShort true }) :=
  if_pos (by simp [hd, h1])

theorem execProtectionClear_driven (hp : (s.dig ch).prot = none) (ht : (s.dig ch).drivingAt + ms 10 ≤ s.now)
    (hw : (s.dig ch).drive = (s.dig ch).wanted (s.modeAt ch)) :
    execProtectionClear ch s = .next (s.setDig ch { s.dig ch with
      diag := putBit (putBit (putBit (putBit (s.dig ch).diag dOverload false) dIlim false) dOvertemp false) dShort false
      offShort := (s.dig ch).offShort && (s.dig ch).drive == 0 }) :=
  if_pos (by simp [hd, hp, ← hw, ht])

theorem execMismatchVerdict_stood {t : Nat} (differs : Bool) (hm : digMode (s.dig ch).cfg = 4) (hdr : (s.dig ch).drive ≠ 0)
    (hc : (s.dig ch).lastChange = some t) (ht : t + us 30 ≤ s.now) :
    execMismatchVerdict ch differs s =
      .next (s.setDig ch { s.dig ch with diag := putBit (s.dig ch).diag dMismatch differs }) :=
  if_pos (by simp [hd, hm, hdr, hc, ht])

theorem execOffStateShortVerdict_stood (high : Bool) (hm : digMode (s.dig ch).cfg = 4) (hdr : (s.dig ch).drive = 0)
    (ht : ∀ t, (s.dig ch).lastChange = some t → t + ms 1 ≤ s.now) :
    execOffStateShortVerdict ch high s = .next (s.setDig ch { s.dig ch with offShort := high }) := by
  refine if_pos ?_
  cases hc : (s.dig ch).lastChange with
  | none => simp [hd, hm, hdr]
  | some t => simp [hd, hm, hdr, ht t hc]

end Output

theorem linkOf_chanAt_digital {pod k : Nat} (hp : pod < 64) (hk : k < 16) : linkOf (chanAt pod k) = pod := by
  simp only [linkOf, chanAt, hp, if_true]
  rw [if_pos (by omega)]
  omega

theorem execPodIlimTrip_single {pod k : Nat} (hp : pod < 64) (hk : k < 16) (hd : s.digDrives (chanAt pod k) = true)
    (h2 : (s.dig (chanAt pod k)).drive = 2) :
    execPodIlimTrip pod [k] s = .next (s.protect (chanAt pod k) false { s.dig (chanAt pod k) with
      diag := putBit (putBit (s.dig (chanAt pod k)).diag dOverload true) dIlim true }) := by
  simp [execPodIlimTrip, insertOnce, hk, hd, h2, Nat.not_le.mpr hp]

end Drives

/-! ## The obligations of chapter 06 -/

/-- Settles O49: each command reads one channel and puts back that channel and its pod. -/
theorem channelCommandsFrame : Obligations.ChannelCommandsFrame := by
  refine ⟨fun i s t ch hi ht => ?digital, fun i s t ch hi ht => ?loop⟩
  case digital =>
    have honly : OnlyDig ch s t := by
      rcases hi with rfl | rfl | ⟨temp, rfl⟩ | rfl | rfl | ⟨d, rfl⟩ | ⟨d, rfl⟩ | rfl | ⟨o, rfl⟩ | ⟨l, k, rfl⟩
      · exact execShortTrip_onlyDig s ch t ht
      · exact execOverloadTrip_onlyDig s ch t ht
      · exact execOvertempTrip_onlyDig s ch temp t ht
      · exact execProtectionRetry_onlyDig s ch t ht
      · exact execProtectionClear_onlyDig s ch t ht
      · exact execMismatchVerdict_onlyDig s ch d t ht
      · exact execOffStateShortVerdict_onlyDig s ch d t ht
      · exact execLevelChangeDeferred_onlyDig s ch t ht
      · exact execOpenVerdict_onlyDig s ch o t ht
      · exact execEdgeCapture_onlyDig s ch l k t ht
    exact ⟨honly.ctrlA, honly.ctrlB, honly.arb, honly.loops, honly.now, honly.supply, honly.dig, honly.pod⟩
  case loop =>
    have honly : OnlyLoop ch s t := by
      rcases hi with rfl | rfl | ⟨b, rfl⟩ | ⟨b, rfl⟩ | ⟨b, rfl⟩ | ⟨b, rfl⟩ | rfl | rfl | rfl | rfl | ⟨r, rfl⟩ | ⟨r, rfl⟩
      · exact execVerifyOpenLoop_onlyLoop s ch t ht
      · exact execVerifyCompliance_onlyLoop s ch t ht
      · exact execVerifyClear_onlyLoop s ch b t ht
      · exact execSupplyVerdict_onlyLoop s ch b t ht
      · exact execLoopOverloadVerdict_onlyLoop s ch b t ht
      · exact execLoopOvertemp_onlyLoop s ch b t ht
      · exact execLoopOvertempFlagClear_onlyLoop s ch t ht
      · exact execLoopBreakConfirm_onlyLoop s ch t ht
      · exact execModulatorPowerDown_onlyLoop s ch t ht
      · exact execModulatorStartUpEnd_onlyLoop s ch t ht
      · exact execReadbackResult_onlyLoop s ch r t ht
      · exact execConversionResult_onlyLoop s ch r t ht
    exact ⟨honly.ctrlA, honly.ctrlB, honly.arb, honly.digs, honly.now, honly.supply, honly.loop, honly.pod⟩

/-- Settles O33: every payload acts on what `State.podFrame` makes of its frame, and a request only under a new number. -/
theorem podFramesRun : Obligations.PodFramesRun := by
  intro s u link h w
  refine ⟨fun hf => ?acted, fun act hf hc => (execPodTimeFrame_of_frame hf).trans (congrArg _ (if_pos (by simp [hc]))), rfl,
    fun used hf => ?passedOver⟩
  case acted =>
    refine ⟨execPodOutputFrame_of_frame hf, execPodConfigFrame_of_frame hf, fun hl hr => ?new,
      execPodFskFrame_taken hf rfl, fun hr => execPodRequests_not_new hf (newRequest_repeated hr)⟩
    have hn := newRequest_new hl hr
    exact ⟨execPodRequestUrgent_new hf hn, execPodRequestTrigger_new hf hn, execPodRequestSelfCal_new hf hn⟩
  case passedOver =>
    obtain ⟨hurgent, htrigger, hcal⟩ := execPodRequests_not_new (w := w) hf (newRequest_passed_over rfl)
    exact ⟨execPodOutputFrame_of_frame hf, execPodConfigFrame_of_frame hf, hurgent, htrigger, hcal,
      execPodFskFrame_passed_over hf rfl⟩

/-- Settles O34: each timer of a powered pod does its action once its instant has come. -/
theorem podTimersRun : Obligations.PodTimersRun := by
  intro s x link
  refine ⟨fun hl hp hst => ?kept, fun hl hp hst => ?hunt, execAutonomousHoldStart_silent, execLeaseLapse_ended,
    execLeaseLapse_compat, fun ch hd hc hh hp he => execHoldExpiry_digital hp he hc hh,
    fun ch hd hc hl hh hp he => execHoldExpiry_loop hp he hc hl hh, execPodTetherAcceptAny_unleased,
    execReferenceFallback_silent, fun bay hb => execPodPower_in_range hb⟩
  case kept =>
    have hexec := execPodBadFrame_powered hp x hl
    rwa [if_neg hst] at hexec
  case hunt =>
    have hexec := execPodBadFrame_powered hp x hl
    rwa [if_pos hst] at hexec

/-- Settles O35: the commands of a live channel, those of an output, and the pod's current limit. -/
theorem digitalCommandsRun : Obligations.DigitalCommandsRun := by
  intro s ch
  refine ⟨fun hd => ?live, fun hd => ?drives, fun pod k hp hk hd h2 => ?limit⟩
  case live =>
    refine ⟨execDebounceChange_due hd, execDebounceChange_early hd, fun level tick ha hi hs => ?_,
      fun o => execOpenVerdict_stood hd, fun temp => execOvertempTrip_output hd, fun temp => execOvertempTrip_input hd,
      fun p => execProtectionRetry_releases hd, fun l t => execLevelChangeDeferred_due hd⟩
    obtain ⟨hfirst, hlater⟩ := latchEdge_selected hi hs true tick
    have hexec := execEdgeCapture_in_use hd ha level tick
    exact ⟨fun hc => hexec.trans (congrArg _ (hfirst hc)), fun hc => hexec.trans (congrArg _ (hlater hc))⟩
  case drives =>
    exact ⟨execOverloadTrip_high hd, execShortTrip_low hd, execProtectionClear_driven hd,
      fun t d => execMismatchVerdict_stood hd d, execOffStateShortVerdict_stood hd⟩
  case limit =>
    have hexec := execPodIlimTrip_single hp hk hd h2
    rwa [State.protect, linkOf_chanAt_digital hp hk] at hexec

end Sys2Proof.Machine
end

section
/-! The statements of chapter 07: accepted trim, fault and storage requests, wire breaks and the verdicts of loop channels,
self-calibration and the other measurements of a loop pod, and what ends a trim capture, an armed window and a test. -/

namespace Sys2Proof.Machine

/-! ## Requests answered at End, and the captures among them (R218, R294, R298) -/

/-- A table of checks answers OK exactly if none of its rows holds. -/
theorem firstFail_eq_ok_iff {rows : List (Bool × Nat)} (hne : ∀ row ∈ rows, row.2 ≠ stOk) :
    firstFail rows = stOk ↔ ∀ row ∈ rows, row.1 = false := by
  induction rows with
  | nil => simp [firstFail]
  | cons row rows ih =>
    obtain ⟨b, st⟩ := row
    obtain ⟨hst, hrest⟩ := List.forall_mem_cons.mp hne
    rw [firstFail, List.forall_mem_cons, ← ih hrest]
    cases b <;> simp [hst]

/-- Every action but the two that arm and RESET is for the session that armed the channel (R217). -/
theorem armedBy_of_checkTrim {q : Req} {p : List Word} {c : Ctrl} (h : checkTrim q p c = stOk) (h2 : 2 ≤ taAction (wordAt p 0))
    (h7 : taAction (wordAt p 0) ≤ 7) : c.armedBy (taChan (wordAt p 0)) q.session = true := by
  unfold checkTrim at h
  rw [firstFail_eq_ok_iff (by simp [stRange, stModeForbids, stBusy, stWorn, stOk])] at h
  have hbusy := h _ (.tail _ (.tail _ (.head _)))
  simp only [h2, h7, decide_true, Bool.true_and, Bool.or_eq_false_iff, Bool.not_eq_false'] at hbusy
  obtain ⟨_, harmed⟩ := hbusy
  exact harmed

theorem arm_of_armedBy {c : Ctrl} {ch session : Nat} (h : c.armedBy ch session = true) : ∃ a, c.arm = some a := by
  rw [Ctrl.armedBy] at h
  split at h
  case h_1 a harm => exact ⟨a, harm⟩
  case h_2 => exact absurd h Bool.false_ne_true

theorem taAction_of_endOp {p : List Word} (h : endOp 0x39 p = true) : taAction (wordAt p 0) = 2 ∨ taAction (wordAt p 0) = 3 := by
  simpa [endOp, taAction] using h

/-- A capture is answered at its end, or has its COMPLETE entry already: its effect forms no reply. -/
theorem trimAction_capture {s : State} {x : Side} {q : Req} {w : Word} {a : Arm} (h : taAction w = 2 ∨ taAction w = 3) :
    s.trimAction x q w a = ((s.trimAction x q w a).1, none) := by
  rcases h with h | h <;> simp only [State.trimAction, h] <;> split <;> rfl

theorem effectTrim_capture {s : State} {x : Side} {q : Req} {p : List Word} {a : Arm} (ha : (s.ctrl x).arm = some a)
    (h : taAction (wordAt p 0) = 2 ∨ taAction (wordAt p 0) = 3) :
    effectTrim x q p s = ((s.trimAction x q (wordAt p 0) a).1, none) := by
  rw [← trimAction_capture h]
  rcases h with h | h <;> simp only [effectTrim, h, ha]

section AnsweredAtEnd
variable {s : State} {x : Side} {op : Nat} {q : Req} {p : List Word}

/-- The entry of a request at its commit leaves the armed channel as it is. -/
theorem begun_arm : ((s.begun x op q p).ctrl x).arm = ((s.entered x op q p).ctrl x).arm := by
  simp [State.begun, State.journalReq, journal_ctrl, Ctrl.setSession, Ctrl.modFlight]

variable (h : s.accepts x op q p = true)
include h

theorem ownStatus_of_accepts : (s.entered x op q p).ownStatus x op q p = stOk := by
  simp only [State.accepts, Bool.and_eq_true, beq_iff_eq] at h
  obtain ⟨⟨_, hstatus⟩, _⟩ := h
  rw [State.commitStatus] at hstatus
  split at hstatus
  case isTrue => exact hstatus
  case isFalse hmode => exact absurd hstatus hmode

/-- An accepted message that is answered at End, with the effect `r` of its opcode. -/
theorem request_ended {r : State × Option (List Word)} (he : endOp op p = true)
    (hr : (s.begun x op q p).effect x op q p (((s.entered x op q p).ctrl x).session q.session).lastEntry = r) :
    s.request op q p = .next (State.ended r x q) := by
  rw [request_accepts h, ended_carry _ _ _ _ _ _ _ hr he]

end AnsweredAtEnd

/-- An accepted capture meets the channel its session has armed. -/
theorem begun_armed_of_capture {s : State} {x : Side} {q : Req} {p : List Word} (h : s.accepts x 0x39 q p = true)
    (hact : taAction (wordAt p 0) = 2 ∨ taAction (wordAt p 0) = 3) : ∃ a, ((s.begun x 0x39 q p).ctrl x).arm = some a := by
  rw [begun_arm]
  exact arm_of_armedBy (armedBy_of_checkTrim (ownStatus_of_accepts h) (by omega) (by omega))

/-! ## Wire breaks (R203) -/

section Breaks
variable {s : State} {ch : Nat}

theorem execLoopBreakRelease_confirmed {raw : Int} (hl : isLoop ch = true) (ht : (s.loop ch).tripped = true)
    (ho : dbit (s.loop ch).diag lOpen = true) :
    let u := s.interrupt ch raw
    execLoopBreakRelease ch raw s = .next (u.putLoop ch { u.loop ch with
      tripped := false, pending := false, diag := putBit (u.loop ch).diag lOpen false }) := by
  simp [execLoopBreakRelease, hl, ht, ho]

theorem execLoopBreakRelease_unconfirmed {raw : Int} (hl : isLoop ch = true) (ht : (s.loop ch).tripped = true)
    (ho : dbit (s.loop ch).diag lOpen = false) :
    execLoopBreakRelease ch raw s = .next (s.putLoop ch { s.loop ch with
      tripped := false, pending := false, diag := putBit (s.loop ch).diag lOpen false }) := by
  simp [execLoopBreakRelease, hl, ht, ho]

variable (hw : s.watchesBreak ch = true)
include hw

theorem isLoop_of_watchesBreak : isLoop ch = true := by
  simp only [State.watchesBreak, Bool.and_eq_true] at hw
  obtain ⟨⟨⟨⟨⟨hloop, _⟩, _⟩, _⟩, _⟩, _⟩ := hw
  exact hloop

theorem execLoopBreakTrip_trips {raw : Int} (ht : (s.loop ch).tripped = false) :
    let u := s.interrupt ch raw
    execLoopBreakTrip ch raw s = .next (u.putLoop ch { u.loop ch with tripped := true, tripAt := s.now, pending := true }) :=
  if_neg (by simp [hw, ht])

theorem execLoopBreakConfirm_stood (ht : (s.loop ch).tripped = true) (hn : (s.loop ch).tripAt + us 1500 ≤ s.now) :
    execLoopBreakConfirm ch s = .next (s.putLoop ch { s.loop ch with diag := putBit (s.loop ch).diag lOpen true }) :=
  if_pos (by simp [hw, ht, hn])

end Breaks

/-! ## Verdicts, overtemperature and ALM (R208, R209, R211, R213, R249, R250) -/

section Verdicts
variable {s : State} {ch : Nat}

theorem execVerify_watched (hw : s.watchesSource ch = true) :
    execVerifyOpenLoop ch s = .next (s.setDiag ch lOpen true) ∧
      execVerifyCompliance ch s = .next (s.setDiag ch lCompliance true) :=
  ⟨if_pos hw, if_pos hw⟩

section Live
variable (hl : s.loopLive ch = true)
include hl

theorem execVerifyClear_output {bit : Nat} (hm : loopMode (s.loop ch).cfg = 2)
    (hb : (bit == lOpen || bit == lCompliance || bit == lMismatch) = true) :
    execVerifyClear ch bit s =
      .next ((if bit = lMismatch then s.setLoop ch { s.loop ch with rbBad := 0 } else s).setDiag ch bit false) :=
  if_pos (by simp only [hl, hm, hb, beq_self_eq_true, Bool.and_self])

theorem execSupplyVerdict_live (bad : Bool) : execSupplyVerdict ch bad s = .next (s.setDiag ch lSupply bad) := if_pos hl

theorem execLoopOverloadVerdict_input (hm : loopMode (s.loop ch).cfg = 1) (exceeds : Bool) :
    execLoopOverloadVerdict ch exceeds s = .next (s.setDiag ch lOverload exceeds) :=
  (if_neg (by simp [hl])).trans (if_pos hm)

theorem execLoopOverloadVerdict_output (hm : loopMode (s.loop ch).cfg = 2) (exceeds : Bool) :
    execLoopOverloadVerdict ch exceeds s =
      .next (if exceeds then s.setLoop ch { s.loop ch with clampAt := some s.now } else s) := by
  cases exceeds <;> simp [execLoopOverloadVerdict, hl, hm]

theorem execLoopOvertemp_stops (hh : (s.loop ch).hot = false) : execLoopOvertemp ch true s =
    .next (s.regulate ch { s.loop ch with hot := true, diag := putBit (s.loop ch).diag lOvertemp true }) :=
  (if_neg (by simp [hl, hh])).trans (if_pos rfl)

theorem execLoopOvertemp_resumes (hh : (s.loop ch).hot = true) :
    execLoopOvertemp ch false s = .next (s.regulate ch { s.loop ch with hot := false, coolAt := s.now }) :=
  (if_neg (by simp [hl, hh])).trans (if_neg Bool.false_ne_true)

theorem execLoopOvertempFlagClear_cooled (hh : (s.loop ch).hot = false) (ht : (s.loop ch).coolAt + ms 10 ≤ s.now) :
    execLoopOvertempFlagClear ch s = .next (s.setDiag ch lOvertemp false) :=
  if_pos (by simp [hl, hh, ht])

end Live

/-- A level that stands at `ALM` is taken, and told to the sessions if it is not the one read before (R211). -/
theorem execAlmChange_taken {pod level : Nat} (hp : pod < 32) (hl : level < 4) (hpow : (s.pod (64 + pod)).powered = true)
    (hr : (s.pod (64 + pod)).almRead = true) :
    let u := (linkChans (64 + pod)).foldl (fun s ch => s.regulate ch (s.loop ch))
      (s.setPod (64 + pod) { s.pod (64 + pod) with alm := level, almRead := true })
    execAlmChange pod level s =
      .next (if (s.pod (64 + pod)).alm ≠ level then u.publish 0x0C pod [mkw [(127, 126, level)]] else u) := by
  have hstands : ¬(decide (32 ≤ pod) || !(s.pod (64 + pod)).powered || decide (4 ≤ level)) = true := by
    simp [hpow, Nat.not_le.mpr hp, Nat.not_le.mpr hl]
  simp only [execAlmChange, if_neg hstands, hr, if_true, bne_iff_ne]

end Verdicts

/-! ## Self-calibration and the channels of a loop pod (R251, R253) -/

/-! ### The channels of a loop pod -/

theorem chanAt_loop (pod k : Nat) : chanAt (64 + pod) k = 0x400 + 4 * pod + k := by
  simp [chanAt]

section LoopPod
variable {pod k : Nat} (hk : k < 4)
include hk

theorem linkOf_chanAt_loop : linkOf (chanAt (64 + pod) k) = 64 + pod := by
  rw [chanAt_loop, linkOf, if_neg (by omega)]
  omega

theorem pinOf_chanAt_loop : pinOf (chanAt (64 + pod) k) = k := by
  rw [chanAt_loop, pinOf, if_neg (by omega)]
  omega

theorem isLoop_chanAt (hp : pod < 32) : isLoop (chanAt (64 + pod) k) = true := by
  rw [chanAt_loop, isLoop_iff]
  omega

end LoopPod

/-! ### The phase of a self-calibration -/

section Phase
variable {s : State}

theorem pod_of_core {t : State} (h : t.core = s.core) (l : Nat) : t.pod l = s.pod l :=
  congrArg (fun k : Framed => tget ({} : Pod) k.2.1 l) h

/-- A pod put back in the phase it was in leaves the phase of every pod. -/
theorem setPod_calPhase {link : Nat} {p : Pod} (h : p.calPhase = (s.pod link).calPhase) (l : Nat) :
    ((s.setPod link p).pod l).calPhase = (s.pod l).calPhase := by
  by_cases hl : l = link
  · rw [hl, State.setPod_pod, h]
  · rw [setPod_pod_ne s p hl]

theorem putLoop_calPhase (s : State) (ch : Nat) (d : LoopCh) (l : Nat) :
    ((s.putLoop ch d).pod l).calPhase = (s.pod l).calPhase := by
  unfold State.putLoop
  dsimp only
  split
  · rfl
  · exact setPod_calPhase (by rfl) l

theorem calRestart_calPhase (s : State) (ch : Nat) (d : CalData) (l : Nat) :
    ((s.calRestart ch d).pod l).calPhase = (s.pod l).calPhase := by
  unfold State.calRestart
  dsimp only
  rw [putLoop_calPhase]
  split
  · rw [pod_of_core (State_convLost_core ..)]
  · rfl

theorem startUrgent_calPhase (s : State) (ch l : Nat) : ((s.startUrgent ch).pod l).calPhase = (s.pod l).calPhase := by
  unfold State.startUrgent
  dsimp only
  split
  · rw [pod_of_core (State_convLost_core ..)]
  · split
    · exact setPod_calPhase (by rfl) l
    · split
      · rfl
      · split
        · exact congrArg Pod.calPhase (pod_of_core (State_convLost_core ..) l)
        · rfl

variable {pod : Nat} (hp : pod < 32) (hpow : (s.pod (64 + pod)).powered = true)
include hp hpow

theorem execSelfCalPhaseEnd_due (h1 : 1 ≤ (s.pod (64 + pod)).calPhase) (h7 : (s.pod (64 + pod)).calPhase ≤ 7)
    (ht : (s.pod (64 + pod)).calStart + ms (160 * (s.pod (64 + pod)).calPhase) ≤ s.now) :
    execSelfCalPhaseEnd pod s =
      .next (s.setPod (64 + pod) { s.pod (64 + pod) with calPhase := (s.pod (64 + pod)).calPhase + 1 }) :=
  if_pos (by simp [hp, hpow, h1, h7, ht])

/-- The end of a self-calibration restarts the channels and tells its results, in a pod that no phase holds any more. -/
theorem execSelfCalEnd_ends (hc : (s.pod (64 + pod)).calPhase ≠ 0) (ht : (s.pod (64 + pod)).calStart + ms 1280 ≤ s.now)
    (temp priOff rbOff priGain rbGain diff current refDev : List Int) :
    ∃ t, execSelfCalEnd pod temp priOff rbOff priGain rbGain diff current refDev s = .next t ∧
      (t.pod (64 + pod)).calPhase = 0 := by
  refine ⟨_, if_neg (by simp [hpow, hc, Nat.not_le.mpr hp, Nat.not_lt.mpr ht]), ?_⟩
  rw [pod_of_core (State_tellCal_core ..)]
  refine (foldl_keeps (fun u : State => (u.pod (64 + pod)).calPhase) (fun u _ => startUrgent_calPhase u _ _) ..).trans ?_
  refine (foldl_keeps (fun u : State => (u.pod (64 + pod)).calPhase) (fun u _ => calRestart_calPhase u _ _ _) ..).trans ?_
  rw [State.setPod_pod]

end Phase

section Departure
variable {s : State} {ch : Nat}

/-- What a turn of any controller keeps, the turn of the ACTIVE one keeps. -/
theorem onActive_keeps {γ : Type} (m : State → γ) {f : Side → Ctrl → State} (h : ∀ x c, m (f x c) = m s) :
    m (s.onActive f) = m s := by
  unfold State.onActive
  split
  · rfl
  · exact h _ _

theorem execCalTempDeparture_departs {temp : Int} (hl : isLoop ch = true) (hpow : (s.pod (linkOf ch)).powered = true)
    (hc : (s.loop ch).calCount ≠ 0) (hd : (s.loop ch).departed = false)
    (ht : 20 < (temp - sext 8 (s.loop ch).calTemp.toNat).natAbs) :
    ∃ t, execCalTempDeparture ch temp s = .next t ∧ (t.loop ch).departed = true ∧ t.pods = s.pods := by
  refine ⟨_, if_pos (by simp [hl, hpow, hc, hd, ht]), ?_⟩
  constructor
  · refine (onActive_keeps (fun u : State => (u.loop ch).departed) fun x c => ?_).trans ?_
    · exact congrArg (fun ls => (tget {} ls ch).departed) (State.setCtrl_loops ..)
    · rw [State.setLoop_loop]
  · exact onActive_keeps State.pods fun x c => State.setCtrl_pods ..

end Departure

/-! ## Diagnostic inputs and FSK characters (R227, R256) -/

/-- Where an input is the one measured, its limits are those of the measurement. -/
theorem ite_outOfLimit {γ : Type} (sub measured : Nat) (v : Int) (f : Bool → γ) (other : γ) :
    (if measured = sub then f (outOfLimit measured v) else other) = if measured = sub then f (outOfLimit sub v) else other :=
  ite_congr rfl (fun h => by rw [h]) fun _ => rfl

theorem execDiagInputMeasurement_powered {s : State} {pod : Nat} (hp : pod < 32) (hpow : (s.pod (64 + pod)).powered = true)
    (v : Int) :
    let p := s.pod (64 + pod)
    execDiagInputMeasurement pod v s = .next (s.setPod (64 + pod) { p with
      diagNext := if p.diagNext = 3 then 1 else p.diagNext + 1
      refBad := if p.diagNext = 1 then (if outOfLimit 1 v then 2 else p.refBad - 1) else p.refBad
      supplyBad := if p.diagNext = 2 then outOfLimit 2 v else p.supplyBad
      items := p.items ++ [.diag 0 (fld (mkw [(63, 40, twos 24 v), (39, 39, b2n (outOfLimit p.diagNext v)),
        (38, 36, p.diagNext)]) 63 32) (p.stamp s.now).1 (p.stamp s.now).2] }) := by
  dsimp only
  rw [← ite_outOfLimit 1 _ v fun bad => if bad then 2 else (s.pod (64 + pod)).refBad - 1, ← ite_outOfLimit 2 _ v fun bad => bad]
  exact if_neg (by simp [hpow, Nat.not_le.mpr hp])

/-- A field that is 0 adds nothing to a word. -/
theorem mkw_skip_zero (f : Nat × Nat × Nat) (hi lo : Nat) (fs : List (Nat × Nat × Nat)) :
    mkw (f :: (hi, lo, 0) :: fs) = mkw (f :: fs) := by
  simp [mkw]

theorem execFskCharacter_single {s : State} {ch : Nat} (hl : s.loopLive ch = true)
    (ha : fskActs (s.pod (linkOf ch)).mode (s.loop ch).cfg = true) (b : Byte) (first last err : Bool) :
    let p := s.pod (linkOf ch)
    execFskCharacter ch [b] first last err s = .next (s.setPod (linkOf ch) { p with
      items := p.items ++ [.fsk (pinOf ch) (fld (mkw [(63, 56, b.toNat), (39, 38, 1), (37, 37, b2n first), (36, 36, b2n last),
        (35, 35, b2n err)]) 63 32) (p.stamp s.now).1 (p.stamp s.now).2] }) := by
  dsimp only
  rw [← mkw_skip_zero _ 47 40, ← mkw_skip_zero _ 55 48]
  exact if_neg (by simp [hl, ha])

/-! ## Trim captures, buttons, and the ends of an armed window and of a test (R218, R219, R220, R317) -/

section TrimEvents
variable {s : State} {x : Side} {m : Arm}

theorem steps_judge_ch (span : Bool) (mean half1 half2 : Int) (ok : Bool) (now : Nat) :
    ((m.judge span mean half1 half2).2.steps ok now).ch = m.ch := by
  unfold Arm.judge
  dsimp only
  split
  · rfl
  · split <;> split <;> rfl

/-- A capture whose halves are more than 2 µA apart is unsteady (R218). -/
theorem judge_unsteady {span : Bool} {mean half1 half2 : Int} (h : 2000 < (half1 - half2).natAbs) :
    m.judge span mean half1 half2 = (1, m) :=
  if_pos h

variable (hx : s.active = some x)
include hx

theorem execTestDriveExpiry_over {ch : Nat} {t : Test} (ht : (s.ctrl x).test ch = some t) (he : t.ends ≤ s.now) :
    execTestDriveExpiry ch s = .next (s.setCtrl x (s.endTest (s.ctrl x) ch 0)) := by
  simp only [execTestDriveExpiry, onActive_of_active hx, ht, if_pos he]

variable (ha : (s.ctrl x).arm = some m)
include ha

theorem press_taken (span : Bool) (ho : m.out = false) (hc : m.capture = none) : s.press span = s.startCapture x m span none := by
  simp [State.press, onActive_of_active hx, ha, ho, hc]

theorem press_output (span : Bool) (ho : m.out = true) : s.press span = s := by
  simp [State.press, onActive_of_active hx, ha, ho]

theorem execTrimButtonsHeld_armed : execTrimButtonsHeld s = .next ((s.endArm x 5).tellTrim x none m.ch (m.done 0 0)) := by
  simp only [execTrimButtonsHeld, onActive_of_active hx, ha]

theorem execTrimWindowExpiry_armed : execTrimWindowExpiry s = .next (if m.ends ≤ s.now then s.endArm x 4 else s) := by
  simp only [execTrimWindowExpiry, onActive_of_active hx, ha]

/-- The end of a capture that commits nothing: any of the zero, and one of the span that its judgement refuses. -/
theorem execTrimCaptureEnd_judged {span : Bool} {tag : Option Nat} {mean half1 half2 : Int} (hc : m.capture = some (span, tag))
    (ht : m.startAt + ms 1000 ≤ s.now)
    (hr : (span && (({ m with capture := none } : Arm).judge span mean half1 half2).1 == 0) = false) :
    let r := ({ m with capture := none } : Arm).judge span mean half1 half2
    let a := r.2.steps (r.1 == 0) s.now
    execTrimCaptureEnd mean half1 half2 s =
      .next ((s.modCtrl x fun c => c.putArm a).tellTrim x tag m.ch (a.reply s.now r.1)) := by
  simp only [execTrimCaptureEnd, onActive_of_active hx, ha, hc, if_neg (Nat.not_lt.mpr ht), hr, Bool.false_eq_true, if_false,
    steps_judge_ch]

end TrimEvents

/-! ## The obligations of chapter 07 -/

/-- Settles O9: the rows of TRIM_ARM stand for one request, a capture meets the channel its session has armed, and the effect of each
other opcode forms its reply; KEEP_WRITE is answered at End. -/
theorem trimFaultAndStorageRequestsRun : Obligations.TrimFaultAndStorageRequestsRun := by
  intro s x q p
  refine ⟨fun h he => ?answered, fun h he => ?captured, fun h => request_replied h rfl rfl, fun h => request_replied h rfl rfl,
    fun h => request_settled h rfl rfl, fun h => request_replied h rfl rfl, fun h => request_replied h rfl rfl,
    fun h => request_ended h rfl rfl⟩
  case answered =>
    have run : s.request 0x39 q p = .next (State.settled (effectTrim x q p (s.begun x 0x39 q p)) x q) := request_settled h he rfl
    exact ⟨run, run, run, run, run, run, run⟩
  case captured =>
    have hact := taAction_of_endOp he
    obtain ⟨a, ha⟩ := begun_armed_of_capture h hact
    have run : s.request 0x39 q p = .next (((s.begun x 0x39 q p).trimAction x q (wordAt p 0) a).1.syncTags x) :=
      request_deferred h (effectTrim_capture ha hact)
    exact ⟨a, ha, run, run⟩

/-- Settles O37, a branch of the commands of wire breaks, of the verdicts and of ALM for each clause. -/
theorem loopVerdictsRun : Obligations.LoopVerdictsRun := by
  intro s ch raw
  refine ⟨fun hw => ?breaks, execVerify_watched, fun hl => ?live, fun pod level hp hv hpow hr hne => ?told,
    fun pod level hp hv hpow hr heq => ?same⟩
  case breaks =>
    have hl := isLoop_of_watchesBreak hw
    exact ⟨execLoopBreakTrip_trips hw, execLoopBreakConfirm_stood hw, execLoopBreakRelease_confirmed hl,
      execLoopBreakRelease_unconfirmed hl⟩
  case live =>
    exact ⟨fun hm => ⟨execVerifyClear_output hl hm rfl, execVerifyClear_output hl hm rfl, execVerifyClear_output hl hm rfl⟩,
      execSupplyVerdict_live hl, execLoopOverloadVerdict_input hl,
      fun hm => ⟨execLoopOverloadVerdict_output hl hm true, execLoopOverloadVerdict_output hl hm false⟩,
      execLoopOvertemp_stops hl, execLoopOvertemp_resumes hl, execLoopOvertempFlagClear_cooled hl⟩
  case told => exact (execAlmChange_taken hp hv hpow hr).trans (congrArg _ (if_pos hne))
  case same => exact (execAlmChange_taken hp hv hpow hr).trans (congrArg _ (if_neg (not_not.mpr heq)))

/-- Settles O38: a pod's position `k` is the loop channel whose commands act on the pod, and what follows a self-calibration keeps its
phase 0. -/
theorem podMeasurementsRun : Obligations.PodMeasurementsRun := by
  intro s pod hp hpow p
  refine ⟨execSelfCalPhaseEnd_due hp hpow, fun a b c d e f g h hc ht => execSelfCalEnd_ends hp hpow hc ht a b c d e f g h,
    fun k temp hk => ?departure, execDiagInputMeasurement_powered hp hpow, fun k b first last err hk hl hf => ?character⟩
  case departure =>
    exact execCalTempDeparture_departs (isLoop_chanAt hk hp) (by rwa [linkOf_chanAt_loop hk])
  case character =>
    have hexec := execFskCharacter_single hl (by rwa [linkOf_chanAt_loop hk]) b first last err
    rwa [linkOf_chanAt_loop hk, pinOf_chanAt_loop hk] at hexec

/-- Settles O40: with a channel armed at the ACTIVE controller each event takes the branch of its clause. -/
theorem trimEventsRun : Obligations.TrimEventsRun := by
  intro s x m hx ha
  refine ⟨fun ho hc => ⟨congrArg _ (press_taken hx ha false ho hc), congrArg _ (press_taken hx ha true ho hc)⟩,
    fun ho => ⟨congrArg _ (press_output hx ha false ho), congrArg _ (press_output hx ha true ho)⟩,
    execTrimButtonsHeld_armed hx ha, fun he => ?expires, fun he => ?runs,
    fun mean h1 h2 tag hc ht => execTrimCaptureEnd_judged hx ha hc ht rfl, fun mean h1 h2 tag hc ht hu => ?unsteady,
    fun ch t => execTestDriveExpiry_over hx⟩
  case expires => exact (execTrimWindowExpiry_armed hx ha).trans (congrArg _ (if_pos he))
  case runs => exact (execTrimWindowExpiry_armed hx ha).trans (congrArg _ (if_neg (Nat.not_le.mpr he)))
  case unsteady =>
    have hexec := execTrimCaptureEnd_judged (mean := mean) hx ha hc ht (by rw [judge_unsteady hu]; rfl)
    rwa [judge_unsteady hu] at hexec

end Sys2Proof.Machine
end

section
/-! The statements of chapter 08: the ends of conversion windows, a readback result, and the power of a modulator. -/

namespace Sys2Proof.Machine

/-! ## The ends of windows (R229, R241, R243, R247) -/

section Windows
variable {s : State} {ch : Nat} {raw : Int}

/-- No window of CONT or LOCKED ends between the instants of the grid or the boundaries (R238, R242). -/
theorem execConversionResult_within (hw : s.windowEnds ch = false) : execConversionResult ch raw s = .next s :=
  if_pos (by simp [hw])

variable (hc : s.converts ch = true)
include hc

section Continuous
variable (hk : convKind (s.loop ch).conv ≠ 2) (hu : (s.loop ch).urgent = false) (hw : s.windowEnds ch = true)
include hk hu hw

/-- A window of CONT or LOCKED that ends is taken up where no urgent one stands in its place (R229, R247). -/
theorem conversion_due :
    ¬(!s.converts ch || convKind (s.loop ch).conv == 2 || (s.loop ch).urgent || !s.windowEnds ch) = true := by
  simp [hc, hk, hu, hw]

/-- The first boundary after a lock of AS0 makes no result and restarts the decimator (R241). -/
theorem execConversionResult_relocks (hr : (s.loop ch).relock = true) (hp : (s.pod (linkOf ch)).locks (s.loop ch) = true) :
    execConversionResult ch raw s = .next (s.setLoop ch ({ s.closeWindow ch with
      relock := false, trigSkip := false, aborts := satAt 255 ((s.loop ch).aborts + 1) }.restart (s.loop ch).gridNo)) :=
  (if_neg (conversion_due hc hk hu hw)).trans (if_pos (by simp [hr, hp]))

section Locked
variable (hr : (s.loop ch).relock = false ∨ (s.pod (linkOf ch)).locks (s.loop ch) = false)
include hr

/-- The window in progress at an interrupted result is left without one (R249). -/
theorem execConversionResult_skips (hs : (s.loop ch).skipFirst = true) (hp : (s.pod (linkOf ch)).calPhase = 0) :
    execConversionResult ch raw s = .next (s.setLoop ch { s.closeWindow ch with skipFirst := false }) :=
  (if_neg (conversion_due hc hk hu hw)).trans <| (if_neg (by simpa [or_iff_not_imp_left] using hr)).trans <|
    if_pos (by simp [hs, hp])

/-- Every other window makes a result, the mean of its sub-windows in CYCLE form (R229, R230). -/
theorem execConversionResult_results (hs : (s.loop ch).skipFirst = false ∨ (s.pod (linkOf ch)).calPhase ≠ 0) :
    let l := s.loop ch
    let i := (s.pod (linkOf ch)).indexNow s.now l
    let r := (s.closeWindow ch).addSegment (l.priRaw raw)
    execConversionResult ch raw s = .next ((s.setLoop ch { r.2 with
      index := l.nextIndex i, settle := l.settle - 1, trigSkip := false, skipFirst := false, lastResult := s.now }).primary
        ch i (s.windowNs ch) r.1 true (l.settle != 0) false l.trigSkip) :=
  (if_neg (conversion_due hc hk hu hw)).trans <| (if_neg (by simpa [or_iff_not_imp_left] using hr)).trans <|
    if_neg (by simpa [or_iff_not_imp_left] using hs)

end Locked
end Continuous

theorem execTriggeredConversionEnd_results (hk : convKind (s.loop ch).conv = 2) (ht : (s.loop ch).trigRun = true)
    (he : (s.loop ch).trigStart + s.windowNs ch ≤ s.now + 488) :
    execTriggeredConversionEnd ch raw s = .next (((s.setLoop ch { s.loop ch with
      trigRun := false, trigSkip := false, lastResult := s.now }).primary ch 0 (s.windowNs ch) ((s.loop ch).priRaw raw)
        true false false (s.loop ch).trigSkip).convWritten ch false) :=
  if_neg (by simp [hc, hk, ht, he])

theorem execUrgentConversionEnd_results (hu : (s.loop ch).urgent = true) (hp : (s.pod (linkOf ch)).calPhase = 0) :
    let l := s.loop ch
    execUrgentConversionEnd ch raw s = .next (((s.setLoop ch ({ l with
      urgent := false, index := l.nextIndex l.urgentIndex, lastResult := s.now, trigSkip := false }.restart
        (s.gridNow l))).primary ch l.urgentIndex urgentNs (l.priRaw raw) true false false false).convWritten ch true) :=
  if_neg (by simp [hc, hu, hp])

/-! ## The power of the modulator (R244, R246) -/

theorem execModulatorPowerDown_idle (hm : loopMode (s.loop ch).cfg = 1) (hk : convKind (s.loop ch).conv = 2)
    (hi : fld (s.loop ch).conv 66 59 ≠ 0) (ht : (s.loop ch).trigRun = false) (hu : (s.loop ch).urgent = false)
    (he : (s.loop ch).lastResult + ms (10 * fld (s.loop ch).conv 66 59) ≤ s.now) :
    execModulatorPowerDown ch s = .next (s.setLoop ch { s.loop ch with powered := false }) :=
  if_pos (by simp [hc, hm, hk, hi, ht, hu, he])

end Windows

theorem execModulatorStartUpEnd_started {s : State} {ch : Nat} (hl : isLoop ch = true) (hs : (s.loop ch).starting = true) :
    execModulatorStartUpEnd ch s = .next (s.setLoop ch ({ s.loop ch with
      starting := false, powered := true }.restart (s.gridNow (s.loop ch)))) :=
  if_pos (by simp [hl, hs])

/-! ## A readback result (R208, R229) -/

section Readback
variable (s : State) (ch : Nat)

@[simp] theorem putLoop_loop (l : LoopCh) : (s.putLoop ch l).loop ch = l := by
  unfold State.putLoop
  dsimp only
  split <;> exact State.setLoop_loop s ch l

/-- Without a change of `DIAG` or `PENDING` a channel put back queues no item (R258). -/
theorem putLoop_items_of_same {l : LoopCh} (hd : l.diag = (s.loop ch).diag) (hp : l.pending = (s.loop ch).pending) (k : Nat) :
    ((s.putLoop ch l).pod k).items = (s.pod k).items := by
  rw [State.putLoop, if_pos ⟨hd.symm, hp.symm⟩]
  rfl

@[simp] theorem putValue_loop (path index win : Nat) (v : Int) (valid settling interrupted skipped : Bool) (k : Nat) :
    (s.putValue ch path index win v valid settling interrupted skipped).loop k = s.loop k := rfl

/-- A value stands behind the items that its pod had queued, saturated, and 0 while the pod calibrates (R198, R252, R257). -/
theorem putValue_items (path index win : Nat) (v : Int) (valid settling interrupted skipped : Bool) :
    ∃ pre flags r k, ((s.putValue ch path index win v valid settling interrupted skipped).pod (linkOf ch)).items =
      pre ++ [.value (pinOf ch) path index
        (if (s.pod (linkOf ch)).calPhase ≠ 0 then 0 else clampI (-500000) 12500000 v) flags r k] := by
  simp only [State.putValue, State.setPod_pod, bne_iff_ne]
  exact ⟨_, _, _, _, rfl⟩

variable {s ch}

/-- A readback result counts its index on and leaves `PENDING`, and with `RB_REC` it queues its value. -/
theorem execReadbackResult_taken (raw : Int) (hl : isLoop ch = true) (hpow : (s.pod (linkOf ch)).powered = true)
    (hcfg : (s.loop ch).configured = true) (hm : loopMode (s.loop ch).cfg ≠ 0) (hh : loopHeld (s.pod (linkOf ch)).mode = false) :
    ∃ d : LoopCh, d.rbIndex = ((s.loop ch).rbIndex + 1) % 64 ∧ d.pending = (s.loop ch).pending ∧
      execReadbackResult ch raw s = .next (if bitOf (s.loop ch).conv 106 then
        (s.putLoop ch d).putValue ch 1 (s.loop ch).rbIndex (ms 15) (factored (s.loop ch).rbOff (s.loop ch).rbGain raw)
          true false false false
        else s.putLoop ch d) := by
  have htakes : ¬(!isLoop ch || !(s.pod (linkOf ch)).powered || !(s.loop ch).configured || loopMode (s.loop ch).cfg == 0 ||
      loopHeld (s.pod (linkOf ch)).mode) = true := by
    simp [hl, hpow, hcfg, hm, hh]
  refine ⟨_, ?_, ?_, if_neg htakes⟩ <;> rfl

end Readback

/-! ## The obligation of chapter 08 -/

/-- Settles O36: each clause of a window or of the modulator is a branch of its command, and a readback result puts back a channel with
the next index, behind which its value may stand. -/
theorem conversionCommandsRun : Obligations.ConversionCommandsRun := by
  intro s ch raw
  refine ⟨fun hc => ?windows, execModulatorStartUpEnd_started, fun hl hpow hcfg hm hh => ?readback⟩
  case windows =>
    exact ⟨execConversionResult_results hc, execConversionResult_skips hc,
      execConversionResult_relocks hc, execConversionResult_within, execTriggeredConversionEnd_results hc,
      execUrgentConversionEnd_results hc, execModulatorPowerDown_idle hc⟩
  case readback =>
    obtain ⟨d, hindex, hpend, hexec⟩ := execReadbackResult_taken raw hl hpow hcfg hm hh
    refine ⟨_, hexec, ?_, fun hrec => ?_, fun hrec hdiag => ?_⟩
    · split
      · rw [putValue_loop, putLoop_loop, hindex]
      · rw [putLoop_loop, hindex]
    · rw [if_pos hrec, ← putLoop_calPhase s ch d]
      exact putValue_items ..
    · rw [if_neg (by simp [hrec])] at hdiag ⊢
      rw [putLoop_loop] at hdiag
      exact putLoop_items_of_same s ch hdiag hpend _

end Sys2Proof.Machine
end

section
/-! The statement of chapter 09: the receive state at either end of a pod link. -/

namespace Sys2Proof.Machine

/-! ## Receive states (R262, R263, R264) -/

namespace Rx
variable {r : Rx} {seq : Nat}

/-- A bad frame in HUNT only breaks the run of consecutive good ones. -/
theorem takeBad_hunt (h : r.st = .hunt) : r.takeBad = { r with good := 0, bad := 0 } := by
  simp only [takeBad, h]

/-- Outside HUNT a bad frame ends the run of good ones and lengthens that of bad ones: the sixteenth in a row loses the link, and
from the third on a link that is kept is degraded. -/
theorem takeBad_of_ne_hunt (h : r.st ≠ .hunt) :
    r.takeBad = if 15 ≤ r.bad then { r with st := .hunt, good := 0, bad := 0 }
      else { r with st := if 2 ≤ r.bad then .degraded else r.st, good := 0, bad := r.bad + 1 } := by
  cases hs : r.st with
  | hunt => exact absurd hs h
  | good | degraded => simp only [takeBad, hs, Nat.reduceLeDiff]

/-- In HUNT a frame is not used, and one whose sequence follows that of the good frame just before it ends HUNT. -/
theorem takeGood_hunt (h : r.st = .hunt) :
    r.takeGood seq = (if r.good = 1 ∧ seq = (r.seq + 1) % 4096 then { r with st := .good, good := 0, bad := 0, seq }
      else { r with good := 1, bad := 0, seq }, false) := by
  simp only [takeGood, h]
  split <;> rfl

theorem takeGood_good (h : r.st = .good) (hf : seqFollows r.seq seq = true) :
    r.takeGood seq = ({ r with good := 0, bad := 0, seq, last := seq }, true) := by
  simp only [takeGood, h, hf, if_true]

/-- In DEGRADED the sixteenth good frame in a row makes the link good, and every one before it is counted. -/
theorem takeGood_degraded (h : r.st = .degraded) (hf : seqFollows r.seq seq = true) :
    r.takeGood seq = (if 15 ≤ r.good then { st := .good, good := 0, bad := 0, seq, last := seq }
      else { r with good := r.good + 1, bad := 0, seq, last := seq }, true) := by
  simp only [takeGood, h, hf, if_true, Nat.reduceLeDiff]
  split <;> rfl

/-- Outside HUNT a sequence that R263 cannot give makes its frame a bad one. -/
theorem takeGood_of_not_follows (h : r.st ≠ .hunt) (hf : seqFollows r.seq seq = false) : r.takeGood seq = (r.takeBad, false) := by
  cases hs : r.st with
  | hunt => exact absurd hs h
  | good | degraded => simp [takeGood, hs, hf]

/-- Outside HUNT a frame whose sequence follows is used, keeps its sequence, and ends the run of bad ones. -/
theorem takeGood_of_follows (h : r.st ≠ .hunt) (hf : seqFollows r.seq seq = true) :
    (r.takeGood seq).2 = true ∧ (r.takeGood seq).1.seq = seq ∧ (r.takeGood seq).1.bad = 0 := by
  cases hs : r.st with
  | hunt => exact absurd hs h
  | good => simp [takeGood_good hs hf]
  | degraded => rw [takeGood_degraded hs hf]; split <;> simp

end Rx

/-! ## The obligation of chapter 09 -/

/-- Settles O32: each clause is a bad or a good frame at its receive state. -/
theorem linkReceiveState : Obligations.LinkReceiveState := by
  intro r seq
  refine ⟨fun hn hb => ?lost, fun hg hb => ?kept, fun hn h2 hb => ?degrades, fun hh => ?hunts, fun hh => ?endsHunt, fun hn => ?used,
    fun hn hf => (Rx.takeGood_of_follows hn hf).2, fun hd hf => ?recovers, Rx.takeGood_of_not_follows⟩
  case lost => rw [Rx.takeBad_of_ne_hunt hn, if_pos hb]
  case kept =>
    have hlost : ¬15 ≤ r.bad := by omega
    simp [Rx.takeBad_of_ne_hunt, hg, hlost, Nat.not_le.mpr hb]
  case degrades => simp [Rx.takeBad_of_ne_hunt hn, Nat.not_le.mpr hb, h2]
  case hunts => simp [Rx.takeBad_hunt hh, hh]
  case endsHunt =>
    rw [Rx.takeGood_hunt hh]
    refine ⟨rfl, ?_⟩
    split
    · next hconsecutive => simp [hconsecutive]
    · next hconsecutive => simp [hh, hconsecutive]
  case used =>
    cases hf : seqFollows r.seq seq with
    | true => simp [Rx.takeGood_of_follows hn hf]
    | false => simp [Rx.takeGood_of_not_follows hn hf]
  case recovers =>
    rw [Rx.takeGood_degraded hd hf]
    split
    · next h15 => simp [h15]
    · next h15 => simp [hd, h15]
end Sys2Proof.Machine
end

section
/-! The statements of chapter 10, and of the watchdogs and faults of chapter 14: waiting messages as they commit, replies and events as
they leave, and the commands of the watchdogs, the raises, the FAULT pin and the logline memory. -/

namespace Sys2Proof.Machine

/-! ## Waiting messages (R295, R296) -/

section Waiting
variable {u : State} {x : Side} {op : Nat} {q : Req} {p : List Word}

/-- A message that its checks accept commits, unless its case is undefined (R13). -/
theorem commit_of_accepted (hs : u.stale x = false) (hok : u.commitStatus x op q p = stOk)
    (hdef : (u.ctrl x).undefinedCase op q p = none) : u.commit x op q p = .next (u.commitNow x op q p) := by
  simp [State.commit, hs, hok, hdef]

/-- A refused message stands in the journal with its status, then `State.refuseMessage` answers it. -/
theorem commitNow_refused (hne : u.commitStatus x op q p ≠ stOk) :
    u.commitNow x op q p = ((((u.journalReq x q op 0 (u.commitStatus x op q p) q.crc).modCtrl x fun c =>
      c.modFlight q.tag fun f => { f with committed := true }).refuseMessage x op q p (u.commitStatus x op q p)).syncTags x) := by
  unfold State.commitNow
  dsimp only
  rw [if_neg hne]

end Waiting

/-! ## What leaves (R321, R358) -/

section Leaving
variable {s : State} {x : Side} {i : Nat}

/-- A queue of a session that holds nothing formed before `n` does not keep back what was formed then. -/
theorem none_formed_before {α : Type} {order : α → Nat} {n : Nat} {queue : List α} (h : ∀ a ∈ queue, n ≤ order a) :
    (queue.any fun a => decide (order a < n)) = false := by
  simpa using h

/-- Only `EVENT` reports what was dropped (R321): any other event leaves as it was formed. -/
theorem eventWords_of_ne {n : Session} {e : Event} (h : e.op ≠ 0x80) : n.eventWords e = e.words := by
  unfold Session.eventWords
  split
  · next hw => rw [if_neg h, hw]
  · next hw => exact hw.symm

theorem execReplySend_oldest {r : Reply} {rest : List Reply} (hx : s.active = some x)
    (hr : ((s.ctrl x).session i).replies = r :: rest) (ho : ∀ e ∈ ((s.ctrl x).session i).events, r.order ≤ e.order)
    (hp : s.portReady x r.req.port = true) :
    execReplySend i s = .next
      (((((s.setCtrl x ((s.ctrl x).setSession i { (s.ctrl x).session i with replies := rest })).emitOn x r.req.port
        (.message r.req.port r.req.ip r.req.udp (Reply.header { r with vol := (s.ctrl x).logl.isVolatile }) r.words)).replyLeft x
          r).syncTags x)) := by
  rw [execReplySend, onActive_of_active hx]
  simp only [hr, none_formed_before ho, hp, Bool.not_true, Bool.or_self, Bool.false_eq_true, if_false]

/-- The oldest event of an open session leaves; an `EVENT` clears the count of dropped ones and the gap that it reports. -/
theorem execEventSend_oldest {e : Event} {rest : List Event} (hx : s.active = some x)
    (he : ((s.ctrl x).session i).events = e :: rest) (hopen : ((s.ctrl x).session i).isOpen = true)
    (ho : ∀ r ∈ ((s.ctrl x).session i).replies, e.order ≤ r.order) (hp : s.portReady x ((s.ctrl x).session i).evPort = true) :
    let n := (s.ctrl x).session i
    execEventSend i s = .next (((s.setCtrl x ((s.ctrl x).setSession i
      { n with
        events := rest, evSeq := (n.evSeq + 1) % 65536, dropped := if e.op = 0x80 then 0 else n.dropped
        gap := if e.op = 0x80 then false else n.gap })).emitOn x n.evPort
      (.message n.evPort n.evIp n.evUdp (n.eventHeader i e.op (s.ctrl x).logl.isVolatile (n.eventWords e)) (n.eventWords e))).syncTags
        x) := by
  dsimp only
  rw [execEventSend, onActive_of_active hx]
  simp only [he, hopen, none_formed_before ho, hp, Bool.not_true, Bool.or_self, Bool.false_eq_true, if_false]

end Leaving

/-! ## Watchdogs (R430, R431, R436, R438, R440) -/

section Watchdogs
variable {s : State} {x : Side}

theorem execWdogWindowClose_supervisor (ho : (s.ctrl x).dog.over s.now = true) (hr : (s.ctrl x).inReset = false) :
    execWdogWindowClose (.supervisor x) s = .next (s.closeDog x) := by
  simp [execWdogWindowClose, ho, hr]

theorem execWdogWindowClose_host {i : Nat} (hx : s.active = some x) (hst : ((s.ctrl x).hostDog i).state = 1)
    (ho : ((s.ctrl x).hostDog i).dog.over s.now = true) : execWdogWindowClose (.host i) s = .next (s.closeHostDog x i) := by
  rw [execWdogWindowClose, onActive_of_active hx]
  exact congrArg _ (if_pos (by simp [hst, ho]))

theorem execWdogCoreAnswer_running {token : BitVec 32} (hst : (s.ctrl x).dog.st = 0) (hh : (s.ctrl x).hostServed = false)
    (hr : (s.ctrl x).inReset = false) :
    execWdogCoreAnswer x token s = .next (if (s.answerDog x none token.toNat).1 = 0 then
      (s.answerDog x none token.toNat).2.eraseNext x else (s.answerDog x none token.toNat).2) :=
  if_pos ⟨hst, hh, hr⟩

theorem execWdogKeyArmExpiry_late {a : Nat × Nat} (hx : s.active = some x) (ha : (s.ctrl x).keyArm = some a) (ht : a.2 ≤ s.now) :
    execWdogKeyArmExpiry s = .next (s.setCtrl x { s.ctrl x with keyArm := none }) := by
  rw [execWdogKeyArmExpiry, onActive_of_active hx]
  simp only [ha, if_pos ht]

theorem execSuspensionTimeout_late (hst : (s.ctrl x).dog.st = 2) (ht : (s.ctrl x).dog.suspendAt + ms 4000 ≤ s.now) :
    execSuspensionTimeout x s = .next (s.endSuspension x) :=
  if_pos ⟨hst, ht⟩

theorem execWatchdogReset_silent (hh : (s.ctrl x).hbSilent = true) (hr : (s.ctrl x).inReset = false) :
    execWatchdogReset x s = .next ((s.restart x 1).tendStaging) :=
  if_pos (by simp [hh, hr])

end Watchdogs

/-! ## Raises, the reaction timer and the FAULT pin (R301, R445 to R449) -/

section Faults
variable {s : State} {x : Side}

theorem execReactionTimerExpiry_over (hx : s.active = some x) (ho : (s.ctrl x).reactOver s.now = true) :
    execReactionTimerExpiry s = .next ((s.escalate x).endCalibrate x) := by
  rw [execReactionTimerExpiry, onActive_of_active hx, if_pos ho]

theorem execFaultPinMinHold_over (hx : s.active = some x) (hm : (s.ctrl x).faults.pinMin = true)
    (ht : (s.ctrl x).faults.pinAt + ms 10 ≤ s.now) :
    execFaultPinMinHold s =
      .next (s.setCtrl x { s.ctrl x with faults := { (s.ctrl x).faults with pinMin := false } }.autoPin) := by
  rw [execFaultPinMinHold, onActive_of_active hx]
  exact congrArg _ (if_pos (by simp [hm, ht]))

theorem execPartnerFaultReset_latched (hg : s.firstGrant = true) (hrun : (s.ctrl x).running = true)
    (hr : (s.ctrl x).inReset = false) (hrole : (s.ctrl x).role ≠ .active) (hl : (s.ctrl x).faults.latched ≠ [])
    (hd : (s.ctrl x).dbg.st ≠ 1) (hh : (s.ctrl x).hbSilent = false) :
    execPartnerFaultReset x s = .next ((s.restart x 2).tendStaging) :=
  if_pos (by simp [hg, hrun, hr, hrole, hl, hd, hh])

theorem execConditionReraise_persists {source : Nat} (ha : (s.ctrl x).isActive = true) (h12 : 12 ≤ source)
    (hc : (s.ctrl x).faults.conds.contains source = true) (he : (s.ctrl x).faults.episode.isOpen = false)
    (ht : (s.ctrl x).faults.episode.closedAt + ms 100 ≤ s.now) :
    execConditionReraise x source s = .next (s.raise x source false) :=
  if_pos (by simp only [ha, h12, hc, he, ht, decide_true, Bool.not_false, Bool.and_self])

theorem execLoglineFailure_running {readAt : Option Word} (hrun : (s.ctrl x).running = true) (hr : (s.ctrl x).inReset = false) :
    execLoglineFailure x readAt s = .next (s.loglineFails x readAt false) :=
  if_pos (by simp [hrun, hr])

end Faults

/-! ## The obligations of chapters 10 and 14 -/

/-- Settles O11: the message at the head of the queue is taken off and commits, accepted or refused by its checks. -/
theorem loglineCommitRuns : Obligations.LoglineCommitRuns := by
  intro s x op q p rest hx hw hc u hs
  have hcommits : exec .loglineCommit s = u.commit x op q p := execLoglineCommit_commits hx hw hc
  refine ⟨fun hok hdef => ?accepted, fun hne => ?refused⟩
  case accepted => exact hcommits.trans (commit_of_accepted hs hok hdef)
  case refused => exact hcommits.trans ((commit_of_status hs hne).trans (congrArg _ (commitNow_refused hne)))

/-- Settles O17, a branch of the commands of the watchdogs and the faults for each clause; a clock trip and a raise have one only. -/
theorem watchdogAndFaultCommandsRun : Obligations.WatchdogAndFaultCommandsRun := by
  intro s x
  exact ⟨execWdogWindowClose_supervisor, fun _ => execWdogWindowClose_host, fun _ => execWdogCoreAnswer_running,
    fun _ => execWdogKeyArmExpiry_late, rfl, execSuspensionTimeout_late, execWatchdogReset_silent, fun _ _ => rfl,
    execReactionTimerExpiry_over, execFaultPinMinHold_over, execPartnerFaultReset_latched,
    fun _ => execConditionReraise_persists, fun _ => execLoglineFailure_running⟩

/-- Settles O26: a reply, or an event, that no other of its session precedes leaves; by its opcode an event is an `EVENT`, which
reports what was dropped, or leaves as it was formed. -/
theorem repliesAndEventsLeave : Obligations.RepliesAndEventsLeave := by
  intro s x i n
  refine ⟨fun r rest hx hr ho hp => execReplySend_oldest hx hr ho hp, fun e rest hx he hopen ho hp hop => ?formed,
    fun e rest hx he hopen ho hp hop => ?reports⟩
  case formed =>
    have hsent := execEventSend_oldest hx he hopen ho hp
    dsimp only at hsent
    rwa [eventWords_of_ne hop, if_neg hop, if_neg hop] at hsent
  case reports =>
    have hsent := execEventSend_oldest hx he hopen ho hp
    dsimp only at hsent
    rwa [if_pos hop, if_pos hop] at hsent

end Sys2Proof.Machine
end

section
/-! The obligations of chapter 12 on the queue, the straps and the tether word, and the frame of the field side. One case split over the
commands says which leave the framed part of the state alone; the eight that act on the tether are gone through one by one, and every
claim about a step follows from the five moves of the tether that this leaves. -/

namespace Sys2Proof.Machine

/-! ## What a command does to the framed part of the state -/

/-- The commands that can change the arbiter's state or its tether word: its own decisions, its start, and the resets of the module. -/
def actsOnTether : Instr → Bool
  | .tetherGrant | .tetherRenewal | .arbiterLeaseEnd | .arbiterStart | .csfLaunch | .ropeCmdRopeReset _ | .vbatRise | .holdUpSpent => true
  | _ => false

theorem actsOnTether_cases {i : Instr} (h : actsOnTether i = true) :
    i = .tetherGrant ∨ i = .tetherRenewal ∨ i = .arbiterLeaseEnd ∨ i = .arbiterStart ∨ i = .csfLaunch ∨
      (∃ w, i = .ropeCmdRopeReset w) ∨ i = .vbatRise ∨ i = .holdUpSpent := by
  revert h
  cases i <;> dsimp only [actsOnTether] <;> simp

/-- The frame law of every command that acts neither on the field side nor on the tether. -/
theorem exec_keeps_core (i : Instr) (s : State) :
    actsOnField i = false → actsOnTether i = false → Keeps (exec i s) s.core := by
  cases i <;> dsimp only [exec, actsOnField, actsOnTether] <;> simp

/-- The frame law of every command that acts on the field side and not on the tether. -/
theorem exec_keeps_core1 (i : Instr) (s : State) :
    actsOnField i = true → actsOnTether i = false → Keeps1 (exec i s) s.core.1 := by
  cases i <;> dsimp only [exec, actsOnField, actsOnTether] <;> simp

/-- What a step can make of the arbiter's state and its tether word (R361, R362, R365): nothing, a new start, a grant, a renewal, or the
end of the lease. -/
inductive TetherMove (a : Arbiter) : ArbSt × BitVec 32 × Nat × Side × Nat → Prop
  | stays : TetherMove a a.key
  | starts : TetherMove a freshKey
  | grants (y : Side) : TetherMove a (.held y, a.nextEpoch, 1, y, 0)
  | renews {x : Side} (h : a.st = .held x) : TetherMove a (.held x, a.epoch, a.kind, a.side, (a.renew + 1) % 16)
  | lapses {x : Side} (h : a.st = .held x) : TetherMove a (.vacant, a.epoch, 0, a.side, a.renew)

/-- The queue and the straps stand, and the tether makes one of its moves. -/
def KeptOrMoved (s : State) (k : Kept) : Prop := k.1 = s.core.1.1 ∧ TetherMove s.arb k.2

theorem keptOrMoved_stays {s : State} {k : Kept} (h : k = s.core.1) : KeptOrMoved s k := h ▸ ⟨rfl, .stays⟩

theorem keptOrMoved_starts {s : State} {k : Kept} (h : k = (s.core.1.1, freshKey)) : KeptOrMoved s k := h ▸ ⟨rfl, .starts⟩

theorem keptOrMoved_of_follows {s t : State} (h : Follows t s.core) : KeptOrMoved s t.core.1 :=
  h.elim (fun h => keptOrMoved_stays (congrArg _ h)) keptOrMoved_starts

theorem moves_of_core_eq {s t : State} (h : t.core = s.core) : KeptOrMoved s t.core.1 ∧ t.core.2 = s.core.2 :=
  ⟨keptOrMoved_stays (congrArg _ h), congrArg _ h⟩

theorem execTetherGrant_moves {s t : State} (h : execTetherGrant s = .next t) :
    KeptOrMoved s t.core.1 ∧ t.core.2 = s.core.2 := by
  obtain hk | ⟨y, _, _, hk⟩ := execTetherGrant_core s t h
  · exact moves_of_core_eq hk
  · rw [hk]; exact ⟨⟨rfl, .grants y⟩, rfl⟩

theorem execTetherRenewal_moves {s t : State} (h : execTetherRenewal s = .next t) :
    KeptOrMoved s t.core.1 ∧ t.core.2 = s.core.2 := by
  obtain hk | ⟨x, hx, hk⟩ := execTetherRenewal_core s t h
  · exact moves_of_core_eq hk
  · rw [hk]; exact ⟨⟨rfl, .renews hx⟩, rfl⟩

theorem execArbiterLeaseEnd_moves {s t : State} (h : execArbiterLeaseEnd s = .next t) :
    KeptOrMoved s t.core.1 ∧ t.core.2 = s.core.2 := by
  obtain hk | ⟨x, hx, hk⟩ := execArbiterLeaseEnd_core s t h
  · exact moves_of_core_eq hk
  · rw [hk]; exact ⟨⟨rfl, .lapses hx⟩, rfl⟩

theorem execArbiterStart_moves {s t : State} (h : execArbiterStart s = .next t) :
    KeptOrMoved s t.core.1 ∧ t.core.2 = s.core.2 := by
  obtain hk | hk := execArbiterStart_core s t h
  · exact moves_of_core_eq hk
  · rw [hk]; exact ⟨⟨rfl, .starts⟩, rfl⟩

/-- Every command leaves the queue and the straps and moves the tether as the arbiter does, and one that does not act on the field
side leaves that side. -/
theorem exec_moves {i : Instr} {s t : State} (h : exec i s = .next t) :
    KeptOrMoved s t.core.1 ∧ (actsOnField i = false → t.core.2 = s.core.2) := by
  cases hi : actsOnTether i
  case false =>
    cases hf : actsOnField i
    case false =>
      exact (moves_of_core_eq (exec_keeps_core i s hf hi t h)).imp id fun hk _ => hk
    case true => exact ⟨keptOrMoved_stays (exec_keeps_core1 i s hf hi t h), nofun⟩
  case true =>
    obtain rfl | rfl | rfl | rfl | rfl | ⟨w, rfl⟩ | rfl | rfl := actsOnTether_cases hi
    · exact (execTetherGrant_moves h).imp id fun hk _ => hk
    · exact (execTetherRenewal_moves h).imp id fun hk _ => hk
    · exact (execArbiterLeaseEnd_moves h).imp id fun hk _ => hk
    · exact (execArbiterStart_moves h).imp id fun hk _ => hk
    · exact ⟨keptOrMoved_of_follows (execCsfLaunch_core s t h), nofun⟩
    · exact ⟨keptOrMoved_of_follows (execRopeCmdRopeReset_core w s t h), nofun⟩
    · exact ⟨(execVbatRise_core s t h).elim keptOrMoved_stays keptOrMoved_starts, nofun⟩
    · exact ⟨(execHoldUpSpent_core s t h).elim keptOrMoved_stays keptOrMoved_starts, nofun⟩

/-- Every step moves the tether as the arbiter does. -/
theorem step_moves {s t : State} (h : step s = .next t) :
    t.core.1.1 = (s.pending.tail, s.core.1.1.2) ∧ TetherMove s.arb t.arb.key := by
  unfold step at h
  split at h
  next hq => cases h; exact ⟨by rw [hq, List.tail_nil, ← hq]; rfl, .stays⟩
  next c rest hq =>
    obtain ⟨hkept, hmove⟩ := (exec_moves h).1
    exact ⟨by rw [hkept, hq]; rfl, hmove⟩

/-! ## The obligations -/

/-- Settles O1, by the two equations of `step`. -/
theorem stepRunsTheFrontCommand : Obligations.StepRunsTheFrontCommand := by
  intro s
  exact ⟨fun c rest hq => by rw [step, hq], fun hq => by rw [step, hq]⟩

/-- Settles O3: the queue and the straps are the part that every move of the tether leaves. -/
theorem stepKeepsQueueAndStraps : Obligations.StepKeepsQueueAndStraps := by
  refine ⟨fun i s t h => ?ofExec, fun s t h => ?ofStep⟩
  case ofExec =>
    have hkept := (exec_moves h).1.1
    simpa only [State.core, Prod.mk.injEq] using hkept
  case ofStep =>
    have hkept := (step_moves h).1
    simpa only [State.core, Prod.mk.injEq] using hkept

/-- Settles O4: START, `T_KIND` NONE and `T_RENEW` 0. -/
theorem arbiterAgreesAtReset : Obligations.ArbiterAgreesAtReset := rfl

/-- Every move of the tether leaves a word that says what the arbiter's state says, from one that does. -/
theorem agrees_of_move {a b : Arbiter} (ha : a.agrees = true) (hm : TetherMove a b.key) : b.agrees = true := by
  generalize hk : b.key = k at hm
  simp only [Arbiter.agrees, Bool.and_eq_true, decide_eq_true_eq] at ha ⊢
  obtain ⟨hword, hrenew⟩ := ha
  cases hm with
  | stays =>
    simp only [Arbiter.key, Prod.mk.injEq] at hk
    obtain ⟨hst, -, hkind, hside, hr⟩ := hk
    rw [hst, hkind, hside, hr]
    exact ⟨hword, hrenew⟩
  | starts =>
    simp only [Arbiter.key, freshKey, Prod.mk.injEq] at hk
    obtain ⟨hst, -, hkind, -, hr⟩ := hk
    simp [hst, hkind, hr]
  | grants y =>
    simp only [Arbiter.key, Prod.mk.injEq] at hk
    obtain ⟨hst, -, hkind, hside, hr⟩ := hk
    simp [hst, hkind, hside, hr]
  | renews hheld =>
    simp only [Arbiter.key, Prod.mk.injEq] at hk
    obtain ⟨hst, -, hkind, hside, hr⟩ := hk
    rw [hheld] at hword
    rw [hst, hkind, hside, hr]
    exact ⟨hword, Nat.mod_lt _ (by decide)⟩
  | lapses hheld =>
    simp only [Arbiter.key, Prod.mk.injEq] at hk
    obtain ⟨hst, -, hkind, -, hr⟩ := hk
    simpa [hst, hkind, hr] using hrenew

/-- Settles O5: each move of the tether keeps the agreement. -/
theorem arbiterStaysInAgreement : Obligations.ArbiterStaysInAgreement := by
  intro s t ha h
  exact agrees_of_move ha (step_moves h).2

/-- R363: a grant that is not made from START carries the next epoch. -/
theorem nextEpoch_of_ne_start {a : Arbiter} (h : a.st ≠ .start) : a.nextEpoch = a.epoch + 1 := by
  unfold Arbiter.nextEpoch
  split
  · contradiction
  · rfl

/-- Outside START a move of the tether changes the epoch only as a grant, and hands over only so. -/
theorem epoch_of_move {a b : Arbiter} (ha : a.st ≠ .start) (hb : b.st ≠ .start) (hm : TetherMove a b.key) :
    (b.epoch = a.epoch ∨ (b.epoch = a.epoch + 1 ∧ b.kind = 1 ∧ b.renew = 0 ∧ ∃ y, b.st = .held y)) ∧
    (∀ x y, a.st = .held x → b.st = .held y → x ≠ y → b.epoch = a.epoch + 1) := by
  generalize hk : b.key = k at hm
  cases hm with
  | stays =>
    simp only [Arbiter.key, Prod.mk.injEq] at hk
    obtain ⟨hst, hepoch, -⟩ := hk
    refine ⟨.inl hepoch, fun x y hx hy hne => absurd ?_ hne⟩
    rw [hst, hx] at hy
    exact ArbSt.held.inj hy
  | starts => exact absurd (congrArg Prod.fst hk) hb
  | grants y =>
    simp only [Arbiter.key, Prod.mk.injEq, nextEpoch_of_ne_start ha] at hk
    obtain ⟨hst, hepoch, hkind, -, hrenew⟩ := hk
    exact ⟨.inr ⟨hepoch, hkind, hrenew, y, hst⟩, fun _ _ _ _ _ => hepoch⟩
  | renews hheld =>
    simp only [Arbiter.key, Prod.mk.injEq] at hk
    obtain ⟨hst, hepoch, -⟩ := hk
    refine ⟨.inl hepoch, fun x y hx hy hne => absurd ?_ hne⟩
    rw [hst, ← hheld, hx] at hy
    exact ArbSt.held.inj hy
  | lapses hheld =>
    simp only [Arbiter.key, Prod.mk.injEq] at hk
    obtain ⟨hst, hepoch, -⟩ := hk
    refine ⟨.inl hepoch, fun x y _ hy _ => ?_⟩
    rw [hst] at hy
    cases hy

/-- Settles O46: a step is a move of the tether. -/
theorem epochChangesOnlyByGrants : Obligations.EpochChangesOnlyByGrants :=
  fun _ _ hs h ht => epoch_of_move hs ht (step_moves h).2

/-- The serial order of epochs on both sides: two epochs that are each at least the other are equal. -/
theorem epochGe_antisymm {e p : BitVec 32} (h : epochGe e p = true) (h' : epochGe p e = true) : e = p := by
  simp only [epochGe, decide_eq_true_eq] at h h'
  bv_omega

theorem execTetherGrant_due {s : State} {y : Side} {why : Nat} (hg : s.grantDue = some (y, why)) :
    ∃ t, exec .tetherGrant s = .next t ∧ t.arb = { s.arb with
      st := .held y, since := s.now, epoch := s.arb.nextEpoch, kind := 1, side := y, renew := 0, renewAt := s.now
      first := false, restarted := false, steer := some y } := by
  refine ⟨_, by dsimp only [exec, execTetherGrant]; rw [hg], ?_⟩
  rw [steerTo_arb]
  simp

/-- Settles O47, by the branches of `Arbiter.nextEpoch`; where both controllers are heard and each epoch is at least the other, they are
one. -/
theorem grantEpochs : Obligations.GrantEpochs := by
  refine ⟨fun a ha => ?next, fun a t u hs ha hb hge => ?fromA, fun a t u hs ha hb hge => ?fromB, fun a t hs ha hb => ?onlyA,
    fun a t hs ha hb => ?onlyB, fun e p => ?order, fun s y why hg => ?grant⟩
  case next =>
    rw [nextEpoch_of_ne_start ha]
    simp
  case fromA =>
    simp only [Arbiter.nextEpoch, hs, ha, hb]
    split
    next hge' => rw [epochGe_antisymm hge hge']
    next => rfl
  case fromB => simp only [Arbiter.nextEpoch, hs, ha, hb, hge, if_true]
  case onlyA => simp only [Arbiter.nextEpoch, hs, ha, hb]
  case onlyB => simp only [Arbiter.nextEpoch, hs, ha, hb]
  case order =>
    simp only [epochGe, decide_eq_true_eq]
    bv_omega
  case grant =>
    obtain ⟨t, ht, harb⟩ := execTetherGrant_due hg
    exact ⟨t, ht, by rw [harb]⟩

/-- Settles O48: the second half of the frame law. -/
theorem fieldSideFrame : Obligations.FieldSideFrame := by
  intro i s t hi h
  have hside := (exec_moves h).2 hi
  simp only [State.core, Prod.mk.injEq] at hside
  obtain ⟨hpods, hdigs, hloops, hscans, hnow, hsupply, hfail, hvbus⟩ := hside
  exact ⟨hpods, hdigs, hloops, hscans, hsupply, hfail, hvbus, hnow⟩

end Sys2Proof.Machine
end

section
/-! The commands of chapter 12: heartbeats, the tether, takeover and boot, the splice and the mirrored data set. -/

namespace Sys2Proof.Machine

/-! ## Heartbeats and the reset pulse (R359, R360, R364, R365) -/

section Heartbeats
variable {s : State} {x : Side}

theorem execHeartbeatSend_speaks (hb : s.beats x = true) :
    execHeartbeatSend x s = .next ((s.emit (.heartbeat x (s.heartbeat x))).modCtrl x fun c =>
      { c with hbCount := (c.hbCount + 1) % 256, lastEpoch := s.epochRead c }) :=
  if_pos hb

theorem execHeartbeatReceive_valid {w : BitVec 64} (hs : s.supply = true) (hw : (s.arb.beat x).accepts x s.now w = true) :
    execHeartbeatReceive x w s = .next { s with arb := s.arb.setBeat x ((s.arb.beat x).take s.now w) } :=
  if_pos (by simp [hs, hw])

theorem execHeartbeatReceive_invalid {w : BitVec 64} (hw : (s.arb.beat x).accepts x s.now w = false) :
    execHeartbeatReceive x w s = .next s :=
  if_neg (by simp [hw])

theorem execControllerFailed_silent (hs : s.supply = true) (hq : (s.arb.beat x).silent s.now = true) :
    execControllerFailed x s = .next { s with arb := s.arb.setBeat x { s.arb.beat x with failed := true, okAt := none } } :=
  if_pos (by simp [hs, hq])

/-- A line that has had no pulse yet is silent since its last word, or since the arbiter listens (R364). -/
theorem execArbiterResetPulse_first (hs : s.supply = true) (hp : (s.arb.beat x).pulseAt = none)
    (ht : (s.arb.beat x).last.getD (s.arb.beat x).silentAt + ms 100 ≤ s.now) :
    execArbiterResetPulse x s = .next
      (({ s with arb := s.arb.setBeat x { s.arb.beat x with pulseAt := some s.now } }.restart x 3).tendStaging) := by
  simp only [execArbiterResetPulse, hs, hp, ht, decide_true, Bool.and_self, if_true]

theorem execArbiterResetPulse_again {t : Nat} (hs : s.supply = true) (hp : (s.arb.beat x).pulseAt = some t)
    (ht : t + ms 10000 ≤ s.now) :
    execArbiterResetPulse x s = .next
      (({ s with arb := s.arb.setBeat x { s.arb.beat x with pulseAt := some s.now } }.restart x 3).tendStaging) := by
  simp only [execArbiterResetPulse, hs, hp, ht, decide_true, Bool.and_self, if_true]

theorem execArbiterRenewWatch_stuck (ha : (s.ctrl x).isActive = true) (hc : s.compat = false) (hk : s.arb.kind = 1)
    (hx : s.arb.side = x) (ht : s.arb.renewAt + ms 10 ≤ s.now) :
    execArbiterRenewWatch x s = .next (s.raise x srcArbiter false) :=
  if_pos (by simp [ha, hc, hk, hx, ht])

end Heartbeats

/-! ## The tether (R361, R362, R363) -/

section Tether
variable {s : State} {x : Side}

theorem execTetherGrant_none (hg : s.grantDue = none) : execTetherGrant s = .next s := by
  rw [execTetherGrant, hg]

theorem execTetherRenewal_due (hs : s.supply = true) (hc : s.compat = false) (hx : s.arb.st = .held x) (hg : s.grantDue = none)
    (hl : s.now < s.arb.renewAt + ms 20) (ht : s.arb.renewAt + ms 5 ≤ s.now) (hf : (s.arb.beat x).failed = false)
    (hq : (s.arb.beat x).silent s.now = false) (hr : (s.arb.beat x).failReq = false) (hi : (s.arb.beat x).imageOk = true) :
    execTetherRenewal s = .next { s with arb := { s.arb with renew := (s.arb.renew + 1) % 16, renewAt := s.now } } := by
  rw [execTetherRenewal, hx]
  exact if_pos (by simp [hs, hc, hg, Arbiter.leased, hl, ht, hf, hq, hr, hi])

theorem execArbiterLeaseEnd_over (hx : s.arb.st = .held x) (ht : s.arb.renewAt + ms 20 ≤ s.now) :
    execArbiterLeaseEnd s = .next { s with arb := { s.arb with st := .vacant, since := s.now, kind := 0 } } := by
  rw [execArbiterLeaseEnd, hx]
  exact if_neg (by simp [Arbiter.leased, ht])

/-- An arbiter that starts is in START with no lease in force, and steers the ports under COMPAT only (R20). -/
theorem execArbiterStart_starts (hs : s.supply = true) :
    ∃ t, execArbiterStart s = .next t ∧ t.arb.st = .start ∧ t.arb.kind = 0 ∧ t.arb.since = s.now ∧
      t.arb.restarted = s.firstGrant := by
  unfold execArbiterStart
  rw [if_pos hs]
  dsimp only
  split
  · exact ⟨_, rfl, by simp [steerTo_arb]⟩
  · exact ⟨_, rfl, rfl, rfl, rfl, rfl⟩

end Tether

/-! ## Takeover and boot (R378, R382, R384, R385) -/

section Takeover
variable {s : State} {x : Side}

theorem execTakeover_may (hm : s.mayTake x = true) : execTakeover x s = .next (s.takeOver x) := if_pos hm

theorem execCompatSpliceTakeover_alone (hc : s.compat = true) (hrun : (s.ctrl x).running = true) (hr : (s.ctrl x).inReset = false)
    (hd : (s.ctrl x).dbg.st ≠ 1) (hrole : (s.ctrl x).role ≠ .active) (hu : (s.ctrl x).spliceUp = false)
    (ht : (s.ctrl x).spliceAt + ms 2 ≤ s.now) :
    execCompatSpliceTakeover x s = .next ((s.modCtrl x fun c => { c with granted := true }).takeOver x) :=
  if_pos (by simp [hc, hrun, hr, hd, hrole, hu, ht])

variable {ok0 ok1 logOk : Bool} (hs : s.supply = true) (hr : (s.ctrl x).inReset = true) (hu : (s.ctrl x).update.op < 2)
include hs hr hu

/-- Outside a firmware sequence a controller that leaves reset goes by the slot that verifies (R385). -/
theorem execControllerBoot_boots {one : Bool}
    (hb : bootSlot s.safeBoot (s.ctrl x) (fun b => if b then ok1 else ok0) = some one) :
    execControllerBoot x ok0 ok1 logOk s = .next (s.started x one logOk) := by
  unfold execControllerBoot
  dsimp only
  rw [if_neg (by simp [hs, hr]), if_neg (by omega), hb]

theorem execControllerBoot_no_image (hb : bootSlot s.safeBoot (s.ctrl x) (fun b => if b then ok1 else ok0) = none) :
    execControllerBoot x ok0 ok1 logOk s = .next (s.modCtrl x fun c => { c with noImage := true }) := by
  unfold execControllerBoot
  dsimp only
  rw [if_neg (by simp [hs, hr]), if_neg (by omega), hb]

end Takeover

/-! ## The splice, the mirrored items and the bulk copy (R370, R373, R374, R380) -/

section Splice
variable {s : State} {x : Side}

/-- What an item of the mirrored data set brings to the STANDBY controller (R373). -/
def State.mirrored (s : State) (x : Side) : MirrorItem → State
  | .image => s.syncImage x
  | .dutyTable n | .stageState n => s.syncDuty x n
  | .sessions | .tags => s.syncTags x
  | .logline => s.syncLogline x
  | .keepQueue => s
  | .tracker => s.syncTracker x
  | .episode => s.syncEpisode x

theorem execMirrorUpdate_applies (hx : s.active = some x) (hsb : s.isStandby x.other = true) (hi : (s.ctrl x).injects 4 0 = false)
    (item : MirrorItem) : execMirrorUpdate item s = .next (s.mirrored x item) := by
  rw [execMirrorUpdate, onActive_of_active hx]
  dsimp only
  rw [if_neg (by simp [hsb]), if_neg (by simp [hi])]
  cases item <;> rfl

theorem execSpliceWordBad_cuts (hrun : (s.ctrl x).running = true) (hr : (s.ctrl x).inReset = false)
    (hrole : (s.ctrl x).role = .standby ∨ (s.ctrl x).role = .syncing) :
    execSpliceWordBad x s = .next (s.cutOff x (s.ctrl x).spliceUp) :=
  if_pos (by simpa [hrun, hr] using hrole)

theorem execSpliceLost_cuts (hrun : (s.ctrl x).running = true) (hr : (s.ctrl x).inReset = false)
    (hu : (s.ctrl x).spliceUp = true) : execSpliceLost x s = .next (s.cutOff x false) :=
  if_pos (by simp [hrun, hr, hu])

theorem execSpliceRestored_isolated (hrun : (s.ctrl x).running = true) (hr : (s.ctrl x).inReset = false)
    (hrole : (s.ctrl x).role = .isolated) (hd : (s.ctrl x).dbg.st ≠ 1) (ht : (s.ctrl x).spliceAt + ms 10 ≤ s.now) :
    execSpliceRestored x s = .next ((s.modCtrl x fun c =>
      { c with spliceUp := true, granted := c.granted && !s.compat }).takeRole x .syncing 7) := by
  unfold execSpliceRestored
  dsimp only
  rw [if_pos (by simp [hrun, hr, hrole, ht]), if_pos ⟨hrole, hd⟩]

theorem execBulkCopyComplete_copies {y : Side} (hy : s.active = some y) (hyx : y = x.other) (hrun : (s.ctrl x).running = true)
    (hr : (s.ctrl x).inReset = false) (hrole : (s.ctrl x).role = .syncing) (hu : (s.ctrl x).spliceUp = true)
    (huy : (s.ctrl y).spliceUp = true) (hb : (s.ctrl y).mode ≠ .boot) (hd : (s.ctrl y).mode ≠ .dormant)
    (hi : (s.ctrl x).imageOk = true) : execBulkCopyComplete x s = .next (s.bulkCopy y) := by
  rw [execBulkCopyComplete, onActive_of_active hy]
  exact congrArg _ (if_pos ⟨hyx, hrun, hr, hrole, hu, huy, hb, hd, .inl hi⟩)

end Splice

/-! ## The obligations of chapter 12 on its commands -/

/-- Settles O10: the rows of FW_STAGE stand for one request, and each effect leaves its reply to a later event. -/
theorem updateAndRopeRequestsRun : Obligations.UpdateAndRopeRequestsRun := by
  intro s x q p
  refine ⟨fun h => ?stage, fun h => request_deferred h rfl, fun h => request_deferred h rfl, fun h => request_deferred h rfl,
    fun h => request_deferred h rfl⟩
  have run : s.request 0x70 q p = .next ((effectFwStage x q p (s.begun x 0x70 q p)).syncTags x) := request_deferred h rfl
  exact ⟨run, run, run, run⟩

/-- Settles O12, a branch of the commands of the heartbeat lines for each clause. -/
theorem heartbeatCommandsRun : Obligations.HeartbeatCommandsRun := by
  intro s x w
  refine ⟨execHeartbeatSend_speaks, execHeartbeatReceive_valid, fun _ => execHeartbeatReceive_invalid, execControllerFailed_silent,
    fun hs hl hp ht => execArbiterResetPulse_first hs hp (by rwa [hl]),
    fun _ hs hp hl ht => execArbiterResetPulse_first hs hp (by rwa [hl]), fun _ => execArbiterResetPulse_again,
    execArbiterRenewWatch_stuck⟩

/-- Settles O13, a branch of the arbiter's commands for each clause. -/
theorem tetherCommandsRun : Obligations.TetherCommandsRun := by
  intro s
  refine ⟨fun y why hg => ?grant, execTetherGrant_none, fun _ => execTetherRenewal_due, fun _ => execArbiterLeaseEnd_over,
    execArbiterStart_starts⟩
  case grant =>
    obtain ⟨t, ht, harb⟩ := execTetherGrant_due hg
    exact ⟨t, ht, by simp [harb]⟩

/-- Settles O14, a branch of the three commands for each clause. -/
theorem takeoverAndBootRun : Obligations.TakeoverAndBootRun := by
  intro s x
  exact ⟨execTakeover_may, execCompatSpliceTakeover_alone, fun _ _ _ _ hs hr hu => execControllerBoot_boots hs hr hu,
    fun _ _ _ hs hr hu => execControllerBoot_no_image hs hr hu⟩

/-- Settles O15: a mirrored item is applied as its case says, and each command of the splice takes one branch. -/
theorem spliceCommandsRun : Obligations.SpliceCommandsRun := by
  intro s x
  refine ⟨fun hx hsb hi => ?mirror, execSpliceWordBad_cuts, execSpliceLost_cuts, execSpliceRestored_isolated,
    fun _ => execBulkCopyComplete_copies⟩
  have run := execMirrorUpdate_applies hx hsb hi
  exact ⟨run .image, fun n => run (.dutyTable n), fun n => run (.stageState n), run .sessions, run .tags, run .logline,
    run .keepQueue, run .tracker, run .episode⟩

end Sys2Proof.Machine
end

section
/-! The statements of chapters 12, 14 and 16 on what a pod acts on, on the release of the FAULT pin, and on the bytes that a debug write
to memory changes. -/

namespace Sys2Proof.Machine

/-! ## The epoch that a pod holds (R367, R369) -/

section PodEpoch
variable {s : State} {l : Nat}

/-- A pod put back with the epoch it had leaves the epoch of every pod. -/
theorem setPod_epoch {link : Nat} {p : Pod} (h : p.epoch = (s.pod link).epoch) (l : Nat) :
    ((s.setPod link p).pod l).epoch = (s.pod l).epoch := by
  by_cases hl : l = link
  · rw [hl, State.setPod_pod, h]
  · rw [setPod_pod_ne s p hl]

theorem putLoop_epoch (s : State) (ch : Nat) (d : LoopCh) (l : Nat) : ((s.putLoop ch d).pod l).epoch = (s.pod l).epoch := by
  unfold State.putLoop
  dsimp only
  split
  · rfl
  · exact setPod_epoch (by rfl) l

theorem regulate_epoch (s : State) (ch : Nat) (d : LoopCh) (l : Nat) : ((s.regulate ch d).pod l).epoch = (s.pod l).epoch :=
  putLoop_epoch ..

theorem loopIn_epoch (s : State) (before m : Mode) (ch l : Nat) : ((s.loopIn before m ch).pod l).epoch = (s.pod l).epoch := by
  unfold State.loopIn
  dsimp only
  split
  · rw [regulate_epoch, pod_of_core (State_dropConvs_core ..)]
  · split <;> exact regulate_epoch ..

theorem podMode_epoch (s : State) (link : Nat) (m : Mode) (l : Nat) : ((s.podMode link m).pod l).epoch = (s.pod l).epoch := by
  unfold State.podMode
  dsimp only
  split
  · rfl
  · refine (foldl_keeps (fun u : State => (u.pod l).epoch) (fun u ch => ?_) ..).trans (setPod_epoch (by rfl) l)
    split
    · rfl
    · exact loopIn_epoch ..

theorem stopModems_epoch (s : State) (link l : Nat) : ((s.stopModems link).pod l).epoch = (s.pod l).epoch := by
  unfold State.stopModems
  split
  · rfl
  · refine foldl_keeps (fun u : State => (u.pod l).epoch) (fun u ch => ?_) ..
    dsimp only
    split
    · exact regulate_epoch ..
    · rfl

theorem changeHolder_epoch (s : State) (link : Nat) (x y : Side) (l : Nat) :
    ((s.changeHolder link x y).pod l).epoch = (s.pod l).epoch := by
  unfold State.changeHolder
  split
  · rfl
  · exact stopModems_epoch ..

theorem podPass_epoch (s : State) (link : Nat) (h : DownHdr) (l : Nat) : ((s.podPass link h).pod l).epoch = (s.pod l).epoch := by
  have hreleased : ((if s.anyOut link then s else
      s.setPod link { s.pod link with leaseHold := false, linkHold := false }).pod l).epoch = (s.pod l).epoch := by
    split
    · rfl
    · exact setPod_epoch (by rfl) l
  unfold State.podPass
  dsimp only
  split
  · rw [podMode_epoch, hreleased]
  · exact hreleased

end PodEpoch

/-! ## The tether word at a pod -/

section Passed
variable {p : Pod} {now : Nat} {x : Side} {w : BitVec 48}

theorem grantPasses_iff : p.grantPasses now x w = true ↔
    tetherOk w = true ∧ tetherKind w = 1 ∧ tetherSide w = x ∧
      (p.acceptAny = true ∨ (tetherEpoch w = p.epoch ∧ p.leaseRuns now = true) ∨
        (tetherEpoch w ≠ p.epoch ∧ epochGe (tetherEpoch w) p.epoch = true)) := by
  simp [Pod.grantPasses, and_assoc, or_assoc]

/-- What a pod notes of a frame before it judges the word is not what it judges the word by. -/
theorem grantPasses_received (r : Rx) (y : Side) (c : Option Nat) :
    (((p.setRx y r).setGood y now).setClaim y c).grantPasses now x w = p.grantPasses now x w := by
  cases y <;> rfl

/-- The pod takes the epoch of a word that passes: a new one starts the lease, and any other is the epoch it has (R367, R368). -/
theorem takeGrant_epoch : (p.takeGrant now x w).epoch = tetherEpoch w := by
  unfold Pod.takeGrant
  dsimp only
  split
  case isTrue => rfl
  case isFalse hold =>
    simp only [Bool.or_eq_true, bne_iff_ne, ne_eq, not_or, not_not] at hold
    obtain ⟨hepoch, -⟩ := hold
    split <;> exact hepoch.symm

theorem refer_epoch (y : Side) (seq ftime : Nat) : (p.refer now y seq ftime).epoch = p.epoch := by
  unfold Pod.refer
  dsimp only
  split <;> split <;> rfl

end Passed

/-- Outside COMPAT a pod acts on a frame in use if its word passes, and has then taken the word's epoch. -/
theorem podUse_acts {s : State} {link : Nat} {h : DownHdr} {p : Pod} (hc : s.compat = false)
    (ha : (s.podUse link h p).2 = true) :
    ((p.setGood h.side s.now).setClaim h.side (claimIn h.side h.tether)).grantPasses s.now h.side h.tether = true ∧
      ((s.podUse link h p).1.pod link).epoch = tetherEpoch h.tether := by
  unfold State.podUse at ha ⊢
  simp only [hc, Bool.false_eq_true, if_false] at ha ⊢
  split at ha
  case isTrue hpass =>
    rw [if_pos hpass, podPass_epoch, changeHolder_epoch, State.setPod_pod, refer_epoch, takeGrant_epoch]
    exact ⟨hpass, rfl⟩
  case isFalse => split at ha <;> exact absurd ha Bool.false_ne_true

/-- A pod acts on no frame but one that its receiver uses, at a powered pod (R264). -/
theorem podFrame_acts {s u : State} {link : Nat} {h : DownHdr} {used : Bool} (hf : s.podFrame link h = (u, used, true)) :
    used = true ∧ (s.pod link).powered = true ∧ link < 96 ∧ ∃ r, s.podUse link h ((s.pod link).setRx h.side r) = (u, true) := by
  unfold State.podFrame at hf
  dsimp only at hf
  split at hf
  case isTrue => cases hf
  case isFalse hon =>
    simp only [Bool.or_eq_true, Bool.not_eq_true', decide_eq_true_eq, not_or, Bool.not_eq_false, Nat.not_le] at hon
    obtain ⟨hpow, hlink⟩ := hon
    split at hf
    case isTrue =>
      simp only [Prod.mk.injEq] at hf
      obtain ⟨hu, hused, hact⟩ := hf
      exact ⟨hused.symm, hpow, hlink, _, Prod.ext hu hact⟩
    case isFalse =>
      split at hf
      · cases hf
      · split at hf <;> cases hf

/-- Settles O56: what the pod does with a frame in use is judged by the word alone, and a word names one side. -/
theorem podsActOnPassedWordsOnly : Obligations.PodsActOnPassedWordsOnly := by
  refine ⟨fun s u link h used hf => ?acts, fun p now w ha => ?oneSide⟩
  case acts =>
    obtain ⟨hused, hpow, hlink, r, huse⟩ := podFrame_acts hf
    refine ⟨hused, hpow, hlink, fun hc => ?_⟩
    obtain ⟨hpass, hepoch⟩ := podUse_acts hc (congrArg Prod.snd huse)
    rw [grantPasses_received, grantPasses_iff] at hpass
    obtain ⟨hok, hkind, hside, hjudged⟩ := hpass
    rw [huse] at hepoch
    exact ⟨hok, hkind, hside, hjudged, hepoch⟩
  case oneSide =>
    rw [grantPasses_iff] at ha
    obtain ⟨-, -, hside, -⟩ := ha
    rw [Bool.eq_false_iff, ne_eq, grantPasses_iff]
    rintro ⟨-, -, hside', -⟩
    rw [hside] at hside'
    cases hside'

/-! ## The release of the FAULT pin (R449, R450) -/

section PinHolds
variable {s t u : State} {x : Side} {op : Nat} {q : Req} {p : List Word}

/-- What keeps the FAULT pin asserted stands as it did: a controller's hold with its minimum and its episode, the hold of the start-up
path, and the arbiter (R449). -/
structure State.SamePin (s : State) (x : Side) (t : State) : Prop where
  faults : (t.ctrl x).faults = (s.ctrl x).faults
  startHold : t.startHold = s.startHold
  arb : t.arb = s.arb

namespace State.SamePin

theorem trans (h : s.SamePin x t) (h' : t.SamePin x u) : s.SamePin x u where
  faults := h'.faults.trans h.faults
  startHold := h'.startHold.trans h.startHold
  arb := h'.arb.trans h.arb

theorem modCtrl {f : Ctrl → Ctrl} (hf : ∀ c, (f c).faults = c.faults) : s.SamePin x (s.modCtrl x f) where
  faults := by rw [State.modCtrl_ctrl, hf]
  startHold := State.modCtrl_startHold ..
  arb := State.modCtrl_arb ..

end State.SamePin

theorem syncTags_samePin (s : State) (x : Side) : s.SamePin x (s.syncTags x) := by
  refine ⟨by rw [syncTags_ctrl], ?_, ?_⟩ <;> unfold State.syncTags <;> split <;> simp

theorem journal_samePin (op session tag kind seq status port digest : Nat) :
    s.SamePin x (s.journal x op session tag kind seq status port digest) := by
  refine ⟨by rw [journal_ctrl], ?_, ?_⟩ <;> unfold State.journal <;> dsimp only <;> split <;> simp

theorem finish_faults (c : Ctrl) (tag status : Nat) (ws : List Word) : (c.finish tag status ws).faults = c.faults := by
  unfold Ctrl.finish
  split
  · rfl
  · split <;> rfl

/-- A REQUEST entry at the commit of a message. -/
def State.commits (u : State) (x : Side) (op : Nat) (q : Req) (st : Nat) : State :=
  (u.journalReq x q op 0 st q.crc).modCtrl x fun c => c.modFlight q.tag fun f => { f with committed := true }

theorem commits_samePin (u : State) (x : Side) (op : Nat) (q : Req) (st : Nat) : u.SamePin x (u.commits x op q st) := by
  have hentry : u.SamePin x (u.journalReq x q op 0 st q.crc) := by
    unfold State.journalReq
    exact (journal_samePin ..).trans (.modCtrl fun _ => rfl)
  unfold State.commits
  exact hentry.trans (.modCtrl fun _ => rfl)

theorem replied_samePin (u : State) (x : Side) (q : Req) (st : Nat) (ws : List Word) : u.SamePin x (u.replied x q st ws) :=
  (State.SamePin.modCtrl fun c => finish_faults c ..).trans (syncTags_samePin ..)

/-- A request that enters changes neither the time nor the holds that are not the controller's. -/
theorem entered_rest (s : State) (x : Side) (op : Nat) (q : Req) (p : List Word) :
    (s.entered x op q p).now = s.now ∧ (s.entered x op q p).startHold = s.startHold ∧ (s.entered x op q p).arb = s.arb := by
  unfold State.entered State.heard
  simp only [State.setCtrl_now, State.setCtrl_startHold, State.setCtrl_arb]
  split <;> exact ⟨rfl, rfl, rfl⟩

/-- A request that its chapter refuses at its commit leaves its entry and its reply. -/
theorem request_refused {st : Nat} (h : s.admits x op q p = true) (hj : journalled op p = true)
    (hw : ((s.entered x op q p).ctrl x).waiting = []) (hc : ((s.entered x op q p).ctrl x).commitsOp op = true)
    (hst : (s.entered x op q p).commitStatus x op q p = st) (hne : st ≠ stOk) (hkey : op ≠ 0x55) :
    s.request op q p = .next (((s.entered x op q p).commits x op q st).replied x q st []) := by
  rw [request_commits h hj hw hc, commit_of_status (not_stale_of_admits h) (by rwa [hst]),
    commitNow_of_status hst hne fun hop => absurd hop hkey]
  rfl

/-- A request that nothing precedes and that its checks let pass is accepted at its arrival, unless its case is undefined (R13). -/
theorem accepts_of_status (h : s.admits x op q p = true) (hj : journalled op p = true)
    (hw : ((s.entered x op q p).ctrl x).waiting = []) (hc : ((s.entered x op q p).ctrl x).commitsOp op = true)
    (hst : (s.entered x op q p).commitStatus x op q p = stOk)
    (hdef : ((s.entered x op q p).ctrl x).undefinedCase op q p = none) : s.accepts x op q p = true := by
  simp [State.accepts, h, hj, hw, hc, hst, hdef]

theorem checkPinRelease_payload {now : Nat} {c : Ctrl} (hp : p ≠ []) : checkPinRelease now p c = stRange := by
  simp [checkPinRelease, firstFail, hp]

theorem checkPinRelease_busy {now : Nat} {c : Ctrl}
    (h : c.faults.episode.isOpen = true ∨ (c.faults.episode.number ≠ 0 ∧ now < c.faults.pinAt + ms 10)) :
    checkPinRelease now [] c = stBusy := by
  simpa [checkPinRelease, firstFail, stBusy, stOk, or_iff_not_imp_left] using h

theorem checkPinRelease_ok {now : Nat} {c : Ctrl} (ho : c.faults.episode.isOpen = false)
    (h : c.faults.episode.number = 0 ∨ c.faults.pinAt + ms 10 ≤ now) : checkPinRelease now [] c = stOk := by
  simpa [checkPinRelease, firstFail, stBusy, stOk, ho, imp_iff_not_or] using h

end PinHolds

/-- Settles O52: the chapter's checks alone decide the status, since every mode allows the request; a refusal leaves every hold of the
pin, and the effect only those that are not the collector's. -/
theorem faultPinReleaseFollowsItsRule : Obligations.FaultPinReleaseFollowsItsRule := by
  intro s x q p h u f hw hc
  obtain ⟨hnow, hstart, harb⟩ := entered_rest s x 0x52 q p
  have hrefuses (st : Nat) (hst : checkPinRelease u.now p (u.ctrl x) = st) (hne : st ≠ stOk) :
      ∃ t, exec (.faultPinRelease q p) s = .next t ∧ (t.ctrl x).faults.pinHeld = f.pinHeld ∧ t.startHold = s.startHold ∧
        t.arb = s.arb ∧ t = (u.commits x 0x52 q st).replied x q st [] := by
    have hsame : u.SamePin x ((u.commits x 0x52 q st).replied x q st []) := (commits_samePin ..).trans (replied_samePin ..)
    exact ⟨_, request_refused h rfl hw hc hst hne (by decide), congrArg _ hsame.faults, hsame.startHold.trans hstart,
      hsame.arb.trans harb, rfl⟩
  refine ⟨fun hp hbusy => ?busy, fun hp ho hold => ?released, fun hp => ?payload⟩
  case busy =>
    subst hp
    exact hrefuses stBusy (checkPinRelease_busy (by rwa [hnow])) (by decide)
  case released =>
    subst hp
    have hok : checkPinRelease u.now [] (u.ctrl x) = stOk := checkPinRelease_ok ho (by rwa [hnow])
    have hacc : s.accepts x 0x52 q [] = true := accepts_of_status h rfl hw hc hok rfl
    have hbegun : u.SamePin x (s.begun x 0x52 q []) := commits_samePin ..
    have heff : (effectPinRelease x (s.begun x 0x52 q [])).SamePin x ((effectPinRelease x (s.begun x 0x52 q [])).replied x q stOk []) :=
      replied_samePin ..
    refine ⟨_, request_replied hacc rfl rfl, ?_, ?_, ?_, rfl⟩
    · rw [heff.faults, effectPinRelease, State.modCtrl_ctrl]
    · rw [heff.startHold, effectPinRelease, State.modCtrl_startHold, hbegun.startHold, hstart]
    · rw [heff.arb, effectPinRelease, State.modCtrl_arb, hbegun.arb, harb]
  case payload =>
    obtain ⟨t, hrun, hheld, hs, ha, -⟩ := hrefuses stRange (checkPinRelease_payload hp) (by decide)
    exact ⟨t, hrun, hheld, hs, ha⟩

/-! ## Memory under debug (R480) -/

section DebugMemory
variable {s t : State} {x : Side} {addr : Nat} {data : BitVec 32}

/-- Four bytes stored in the SRAM of one controller. -/
def State.storeSram (s : State) (x : Side) (a : Nat) (data : BitVec 32) : State :=
  s.modCtrl x fun c => { c with sram := memStore sramEmpty c.sram a (fourBytes data) }

theorem dieDone_ctrl (s : State) (d : Die) (y : Side) : (s.dieDone d).ctrl y = s.ctrl y := State.emit_ctrl ..

theorem dieRefuses_ctrl (s : State) (d : Die) (y : Side) : (s.dieRefuses d).ctrl y = s.ctrl y := State.emit_ctrl ..

/-- A controller after the store of another, or of its own. -/
theorem storeSram_ctrl (s : State) (x : Side) (a : Nat) (data : BitVec 32) (y : Side) :
    (s.storeSram x a data).ctrl y =
      if y = x then { s.ctrl y with sram := memStore sramEmpty (s.ctrl y).sram a (fourBytes data) } else s.ctrl y := by
  cases x <;> cases y <;> rfl

theorem debugMemory_stores {a : Nat} (hs : (s.ctrl x).dbg.stopped = true) (ha : Config.sramAddress addr = some a)
    (hn : a + 4 ≤ sramSize) : s.debugMemory x addr data = (s.storeSram x a data).dieDone (.ctrl x) := by
  simp only [State.debugMemory, ha, hs, hn, decide_true, Bool.and_self, if_true]
  rfl

/-- A write to memory stores while the core is stopped and the address is in SRAM, and is refused otherwise. -/
theorem debugMemory_cases (s : State) (x : Side) (addr : Nat) (data : BitVec 32) :
    s.debugMemory x addr data = s.dieRefuses (.ctrl x) ∨ ∃ a, (s.ctrl x).dbg.stopped = true ∧ Config.sramAddress addr = some a ∧
      s.debugMemory x addr data = (s.storeSram x a data).dieDone (.ctrl x) := by
  unfold State.debugMemory
  split
  case h_1 a ha =>
    split
    case isTrue hstop =>
      rw [Bool.and_eq_true] at hstop
      obtain ⟨hstop, -⟩ := hstop
      exact .inr ⟨a, hstop, ha, rfl⟩
    case isFalse => exact .inl rfl
  case h_2 => exact .inl rfl

theorem execFyvailMemoryWrite_of_supply (hs : s.supply = true) :
    execFyvailMemoryWrite (.ctrl x) addr data s = .next (s.debugMemory x addr data) := by
  simp only [execFyvailMemoryWrite, State.onDie, hs, Bool.not_true, Bool.false_eq_true, if_false]

/-- A Fyvail write to memory leaves both controllers, or stores in one whose core is stopped. -/
theorem execFyvailMemoryWrite_ctrl {d : Die} (h : execFyvailMemoryWrite d addr data s = .next t) :
    (∀ y, t.ctrl y = s.ctrl y) ∨ ∃ x a, (s.ctrl x).dbg.stopped = true ∧ Config.sramAddress addr = some a ∧
      ∀ y, t.ctrl y = (s.storeSram x a data).ctrl y := by
  unfold execFyvailMemoryWrite State.onDie at h
  split at h
  · cases h; exact .inl fun _ => rfl
  · cases d with
    | arbiter => cases h; exact .inl (dieRefuses_ctrl s _)
    | ctrl x =>
      cases h
      obtain hr | ⟨a, hstop, ha, hr⟩ := debugMemory_cases s x addr data
      · exact .inl fun y => (congrArg (State.ctrl · y) hr).trans (dieRefuses_ctrl ..)
      · exact .inr ⟨x, a, hstop, ha, fun y => (congrArg (State.ctrl · y) hr).trans (dieDone_ctrl ..)⟩

theorem fourBytes_length : (fourBytes data).length = 4 := rfl

/-- Settles O57: every outcome leaves the controllers or stores four bytes in one that is stopped, and a store reads back by the laws of
byte memories. -/
theorem fyvailMemoryWriteBytes : Obligations.FyvailMemoryWriteBytes := by
  intro s x addr data
  refine ⟨fun a hs hstop ha hn => ?stores, fun d t h => ?frame⟩
  case stores =>
    have hsram : (((s.storeSram x a data).dieDone (.ctrl x)).ctrl x).sram =
        memStore sramEmpty (s.ctrl x).sram a (fourBytes data) := by
      rw [dieDone_ctrl, storeSram_ctrl, if_pos rfl]
    refine ⟨_, (execFyvailMemoryWrite_of_supply hs).trans (congrArg _ (debugMemory_stores hstop ha hn)), fun n hout => ?_,
      fun k hk => ?_⟩
    · rw [hsram, memByte_memStore, fourBytes_length, if_neg (by omega)]
    · rw [hsram, memByte_memStore, fourBytes_length, if_pos (by omega), Nat.add_sub_cancel_left]
      rw [List.getD_eq_getElem _ _ hk, List.getD_eq_getElem _ _ hk]
  case frame =>
    obtain hsame | ⟨z, a, hstop, ha, hst⟩ := execFyvailMemoryWrite_ctrl h
    · exact ⟨fun y _ _ => by rw [hsame], fun y _ => by rw [hsame], fun y => by rw [hsame]; exact ⟨rfl, rfl⟩,
        fun y hwf => by rwa [hsame]⟩
    · refine ⟨fun y n hout => ?_, fun y hy => ?_, fun y => ?_, fun y hwf => ?_⟩
      all_goals rw [hst, storeSram_ctrl]
      · split
        · have hn := hout a ha
          rw [memByte_memStore, fourBytes_length, if_neg (by omega)]
        · rfl
      · rw [if_neg]
        rintro rfl
        exact absurd hstop (by simp [hy])
      · split <;> exact ⟨rfl, rfl⟩
      · split
        · exact memStore_wf _ _ _ _ hwf
        · exact hwf

end DebugMemory
end Sys2Proof.Machine
end

section
/-! The statements of chapter 11 on the receivers of the Frame port and on the Ethernet ports. -/

namespace Sys2Proof.Machine

/-! ## The receivers of the Frame port (R341 to R343) -/

section FrameWords
variable {s : State} {w h : Word} {p : List Word}

theorem frameBoth_self (s : State) : (s.frameBoth fun c => c) = s := by
  have hid : (fun (x : Side) (u : State) => u.modCtrl x fun c => c) = fun _ u => u :=
    funext fun x => funext fun u => State.setCtrl_self u x
  rw [State.frameBoth, hid, onRunning_id]

/-- With no complete message in a receiver that runs, none passes to admission. -/
theorem takeFrame_of_partial
    (hp : ∀ z, s.runs z = true → ∀ h p, (s.ctrl z).ports.frame = some (h, p) → fld h 83 76 ≠ p.length) :
    s.takeFrame = .next s := by
  have hclear : ∀ full : Ctrl → Bool, (∀ z, s.runs z = true → full (s.ctrl z) = false) →
      (s.frameBoth fun c => if full c then c.setFrame none else c) = s := fun full hfull =>
    (frameBoth_congr _ _ _ fun z hz => by simp [hfull z hz]).trans (frameBoth_self s)
  unfold State.takeFrame
  dsimp only
  rw [hclear _ fun z hz => ?receivers]
  case receivers =>
    split
    next hf => simp [hp z hz _ _ hf]
    next => rfl
  split
  next => rfl
  next x hx =>
    obtain hf | ⟨m, hf⟩ := Option.eq_none_or_eq_some (s.ctrl x).ports.frame
    · simp only [hf]
    · simp [hf, hp x (active_runs hx) _ _ hf]

/-- Receivers after a word that completes no message. -/
theorem takeFrame_frameBoth {g : Ctrl → Ctrl} (hg : ∀ c, (g c).running = c.running ∧ (g c).inReset = c.inReset)
    (hp : ∀ z, s.runs z = true → ∀ h p, (g (s.ctrl z)).ports.frame = some (h, p) → fld h 83 76 ≠ p.length) :
    (s.frameBoth g).takeFrame = .next (s.frameBoth g) := by
  refine takeFrame_of_partial fun z hz => ?_
  rw [frameBoth_runs s g hg] at hz
  rw [frameBoth_ctrl, if_pos hz]
  exact hp z hz

theorem dropPartial_of_none {c : Ctrl} (hf : c.ports.frame = none) : c.dropPartial = c := by
  simp [Ctrl.dropPartial, hf]

/-- A header word with `SYNC` at the receivers, which are aligned. -/
theorem execFrameHeaderWord_of_sync (hal : ∀ z, s.runs z = true → (s.ctrl z).aligned = true) (hs : fld w 127 120 = 0xB6)
    (hl : fld w 83 76 ≠ 0) : execFrameHeaderWord w s = .next (s.frameBoth fun c => c.dropPartial.setFrame (some (w, []))) := by
  have hopen : (s.frameBoth fun c =>
        if !c.aligned then c else if fld w 127 120 ≠ 0xB6 then c.badWord else c.dropPartial.setFrame (some (w, []))) =
      s.frameBoth fun c => c.dropPartial.setFrame (some (w, [])) :=
    frameBoth_congr _ _ _ fun z hz => by simp [hal z hz, hs]
  rw [execFrameHeaderWord, hopen]
  refine takeFrame_frameBoth (fun c => ?_) fun z _ h p hf => ?_
  · obtain ⟨hrun, hreset, -⟩ := dropPartial_frame c
    exact ⟨hrun, hreset⟩
  · cases hf
    exact hl

/-- A header word without `SYNC` is a bad word (R341). -/
theorem execFrameHeaderWord_of_no_sync
    (hal : ∀ z, s.runs z = true → (s.ctrl z).aligned = true ∧ (s.ctrl z).ports.frame = none) (hs : fld w 127 120 ≠ 0xB6) :
    execFrameHeaderWord w s = .next (s.frameBoth fun c => c.countPort 0 0) := by
  have hbad : (s.frameBoth fun c =>
        if !c.aligned then c else if fld w 127 120 ≠ 0xB6 then c.badWord else c.dropPartial.setFrame (some (w, []))) =
      s.frameBoth fun c => c.countPort 0 0 :=
    frameBoth_congr _ _ _ fun z hz => by
      obtain ⟨ha, hf⟩ := hal z hz
      simp [ha, hs, Ctrl.badWord, dropPartial_of_none hf]
  rw [execFrameHeaderWord, hbad]
  refine takeFrame_frameBoth (fun c => ⟨rfl, rfl⟩) fun z hz h p hf => ?_
  obtain ⟨-, hnone⟩ := hal z hz
  exact absurd (hnone.symm.trans hf) (by simp)

/-- A payload word that is not the last one joins the open message. -/
theorem execFramePayloadWord_joins
    (hal : ∀ z, s.runs z = true → (s.ctrl z).aligned = true ∧ (s.ctrl z).ports.frame = some (h, p))
    (hl : fld h 83 76 ≠ p.length + 1) :
    execFramePayloadWord w s = .next (s.frameBoth fun c => c.setFrame (some (h, p ++ [w]))) := by
  have hjoin : (s.frameBoth fun c =>
        if !c.aligned then c
        else
          match c.ports.frame with
          | some (h, p) => c.setFrame (some (h, p ++ [w]))
          | none => c.countPort 0 2) =
      s.frameBoth fun c => c.setFrame (some (h, p ++ [w])) :=
    frameBoth_congr _ _ _ fun z hz => by simp [hal z hz]
  unfold execFramePayloadWord
  refine (congrArg State.takeFrame hjoin).trans (takeFrame_frameBoth (fun c => ⟨rfl, rfl⟩) fun z _ h' p' hf => ?_)
  cases hf
  simpa using hl

/-- A payload word without an open message is an orphan (R342). -/
theorem execFramePayloadWord_orphan
    (hal : ∀ z, s.runs z = true → (s.ctrl z).aligned = true ∧ (s.ctrl z).ports.frame = none) :
    execFramePayloadWord w s = .next (s.frameBoth fun c => c.countPort 0 2) := by
  have horphan : (s.frameBoth fun c =>
        if !c.aligned then c
        else
          match c.ports.frame with
          | some (h, p) => c.setFrame (some (h, p ++ [w]))
          | none => c.countPort 0 2) =
      s.frameBoth fun c => c.countPort 0 2 :=
    frameBoth_congr _ _ _ fun z hz => by simp [hal z hz]
  unfold execFramePayloadWord
  refine (congrArg State.takeFrame horphan).trans (takeFrame_frameBoth (fun c => ⟨rfl, rfl⟩) fun z hz h' p' hf => ?_)
  obtain ⟨-, hnone⟩ := hal z hz
  exact absurd (hnone.symm.trans hf) (by simp)

theorem badWord_eq (c : Ctrl) :
    c.badWord = if c.ports.frame.isSome then ((c.countPort 0 1).setFrame none).countPort 0 0 else c.countPort 0 0 :=
  apply_ite (Ctrl.countPort · 0 0) ..

theorem execFrameMessageGap_short {gap : Nat} (hg : gap ≤ us 990) : execFrameMessageGap gap s = .next s :=
  if_pos hg

theorem execFrameMessageGap_long {gap : Nat} (hg : us 1010 ≤ gap) :
    execFrameMessageGap gap s = .next (s.frameBoth fun c => c.dropPartial) := by
  have hlong : ¬gap ≤ us 990 := by simp only [us] at hg ⊢; omega
  rw [execFrameMessageGap, if_neg hlong, if_pos hg]

theorem execFrameBadWord_eq (s : State) : execFrameBadWord s = .next (s.frameBoth fun c =>
    if c.ports.frame.isSome then ((c.countPort 0 1).setFrame none).countPort 0 0 else c.countPort 0 0) :=
  congrArg (Host.Outcome.next <| s.frameBoth ·) (funext badWord_eq)

end FrameWords

/-- Settles O21: each receiver that runs changes by its own rule, and no word of these completes a message. -/
theorem frameWordsRun : Obligations.FrameWordsRun := fun s _ =>
  ⟨execFrameHeaderWord_of_sync, execFrameHeaderWord_of_no_sync, fun _ _ => execFramePayloadWord_joins, execFramePayloadWord_orphan,
    execFrameBadWord_eq s, fun _ => execFrameMessageGap_short,
    fun _ => execFrameMessageGap_long, fun _ => rfl, fun _ => rfl⟩

/-! ## The Ethernet ports (R347 to R350) -/

section Ethernet
variable {s : State} {x : Side} {ip udp ident offset : Nat} {bytes : List Byte} {more : Bool}

theorem execUdpDatagram_bad (hu : s.ethUp x = true) (hs : (s.ctrl x).portServes (ethPort x) = true)
    (hb : datagramMessages bytes = none) :
    execUdpDatagram x ip udp bytes s = .next (s.modCtrl x fun c => c.countPort (portCode (ethPort x)) 0) := by
  simp [execUdpDatagram, State.datagram, hu, hs, hb]

/-- A first fragment that is not the last begins a reassembly. -/
theorem execIpv4Fragment_begins (hu : s.ethUp x = true) (hr : (s.ctrl x).ports.reasm = []) (hl : bytes.length ≤ 8192) :
    execIpv4Fragment x ip udp ident 0 bytes true s = .next (s.setCtrl x ((s.ctrl x).setReasm
      [{ ident, ip, udp, parts := [(0, bytes)], total := none, started := s.now }])) := by
  simp [execIpv4Fragment, hu, hr, hl.not_gt, Reassembly.add, Reassembly.whole]

/-- Beyond 8,192 bytes a reassembly is abandoned and counted (R350, and log entry 50). -/
theorem execIpv4Fragment_abandons {r : Reassembly} (hu : s.ethUp x = true) (hr : (s.ctrl x).ports.reasm = [r]) (hi : r.ident = ident)
    (hip : r.ip = ip) (hl : 8192 < offset + bytes.length) :
    execIpv4Fragment x ip udp ident offset bytes more s =
      .next (s.setCtrl x (((s.ctrl x).setReasm []).countPort (portCode (ethPort x)) 1)) := by
  simp [execIpv4Fragment, hu, hr, hi, hip, hl]

/-- A ninth reassembly is not begun (log entry 50). -/
theorem execIpv4Fragment_ninth (hu : s.ethUp x = true) (hn : 8 ≤ (s.ctrl x).ports.reasm.length)
    (hi : ∀ r ∈ (s.ctrl x).ports.reasm, r.ident ≠ ident) : execIpv4Fragment x ip udp ident offset bytes more s = .next s := by
  have hfind : ((s.ctrl x).ports.reasm.find? fun r => r.ident == ident && r.ip == ip) = none :=
    List.find?_eq_none.mpr fun r hr => by simp [hi r hr]
  simp [execIpv4Fragment, hu, hn, hfind]

theorem execReassemblyTimeout_due {r : Reassembly} (hr : (s.ctrl x).ports.reasm = [r]) (ht : r.started + ms 10 ≤ s.now) :
    execReassemblyTimeout x r.ident s = .next (s.setCtrl x (((s.ctrl x).setReasm []).countPort (portCode (ethPort x)) 1)) := by
  simp [execReassemblyTimeout, hr, ht]

/-- ARP and ICMP for the port's own address are answered (R348). -/
theorem ownAddress_answers (hu : s.ethUp x = true) (ha : (s.ctrl x).ownAddress x = ip) (o : Out) :
    (if s.ethUp x && (s.ctrl x).ownAddress x == ip then s.emit o else s) = s.emit o :=
  if_pos (by simp [hu, ha])

theorem otherAddress_silent (ha : (s.ctrl x).ownAddress x ≠ ip) (o : Out) :
    (if s.ethUp x && (s.ctrl x).ownAddress x == ip then s.emit o else s) = s :=
  if_neg (by simp [ha])

theorem execEthernetLinkChange_allowed {link : Nat} (hr : s.runs x = true)
    (hl : speedAllows (fld ((s.ctrl x).portCfg (portCode (ethPort x))) 81 80) link = true) :
    execEthernetLinkChange x link s = .next (s.setCtrl x { s.ctrl x with ports := { (s.ctrl x).ports with ethLink := link } }) :=
  if_pos (Bool.and_eq_true_iff.mpr ⟨hr, hl⟩)

end Ethernet

/-- Settles O22, a branch of the Ethernet port's commands for each clause. -/
theorem ethernetCommandsRun : Obligations.EthernetCommandsRun := fun _ _ _ _ _ _ =>
  ⟨execUdpDatagram_bad, execIpv4Fragment_begins, fun _ _ _ => execIpv4Fragment_abandons, fun _ _ => execIpv4Fragment_ninth,
    fun _ => execReassemblyTimeout_due,
    fun _ hu ha => ⟨congrArg _ (ownAddress_answers hu ha _), congrArg _ (ownAddress_answers hu ha _)⟩,
    fun _ ha => ⟨congrArg _ (otherAddress_silent ha _), congrArg _ (otherAddress_silent ha _)⟩,
    fun _ => execEthernetLinkChange_allowed⟩

end Sys2Proof.Machine
end

section
/-! The statements of chapter 13 on the roles of a knot, on the cycle of the rope and on the commands that a CSF carries. -/

namespace Sys2Proof.Machine

/-! ## What a change of a controller leaves -/

theorem setCtrl_field {γ : Type} (g : Ctrl → γ) {s : State} {x y : Side} {c : Ctrl} (h : g c = g (s.ctrl x)) :
    g ((s.setCtrl x c).ctrl y) = g (s.ctrl y) := by
  cases x <;> cases y
  · exact h
  · rfl
  · rfl
  · exact h

theorem modCtrl_field {γ : Type} (g : Ctrl → γ) {f : Ctrl → Ctrl} (hf : ∀ c, g (f c) = g c) {s : State} {x y : Side} :
    g ((s.modCtrl x f).ctrl y) = g (s.ctrl y) :=
  setCtrl_field g (hf _)

/-! ## The loss of the rope's angle (R78, R408) -/

section RopeAngle
variable {s : State} {x y : Side}

theorem note_st (t : Tracker) (mt : Nat) : (t.note mt).st = t.st := by
  unfold Tracker.note
  dsimp only
  split
  · split <;> rfl
  · rfl

theorem angleEvent_as2 (s : State) (src : Nat) (old new : TrackSt) (step : Int) :
    ((s.angleEvent y src old new step).ctrl y).as2 = (s.ctrl y).as2 := by
  unfold State.angleEvent
  dsimp only
  split
  · rw [State.setCtrl_ctrl]
    rfl
  · rfl

/-- AS2 without its source is in FLYWHEEL (R75, R80). -/
theorem loseSource_as2 (s : State) (y : Side) : ((s.loseSource y 2).ctrl y).as2.st = .flywheel := by
  simp only [State.loseSource, State.trackEnter, angleEvent_as2, State.noteTrack, State.modCtrl_ctrl]
  exact note_st ..

/-- On a running controller whose turn is the loss of AS2's source, AS2 is in FLYWHEEL after the turns of both. -/
theorem onRunning_as2_flywheel {f : Side → State → State} (hf : ∀ z (u : State), u.OnlyCtrl z (f z u))
    (hlose : ∀ u, u.ctrl y = s.ctrl y → f y u = u.loseSource y 2) (hy : s.runs y = true) :
    ((s.onRunning f).ctrl y).as2.st = .flywheel := by
  obtain ⟨u, -, hu, hturn⟩ :=
    onRunning_turn (P := fun _ => True) trivial (fun _ _ _ => trivial) (fun z u => (hf z u).other) hy
  rw [hturn, hlose u hu, loseSource_as2]

theorem execRopeAngleLoss_due {t : Nat} (hx : s.active = some x) (hr : (s.ctrl x).rope.role = 1)
    (hl : (s.ctrl x).rope.lastCsf = some t) (ht : t + us 750 ≤ s.now) :
    ∃ u, execRopeAngleLoss s = .next u ∧ (u.ctrl x).time.state = 3 ∧
      ∀ y, s.runs y = true → ((s.ctrl y).as2.st = .locked ∨ (s.ctrl y).as2.st = .relock) → (u.ctrl y).as2.st = .flywheel := by
  refine ⟨_, congrArg Host.Outcome.next ((onActive_of_active hx _).trans (if_pos (And.intro hr (by simpa [hl] using ht)))), ?_,
    fun y hy hst => ?_⟩
  · rw [State.modCtrl_ctrl]
  · dsimp only
    rw [modCtrl_field (·.as2) fun _ => by rfl]
    refine onRunning_as2_flywheel (fun z u => ?_) (fun u hu => ?_) hy
    · split
      · exact ((State.OnlyCtrl.refl u z).modCtrl _).trackEnter _ _
      · exact ((State.OnlyCtrl.refl u z).modCtrl _).trackEnter _ _
      · exact .refl u z
    · rcases hst with hst | hst <;> simp only [hu, hst]

end RopeAngle

/-! ## Roles (R400, R410, R416) -/

section RopeRoles
variable {s : State} {x : Side} {t : Nat} (hx : s.active = some x)
include hx

theorem execBypassChange_closes (hw : s.bypassed (s.ctrl x) = true) (hb : (s.ctrl x).rope.bypass = false) :
    execBypassChange s =
      .next ((s.modRope x fun r => { r with bypass := true, present := 0, isOpen := false }).ropeRole x 3) := by
  simp [execBypassChange, onActive_of_active hx, hw, hb]

theorem execBypassChange_opens (hw : s.bypassed (s.ctrl x) = false) (hb : (s.ctrl x).rope.bypass = true) :
    execBypassChange s = .next (s.modRope x fun r => { r with bypass := false, listenAt := s.now, lastCsf := none }) := by
  simp [execBypassChange, onActive_of_active hx, hw, hb]

/-- What makes a knot that hears the rope its master (R410, R420). -/
theorem execMasterTimeout_of_due (hh : (s.ctrl x).hears = true) (hm : ropeMode (s.ctrl x).mode = true) (hr : (s.ctrl x).rope.role ≠ 0)
    (hy : (s.ctrl x).rope.yielded = false)
    (hd : ((s.ctrl x).rope.reform = true ∧ (s.ctrl x).rope.wasMaster = true) ∨
      (s.knotId = 0 ∧ (s.ctrl x).rope.lastCsf = none ∧ (s.ctrl x).rope.reform = false) ∨
      (s.ctrl x).rope.lastCsf.getD (s.ctrl x).rope.listenAt + ms (2000 + 20 * s.knotId) ≤ s.now) :
    execMasterTimeout s = .next (s.becomeMaster x) := by
  rw [execMasterTimeout, onActive_of_active hx]
  exact congrArg _ (if_pos (by simpa [hh, hm, hr, hy, and_assoc, or_assoc] using hd))

theorem execNoCsfTimeout_due (hh : (s.ctrl x).hears = true) (hr : (s.ctrl x).rope.role = 1) (hl : (s.ctrl x).rope.lastCsf = some t)
    (ht : t + ms 2000 ≤ s.now) : execNoCsfTimeout s = .next (s.ropeRole x 2) := by
  rw [execNoCsfTimeout, onActive_of_active hx]
  exact congrArg _ (if_pos (by simp [hh, hr, hl, ht]))

end RopeRoles

/-- Settles O42: each change of role has its condition, and a knot becomes master by any of the three of R410 and R420. -/
theorem ropeRolesRun : Obligations.RopeRolesRun := by
  intro s x hx
  refine ⟨execBypassChange_closes hx, execBypassChange_opens hx, fun t hh hm hr hy hl ht => ?_, fun hh hm hr hy hd => ?_,
    fun _ => execNoCsfTimeout_due hx, fun _ => execRopeAngleLoss_due hx⟩
  · exact execMasterTimeout_of_due hx hh hm hr hy (.inr (.inr (by simpa [hl] using ht)))
  · obtain hd | hd := hd
    · exact execMasterTimeout_of_due hx hh hm hr hy (.inr (.inl hd))
    · exact execMasterTimeout_of_due hx hh hm hr hy (.inl hd)

/-! ## The cycle of the rope: CSF (R406, R407) -/

section RopeCycles
variable {s : State} {x : Side} (hx : s.active = some x) (hh : (s.ctrl x).hears = true)
include hx hh

theorem execCsfLaunch_launches (hr : (s.ctrl x).rope.role = 0) (hg : (s.ctrl x).rope.gotCommit = false) :
    execCsfLaunch s = .next (s.launch x) := by
  rw [execCsfLaunch, onActive_of_active hx]
  exact congrArg _ (if_pos (by simp [hh, hr, hg]))

omit hh in
/-- At the CSF of S, which a committed agreement names, the rope sleeps (R421). -/
theorem execCsfLaunch_sleeps (hg : (s.ctrl x).rope.gotCommit = true) (hc : (s.ctrl x).rope.cycle + 1 = (s.ctrl x).rope.sleepS) :
    execCsfLaunch s = .next s := by
  rw [execCsfLaunch, onActive_of_active hx]
  exact congrArg _ (if_neg (by simpa [hg] using fun _ _ => hc))

theorem execCsfReceive_eq (f : Csf) : execCsfReceive f s = .next
    (if csfGood f then if (s.ctrl x).rope.role = 0 then s.masterCsf x f else s.knotCsf x f
    else if (s.ctrl x).rope.role = 0 then s.badFrame x else (s.badFrame x).forwardCsf x f) := by
  cases hf : csfGood f <;> simp [execCsfReceive, onActive_of_active hx, hh, hf]

/-! ### Slots (R409, R412 to R414) -/

section Slots
variable {error : Nat}

theorem execSlotSend_data (hm : ropeMode (s.ctrl x).mode = true) (hr : (s.ctrl x).rope.role < 2) (hu : (s.ctrl x).rope.muted = false)
    (he : error ≤ 250) : execSlotSend error s = .next (s.dataSlot x) := by
  have hr2 : (s.ctrl x).rope.role ≠ 2 := by omega
  have hr3 : (s.ctrl x).rope.role ≠ 3 := by omega
  simp [execSlotSend, onActive_of_active hx, hh, hm, hr2, hr3, hu, he.not_gt]

theorem execSlotSend_join (hm : ropeMode (s.ctrl x).mode = true) (hr : (s.ctrl x).rope.role = 2) (hu : (s.ctrl x).rope.muted = false)
    (he : error ≤ 250) : execSlotSend error s = .next (s.joinSlot x) := by
  simp [execSlotSend, onActive_of_active hx, hh, hm, hr, hu, he.not_gt]

/-- A slot that starts too far off is muted (R414). -/
theorem execSlotSend_mutes (hm : ropeMode (s.ctrl x).mode = true) (hr : (s.ctrl x).rope.role < 3) (hu : (s.ctrl x).rope.muted = false)
    (he : 250 < error) : execSlotSend error s = .next ((s.modRope x fun r =>
      { r with muted := true, relock := 0, mutes := satAt 65535 (r.mutes + 1) }).ropeEvent x 3 s.knotId 0) := by
  have hmute : (s.modRope x fun r =>
      { r with muted := true, relock := 0, mutes := if r.muted then r.mutes else satAt 65535 (r.mutes + 1) }) =
      s.modRope x fun r => { r with muted := true, relock := 0, mutes := satAt 65535 (r.mutes + 1) } := by
    simp [State.modRope, hu]
  simp [execSlotSend, onActive_of_active hx, hh, hm, hr.ne, hu, he, hmute]

variable {h : Word} {p : List Word} {chk : BitVec 32} (hr : (s.ctrl x).rope.role ≠ 3)
include hr

/-- A slot that the knot hears. -/
theorem execSlotDataReceive_eq : execSlotDataReceive ⟨h, chk⟩ p s = .next (s.hearSlot x h p chk
    (if !nbit (s.ctrl x).rope.present.toNat (fld h 127 124) then s.emitRope x (.slot h p chk)
    else (((s.noteSlot x h).slotSleep x h).slotWords x (fld h 127 124)
      ((p.mapIdx fun i w => (fld h (63 - 3 * i) (61 - 3 * i), fld h (36 - 4 * i) (33 - 4 * i), w)).take 9) []).emitRope x
        (.slot h p chk))) := by
  rw [execSlotDataReceive, onActive_of_active hx]
  exact congrArg _ (if_neg (by simp [hh, hr]))

theorem execJoinReceive_eq : execJoinReceive ⟨h, chk⟩ s = .next (s.hearSlot x h [] chk
    (if (s.ctrl x).rope.role = 0 ∧ (s.ctrl x).rope.sleepSt = 0 ∧
        ((s.ctrl x).rope.joinDue.any fun j => j.1 == fld h 127 124) = false then
      ((s.noteSlot x h).emitRope x (.slot h [] chk)).modRope x fun r => { r with joinDue := r.joinDue ++ [(fld h 127 124, 2)] }
    else (s.noteSlot x h).emitRope x (.slot h [] chk))) := by
  rw [execJoinReceive, onActive_of_active hx]
  exact congrArg _ (if_neg (by simp [hh, hr]))

end Slots
end RopeCycles

section HearSlot
variable {s good : State} {x : Side} {h : Word} {p : List Word} {chk : BitVec 32}

/-- A good slot of another knot. -/
theorem hearSlot_good (hc : slotCheck (s.ctrl x).rope.cycle h p = chk) (hk : fld h 127 124 ≠ s.knotId) :
    s.hearSlot x h p chk good = good := by
  rw [State.hearSlot, if_neg (not_not_intro hc), if_neg hk]

theorem hearSlot_bad (hc : slotCheck (s.ctrl x).rope.cycle h p ≠ chk) :
    s.hearSlot x h p chk good = (s.badFrame x).emitRope x (.slot h p chk) :=
  if_pos hc

end HearSlot

/-- Settles O43: CSFs are told apart by their check and the knot's role, slots by their check, their sender and its presence. -/
theorem ropeCyclesRun : Obligations.RopeCyclesRun := by
  intro s x hx hh
  refine ⟨execCsfLaunch_launches hx hh, fun _ => execCsfLaunch_sleeps hx, fun f hf hr => ?_, fun f hf hr => ?_, fun f hf hr => ?_,
    fun f hf hr => ?_, fun _ => execSlotSend_data hx hh, fun _ => execSlotSend_join hx hh, fun _ => execSlotSend_mutes hx hh,
    fun h p chk hr hc hk hp => ?_, fun h p chk hr hc hk hp => ?_, fun h p chk hr hc => ?_, fun h chk hr hc hk hs hj => ?_⟩
  · simp [execCsfReceive_eq hx hh, hf, hr, exec]
  · simp [execCsfReceive_eq hx hh, hf, hr, exec]
  · simp [execCsfReceive_eq hx hh, hf, hr, exec]
  · simp [execCsfReceive_eq hx hh, hf, hr, exec]
  · exact (execSlotDataReceive_eq hx hh hr).trans (congrArg _ ((hearSlot_good hc hk).trans (if_pos (by simp [hp]))))
  · exact (execSlotDataReceive_eq hx hh hr).trans (congrArg _ ((hearSlot_good hc hk).trans (if_neg (by simp [hp]))))
  · exact (execSlotDataReceive_eq hx hh hr).trans (congrArg _ (hearSlot_bad hc))
  · have hr3 : (s.ctrl x).rope.role ≠ 3 := by omega
    exact (execJoinReceive_eq hx hh hr3).trans (congrArg _ ((hearSlot_good hc hk).trans (if_pos ⟨hr, hs, hj⟩)))

/-! ## The commands of a CSF (R405, R419 to R421) -/

section RopeCommands
variable {s : State} {x : Side} {w : Word}

/-- A command reaches a knot that hears the rope as MEMBER or JOINING. -/
theorem onCmd_of_hears (hx : s.active = some x) (hh : (s.ctrl x).hears = true)
    (hr : (s.ctrl x).rope.role = 1 ∨ (s.ctrl x).rope.role = 2) (f : Side → State) : s.onCmd f = .next (f x) := by
  rw [State.onCmd, onActive_of_active hx]
  exact congrArg _ (if_pos (by rcases hr with hr | hr <;> simp [hh, hr]))

theorem cmdCommit_agreed (hst : (s.ctrl x).rope.sleepSt ≠ 0) (hw : (s.ctrl x).rope.sleepS.toNat = fld w 119 88) :
    s.cmdCommit x w =
      ((s.modRope x fun r => { r with gotCommit := true, sleepSt := 2 }).ropeEvent x 8 s.knotId 0).answerSleep x 0 0 0 :=
  if_pos ⟨hst, hw⟩

end RopeCommands

/-- Settles O44: each command word reaches the knot through `onCmd`. -/
theorem ropeCommandsRun : Obligations.RopeCommandsRun := by
  intro s x w mask hx
  refine ⟨fun hh hr => ?_, congrArg _ (onActive_of_active hx _)⟩
  have hcmd := onCmd_of_hears hx hh hr
  exact ⟨hcmd _, hcmd _, fun hst hw => (hcmd _).trans (congrArg _ (cmdCommit_agreed hst hw)), hcmd _, hcmd _, hcmd _⟩

end Sys2Proof.Machine
end

section
/-! The statement of chapter 12 on the commands of a firmware update. -/

namespace Sys2Proof.Machine

/-! ## Sectors erased, settings migrated (R391, R440) -/

section Update
variable {s : State} {x y : Side}

theorem startDog_update (s : State) (x y : Side) : ((s.startDog x).ctrl y).update = (s.ctrl y).update :=
  (setCtrl_field (s := s.draw.2) (·.update) (by rfl)).trans (congrArg (·.update) (draw_ctrl s y))

theorem endSuspension_update (s : State) (x y : Side) : ((s.endSuspension x).ctrl y).update = (s.ctrl y).update := by
  unfold State.endSuspension
  split
  · exact (startDog_update ..).trans (setCtrl_field (·.update) (by rfl))
  · rfl

/-- One sector less to erase at one controller. -/
def Update.eraseOne (u : Update) (y : Side) : Update :=
  match y with
  | .a => { u with leftA := u.left .a - 1 }
  | .b => { u with leftB := u.left .b - 1 }

/-- Sectors are left only in a staging that erases (R388). -/
theorem erasing_of_left {u : Update} (hl : 0 < u.left y) : u.op = 1 ∧ u.erasing = true := by
  by_contra hno
  unfold Update.left at hl
  rw [if_neg hno] at hl
  exact absurd hl (by decide)

theorem eraseOne_left {u : Update} (hl : 0 < u.left y) :
    (u.eraseOne y).left y = u.left y - 1 ∧ (u.eraseOne y).left y.other = u.left y.other := by
  obtain ⟨ho, he⟩ := erasing_of_left hl
  cases y <;> simp [Update.eraseOne, Update.left, Side.other, ho, he]

theorem eraseOne_unfinished {u : Update} (hl : 1 < u.left y) : ¬((u.eraseOne y).leftA = 0 ∧ (u.eraseOne y).leftB = 0) := by
  rintro ⟨ha, hb⟩
  cases y with
  | a => exact absurd ha (Nat.sub_ne_zero_of_lt hl)
  | b => exact absurd hb (Nat.sub_ne_zero_of_lt hl)

/-- A sector that is not the last of its slot. -/
theorem execSectorEraseDone_more (hx : s.active = some x) (hl : 1 < (s.ctrl x).update.left y) (he : (s.ctrl y).erases = true) :
    ∃ t, execSectorEraseDone y s = .next t ∧ (t.ctrl x).update = (s.ctrl x).update.eraseOne y := by
  rw [execSectorEraseDone, onActive_of_active hx]
  dsimp only
  rw [if_neg (by simp [he]; omega)]
  refine ⟨_, congrArg Host.Outcome.next (if_neg ?unfinished), ?update⟩
  case update =>
    rw [endSuspension_update, State.modCtrl_ctrl]
    dsimp only
    rw [modCtrl_field (·.update) fun d => by split <;> rfl]
    cases y <;> rfl
  case unfinished =>
    rw [endSuspension_update, State.modCtrl_ctrl]
    dsimp only
    rw [modCtrl_field (·.update) fun d => by split <;> rfl]
    cases y <;> exact eraseOne_unfinished hl

theorem publish_imageOk (s : State) (code subject : Nat) (ws : List Word) :
    ((s.publish code subject ws).ctrl y).imageOk = (s.ctrl y).imageOk := by
  unfold State.publish State.onActive
  split
  · rfl
  · exact setCtrl_field (·.imageOk) (by rfl)

theorem syncUpdate_imageOk (s : State) (x : Side) : ((s.syncUpdate x).ctrl y).imageOk = (s.ctrl y).imageOk := by
  unfold State.syncUpdate
  split
  · exact setCtrl_field (·.imageOk) (by rfl)
  · rfl

theorem fwPhase_imageOk (s : State) (x : Side) (phase : Nat) (side : Side) (count : Nat) :
    ((s.fwPhase x phase side count).ctrl y).imageOk = (s.ctrl y).imageOk :=
  (publish_imageOk ..).trans ((syncUpdate_imageOk ..).trans (setCtrl_field (·.imageOk) (by rfl)))

/-- The end of a migration sets `IMAGE_OK` (R391). -/
theorem execSettingsMigrationEnd_migrates {ws : List (Nat × Word)} (hm : s.migrates x = true) :
    ∃ t, execSettingsMigrationEnd x ws s = .next t ∧ (t.ctrl x).imageOk = true := by
  refine ⟨_, if_pos hm, (onActive_keeps (fun t => (t.ctrl x).imageOk) fun _ _ => ?_).trans ?_⟩
  · dsimp only
    split
    · exact fwPhase_imageOk ..
    · rfl
  · rw [State.modCtrl_ctrl]

end Update

/-! ## Handover, tail drop, claim and soak (R392 to R394, R396) -/

section Sequence
variable {s : State} {x y : Side}

theorem modCtrl_congr {f g : Ctrl → Ctrl} (h : f (s.ctrl x) = g (s.ctrl x)) : s.modCtrl x f = s.modCtrl x g :=
  congrArg (s.setCtrl x) h

theorem sendAll_ctrl (s : State) (x : Side) : (s.sendAll x).ctrl x = s.ctrl x :=
  (syncTags_ctrl ..).trans (State.setCtrl_other_ctrl ..)

variable (hx : s.active = some x)
include hx

/-- A swap whose duties are quiescent freezes its frog's area and yields. -/
theorem execHandover_yields (hp : s.isStandby x.other = true) (hm : (s.ctrl x.other).mirrorOk = true)
    (hy : (s.ctrl x).yieldSet = false) (ho : (s.ctrl x).update.op = 2) (hph : (s.ctrl x).update.phase = 4) (hc : s.compat = false)
    (hq : (s.ctrl x).quiet = true) : execHandover s =
      .next (((s.modCtrl x fun c => { c with pausing := true }).sendAll x).modCtrl x fun c =>
        { c.markArea 3 with yieldSet := true }) := by
  have hq1 : ((s.modCtrl x fun c => { c with pausing := true }).ctrl x).quiet = true := by
    rw [State.modCtrl_ctrl]
    exact hq
  have hop : (((s.modCtrl x fun c => { c with pausing := true }).sendAll x).ctrl x).update.op = 2 := by
    rw [sendAll_ctrl, State.modCtrl_ctrl]
    exact ho
  have hph3 : ((s.ctrl x).update.phase == 3) = false := by simp [hph]
  rw [execHandover, onActive_of_active hx]
  dsimp only
  rw [if_neg (by simp [hp, hm, hy, ho, hph])]
  simp only [hph3, hq1, hc, Bool.and_false, Bool.not_true, Bool.false_eq_true, if_false]
  exact congrArg _ (modCtrl_congr (by simp [ho, hph, hop]))

/-- A halt that yields first pauses the duties that are not quiescent (R484). -/
theorem execHandover_pauses (hp : s.isStandby x.other = true) (hm : (s.ctrl x.other).mirrorOk = true)
    (hy : (s.ctrl x).yieldSet = false) (hd : (s.ctrl x).dbg.st = 2) (ho : (s.ctrl x).update.op < 2) (hq : (s.ctrl x).quiet = false) :
    execHandover s = .next (s.modCtrl x fun c => { c with pausing := true }) := by
  have hq1 : ((s.modCtrl x fun c => { c with pausing := true }).ctrl x).quiet = false := by
    rw [State.modCtrl_ctrl]
    exact hq
  have hop : decide (2 ≤ (s.ctrl x).update.op) = false := decide_eq_false ho.not_ge
  rw [execHandover, onActive_of_active hx]
  dsimp only
  rw [if_neg (by simp [hp, hm, hy, hd])]
  simp only [hop, hq1, Bool.false_and, Bool.false_eq_true, if_false, Bool.not_false, if_true]

theorem execTadpoleTimeout_late (ht : s.tadpole y = true) (hs : s.isStandby y = false)
    (hd : (s.ctrl x).update.since + ms 10000 ≤ s.now) : execTadpoleTimeout y s = .next (s.tailDrop y 6) := by
  rw [execTadpoleTimeout, onActive_of_active hx]
  exact congrArg _ (if_pos (by simp [ht, hs, hd]))

theorem execClaimTimeout_due (hp : (s.ctrl x).update.phase = 8) (hd : (s.ctrl x).update.claimAt + ms 600000 ≤ s.now) :
    execClaimTimeout s = .next (((((s.modCtrl x fun c => { c.unpause with yieldSet := false }).endUpdate x 4 0 x.other 0).restart
      x.other 5).modCtrl x.other fun c => { c with running1 := (c.slotIn 4).getD c.running1 })) := by
  rw [execClaimTimeout, onActive_of_active hx]
  exact congrArg _ (if_pos ⟨hp, hd⟩)

theorem execSoakEnd_due (ho : (s.ctrl x).update.op = 2) (hp : (s.ctrl x).update.phase = 6) (hd : (s.ctrl x).update.soakEnd ≤ s.now)
    (ha : s.ctrlA.onTrial = true) (hb : s.ctrlB.onTrial = true) :
    execSoakEnd s = .next ((s.modBoth Ctrl.accept).endUpdate x 1 0 x 0) := by
  rw [execSoakEnd, onActive_of_active hx]
  exact congrArg _ (if_pos ⟨ho, hp, hd, ha, hb⟩)

omit hx in
theorem execTailDrop_tadpole {why : Nat} (ht : s.tadpole x = true) (hl : 1 ≤ why) (hu : why ≤ 6) :
    execTailDrop x why s = .next (s.tailDrop x why) :=
  if_pos (by simp [ht, hl, hu])

end Sequence

/-- Settles O41: a branch of the commands of an update for each clause. -/
theorem firmwareCommandsRun : Obligations.FirmwareCommandsRun := by
  intro s x
  refine ⟨fun y hx hl he => ?erased, fun _ => execSettingsMigrationEnd_migrates, execHandover_yields, execHandover_pauses,
    fun _ => execTailDrop_tadpole, fun _ => execTadpoleTimeout_late, execClaimTimeout_due, execSoakEnd_due⟩
  case erased =>
    obtain ⟨t, ht, hu⟩ := execSectorEraseDone_more hx hl he
    obtain ⟨hown, hother⟩ := eraseOne_left (Nat.zero_lt_of_lt hl)
    exact ⟨t, ht, by rw [hu, hown], by rw [hu, hother]⟩

end Sys2Proof.Machine
end

section
/-! The statements of chapter 16: the commands of the debug control word, and what Fyvail and JTAG do. -/

namespace Sys2Proof.Machine

/-! ## What a controller that is held out keeps (R388, R482)

The end of a staging, which a hold-out may bring, leaves the held controller's watchdog, debug state, role and mirror. -/

theorem eq_other_of_ne {x y : Side} (h : x ≠ y) : x = y.other := by
  cases x <;> cases y <;> simp_all [Side.other]

/-- Two controllers agree on what HOLD_OUT sets. -/
structure Ctrl.SameHold (c d : Ctrl) : Prop where
  dog : c.dog = d.dog
  dbg : c.dbg = d.dbg
  role : c.role = d.role
  mirrorOk : c.mirrorOk = d.mirrorOk

namespace Ctrl.SameHold
variable {b c d : Ctrl}

theorem refl (c : Ctrl) : c.SameHold c := ⟨rfl, rfl, rfl, rfl⟩

theorem trans (h : b.SameHold c) (h' : c.SameHold d) : b.SameHold d where
  dog := h.dog.trans h'.dog
  dbg := h.dbg.trans h'.dbg
  role := h.role.trans h'.role
  mirrorOk := h.mirrorOk.trans h'.mirrorOk

theorem finish (c : Ctrl) (tag status : Nat) (ws : List Word) : (c.finish tag status ws).SameHold c := by
  unfold Ctrl.finish
  split
  · exact .refl c
  · split <;> exact ⟨rfl, rfl, rfl, rfl⟩

end Ctrl.SameHold

/-- Controller `y` keeps from `s` to `t` what HOLD_OUT sets. -/
def State.KeepsHold (s : State) (y : Side) (t : State) : Prop := (t.ctrl y).SameHold (s.ctrl y)

namespace State.KeepsHold
variable {s t : State} {x y : Side}

theorem refl (s : State) : s.KeepsHold y s := Ctrl.SameHold.refl _

theorem setCtrl (h : s.KeepsHold y t) {c : Ctrl} (hc : c.SameHold (t.ctrl x)) : s.KeepsHold y (t.setCtrl x c) := by
  cases x <;> cases y
  · exact hc.trans h
  · exact h
  · exact h
  · exact hc.trans h

theorem modCtrl (h : s.KeepsHold y t) {f : Ctrl → Ctrl} (hf : ∀ c, (f c).SameHold c) : s.KeepsHold y (t.modCtrl x f) :=
  h.setCtrl (hf _)

theorem modBoth (h : s.KeepsHold y t) {f : Ctrl → Ctrl} (hf : ∀ c, (f c).SameHold c) : s.KeepsHold y (t.modBoth f) :=
  (h.modCtrl hf).modCtrl hf

theorem journal (h : s.KeepsHold y t) (op session tag kind seq status port digest : Nat) :
    s.KeepsHold y (t.journal x op session tag kind seq status port digest) := by
  unfold State.journal
  dsimp only
  split
  · exact (h.modCtrl fun _ => by exact ⟨rfl, rfl, rfl, rfl⟩).modCtrl fun _ => by exact ⟨rfl, rfl, rfl, rfl⟩
  · exact h.modCtrl fun _ => by exact ⟨rfl, rfl, rfl, rfl⟩

theorem journalReq (h : s.KeepsHold y t) (x : Side) (q : Req) (op kind status digest : Nat) :
    s.KeepsHold y (t.journalReq x q op kind status digest) :=
  (h.journal ..).modCtrl fun _ => by exact ⟨rfl, rfl, rfl, rfl⟩

theorem syncTags (h : s.KeepsHold y t) (x : Side) : s.KeepsHold y (t.syncTags x) := by
  unfold State.syncTags
  split
  · exact h.modCtrl fun _ => by exact ⟨rfl, rfl, rfl, rfl⟩
  · exact h

theorem complete (h : s.KeepsHold y t) (x : Side) (tag status : Nat) (ws : List Word) :
    s.KeepsHold y (t.complete x tag status ws) := by
  unfold State.complete
  split
  · exact h
  · exact ((h.journalReq ..).modCtrl fun _ => .finish ..).syncTags x

theorem publish (h : s.KeepsHold y t) (code subject : Nat) (ws : List Word) : s.KeepsHold y (t.publish code subject ws) := by
  unfold State.publish State.onActive
  split
  · exact h
  · exact h.setCtrl (by exact ⟨rfl, rfl, rfl, rfl⟩)

theorem endUpdate (h : s.KeepsHold y t) (x : Side) (outcome reason : Nat) (side : Side) (count : Nat) :
    s.KeepsHold y (t.endUpdate x outcome reason side count) := by
  have hreported (op phase : Nat) (v : BitVec 32) :
      s.KeepsHold y ((t.modBoth fun c => { c with update := {} }).fwEvent op phase outcome reason side v count) :=
    (h.modBoth fun _ => by exact ⟨rfl, rfl, rfl, rfl⟩).publish ..
  unfold State.endUpdate
  dsimp only
  split
  · exact (hreported ..).complete ..
  · exact hreported ..

/-- Only a suspended watchdog starts at the end of a suspension. -/
theorem endSuspension (h : s.KeepsHold y t) (hd : (s.ctrl y).dog.st ≠ 2) (x : Side) : s.KeepsHold y (t.endSuspension x) := by
  unfold State.endSuspension
  split
  next hx =>
    have hxy : x ≠ y := by
      rintro rfl
      exact hd (h.dog ▸ hx)
    obtain rfl := eq_other_of_ne hxy
    have hkept : (((t.modCtrl y.other fun c => { c with dog := { c.dog with needGood := true } }).startDog y.other).ctrl y) =
        t.ctrl y := by
      cases y <;> rfl
    rw [State.KeepsHold, hkept]
    exact h
  · exact h

theorem stopStaging (h : s.KeepsHold y t) (hd : (s.ctrl y).dog.st ≠ 2) (state : Nat) : s.KeepsHold y (t.stopStaging state) :=
  ((h.modBoth fun _ => by exact ⟨rfl, rfl, rfl, rfl⟩).endSuspension hd .a).endSuspension hd .b

theorem endStaging (h : s.KeepsHold y t) (hd : (s.ctrl y).dog.st ≠ 2) (x : Side) : s.KeepsHold y (t.endStaging x) := by
  have hstopped := h.stopStaging hd 6
  unfold State.endStaging
  dsimp only
  split
  · refine endUpdate ?_ ..
    split
    · exact hstopped
    · exact hstopped.modCtrl fun _ => by exact ⟨rfl, rfl, rfl, rfl⟩
  · exact h

theorem tendStaging (h : s.KeepsHold y t) (hd : (s.ctrl y).dog.st ≠ 2) : s.KeepsHold y t.tendStaging := by
  unfold State.tendStaging State.onActive
  split
  · exact h
  · dsimp only
    split
    · exact h
    · exact h.endStaging hd _

end State.KeepsHold

/-- A controller that takes a role has it, and keeps the rest of what HOLD_OUT sets. -/
theorem takeRole_hold (s : State) (x : Side) (r : Role) (cause : Nat) :
    ((s.takeRole x r cause).ctrl x).SameHold { s.ctrl x with role := r } := by
  unfold State.takeRole
  dsimp only
  split
  next hr => exact ⟨rfl, rfl, hr, rfl⟩
  · have hpub := (State.KeepsHold.refl (y := x) (s.modCtrl x fun c => { c with role := r })).publish 0x02 (sideCode x)
    exact (hpub _).trans (by rw [State.modCtrl_ctrl]; exact .refl _)

/-! ## Commands of the debug control word (R481 to R485, R488) -/

section DebugCommands
variable {s : State} {x : Side}

theorem onDie_arbiter (hs : s.supply = true) (f : Side → State) : s.onDie .arbiter f = s.dieRefuses .arbiter := by
  simp [State.onDie, hs]

theorem onDie_ctrl (hs : s.supply = true) (f : Side → State) : s.onDie (.ctrl x) f = f x := by
  simp [State.onDie, hs]

/-- A controller that is held out is ISOLATED with its watchdog STOPPED and no mirror (R482). -/
theorem holdOut_holds (hm : holdModes.contains (s.ctrl x).mode = true) (hh : s.holder ≠ some x) :
    ((s.holdOut x).ctrl x).dbg.st = 1 ∧ ((s.holdOut x).ctrl x).role = .isolated ∧ ((s.holdOut x).ctrl x).dog.st = 3 ∧
      ((s.holdOut x).ctrl x).mirrorOk = false := by
  unfold State.holdOut
  rw [if_neg (by simpa using hm), if_neg hh]
  dsimp only
  rw [dieDone_ctrl]
  have hrole := takeRole_hold ((s.draw.2).modCtrl x fun c =>
    { c.modDebug fun g => { g with st := 1 } with mirrorOk := false, dog := { c.dog with st := 3 } }) x .isolated (s.draw.1 % 16)
  rw [State.modCtrl_ctrl] at hrole
  obtain ⟨hdog, hdbg, hiso, hmir⟩ := ((State.KeepsHold.refl _).tendStaging (by simp [hrole.dog])).trans hrole
  exact ⟨congrArg (·.st) hdbg, hiso, congrArg (·.st) hdog, hmir⟩

theorem yieldHalt_begins (hm : yieldModes.contains (s.ctrl x).mode = true) (hh : s.holder = some x)
    (hp : s.isStandby x.other = true) (hi : (s.ctrl x.other).mirrorOk = true) : s.yieldHalt x =
      (s.modCtrl x fun c => { c.modDebug fun g => { g with st := 2, since := s.now } with pausing := true }).dieDone (.ctrl x) := by
  rw [State.yieldHalt, if_neg (by simpa using hm), if_neg (not_not_intro hh), if_neg (by simp [hp, hi])]

theorem haltInPlace_halts (hm : (s.ctrl x).mode = .maintain) (hh : s.holder = some x) (hd : (s.ctrl x).dogsOff = true)
    (he : (s.ctrl x).faults.episode.isOpen = false) (hw : ((s.ctrl x).hostDogs.any fun p => p.2.state == 1) = false) :
    s.haltInPlace x = (s.setCtrl x
      { (s.ctrl x).modDebug fun g => { g with st := 3, halted := true, since := s.now } with imageOk := true }).dieDone (.ctrl x) := by
  rw [State.haltInPlace, if_neg (not_not_intro hm), if_neg (not_not_intro hh), if_neg (by simp [hd]), if_neg (by simp [he]),
    if_neg (by simp [hw])]

theorem resumeDebug_resumes (hst : (s.ctrl x).dbg.st = 3) (hh : (s.ctrl x).dbg.held = []) :
    s.resumeDebug x = .next ((s.setCtrl x ((s.ctrl x).resumeEngines.modDebug fun g =>
      { g with st := 0, halted := false, held := [] })).dieDone (.ctrl x)) := by
  have hdbg : (s.ctrl x).resumeEngines.dbg.st = 3 := hst
  unfold State.resumeDebug
  dsimp only
  rw [if_neg (by simp [hst]), if_pos hst, hh, State.admitHeld]
  simp only [Ctrl.modDebug, hdbg, if_true]

theorem releaseDebug_latched (hst : (s.ctrl x).dbg.st = 1) (hl : (s.ctrl x).dbg.latched = true) :
    s.releaseDebug x = (s.restart x 4).dieDone (.ctrl x) := by
  rw [State.releaseDebug, if_neg (not_not_intro hst), if_pos hl]

theorem resetDie_resets (hm : (s.ctrl x).mode ≠ .dormant) (hh : s.holder ≠ some x ∨ (s.ctrl x).mode = .maintain) :
    s.resetDie x = ((s.restart x 4).tendStaging).dieDone (.ctrl x) := by
  refine if_neg ?_
  rintro (hd | ⟨hx, hn⟩)
  · exact hm hd
  · exact hh.elim (· hx) hn

theorem execYieldHaltTimeout_due (hst : (s.ctrl x).dbg.st = 2) (ht : (s.ctrl x).dbg.since + ms 20 ≤ s.now) (hh : s.holder = some x) :
    execYieldHaltTimeout x s = .next (s.setCtrl x
      { ((s.ctrl x).modDebug fun g => { g with st := 0, refuse := 7 }).unpause with yieldSet := false }) :=
  if_pos ⟨hst, ht, hh⟩

end DebugCommands

/-- Settles O18: with supply a command reaches its die, which the arbiter refuses and a controller carries out in the branch of each
clause. -/
theorem debugCommandsRun : Obligations.DebugCommandsRun := by
  intro s hs
  have arbiter := onDie_arbiter hs
  refine ⟨⟨congrArg _ (arbiter _), congrArg _ (arbiter _), congrArg _ (arbiter _), congrArg _ (arbiter _), congrArg _ (arbiter _),
    congrArg _ (arbiter _)⟩, fun x => ?_⟩
  have reaches := onDie_ctrl (x := x) hs
  refine ⟨fun hm hh => ⟨s.holdOut x, congrArg Host.Outcome.next (reaches _), holdOut_holds hm hh⟩,
    fun hm hh hp hi => congrArg _ ((reaches _).trans (yieldHalt_begins hm hh hp hi)),
    fun hm hh hd he hw => congrArg _ ((reaches _).trans (haltInPlace_halts hm hh hd he hw)),
    fun hst hh => (if_pos hs).trans (resumeDebug_resumes hst hh),
    fun hst hl => congrArg _ ((reaches _).trans (releaseDebug_latched hst hl)),
    fun hm hh => congrArg _ ((reaches _).trans (resetDie_resets hm hh)), execYieldHaltTimeout_due⟩

/-! ## Fyvail and JTAG (R475 to R480, R486, R487) -/

section DebugAccess
variable {s : State} {x : Side} {addr scan : Nat} {data : BitVec 32}

theorem debugMemory_runs (hst : (s.ctrl x).dbg.stopped = false) : s.debugMemory x addr data = s.dieRefuses (.ctrl x) := by
  unfold State.debugMemory
  split
  · exact if_neg (by simp [hst])
  · rfl

theorem debugControl_nop (hd : data.toNat / 2 ^ 28 = 0) : s.debugControl x 0 data = .next (s.dieDone (.ctrl x)) := by
  unfold State.debugControl
  rw [if_neg (not_not_intro rfl)]
  simp only [hd]

/-- A step of a core that is stopped halts it where the free value says (R486, and log entry 69). -/
theorem execCoreStep_stopped (hst : (s.ctrl x).dbg.stopped = true) : ∃ t, execCoreStep x s = .next t ∧
    (t.ctrl x).dbg.halted = true ∧ (t.ctrl x).dbg.corePc = Config.freeValue s.free ∧
    t.wire = .fyvail (.ctrl x) dstatDone :: s.wire := by
  refine ⟨_, if_pos hst, ?_, ?_, ?_⟩
  · rw [dieDone_ctrl, State.modCtrl_ctrl]
    rfl
  · rw [dieDone_ctrl, State.modCtrl_ctrl]
    rfl
  · exact congrArg _ (State.modCtrl_wire s.draw.2 x _)

theorem execCoreBreakpointHit_stopped (hst : (s.ctrl x).dbg.stopped = true) :
    execCoreBreakpointHit x s = .next (s.modCtrl x fun c => c.modDebug fun g => { g with halted := true }) :=
  if_pos hst

/-- EXTEST and INTEST act on the boundary register in BOOT under SAFE_BOOT (R476). -/
theorem boundary_test (hb : s.boundaryTest = true) (d : Die) (scan code : Nat) :
    s.boundary d scan code = ((s.capture d).loadScan d scan).setTest d code :=
  if_pos hb

/-- Elsewhere they act as BYPASS (R476). -/
theorem boundary_bypass (hb : s.boundaryTest = false) (d : Die) (scan code : Nat) :
    s.boundary d scan code = (s.emit (.jtag d scan)).setTest d 0 :=
  if_neg (by simp [hb])

end DebugAccess

/-- Settles O19: with supply a write reaches its access port and a JTAG instruction its die. -/
theorem debugAccessRuns : Obligations.DebugAccessRuns := by
  intro s d x addr at_ scan data
  have written (hs : s.supply = true) : ¬(!s.supply) = true := by simp [hs]
  exact ⟨rfl,
    fun hs ha hn hst => (execFyvailMemoryWrite_of_supply hs).trans (congrArg _ (debugMemory_stores hst ha hn)),
    fun hs hst => (execFyvailMemoryWrite_of_supply hs).trans (congrArg _ (debugMemory_runs hst)),
    fun hs _ => if_neg (written hs), fun hs => if_neg (written hs), fun hs => if_neg (written hs),
    fun hs hd => (if_neg (written hs)).trans (debugControl_nop hd), fun hs => if_neg (written hs),
    execCoreStep_stopped, execCoreBreakpointHit_stopped,
    fun hs hb => ⟨congrArg _ ((if_pos hs).trans (boundary_test hb ..)), congrArg _ ((if_pos hs).trans (boundary_test hb ..))⟩,
    fun hs hb => ⟨congrArg _ ((if_pos hs).trans (boundary_bypass hb ..)), congrArg _ ((if_pos hs).trans (boundary_bypass hb ..))⟩,
    fun hs => congrArg _ (if_pos hs), fun hs => congrArg _ (if_pos hs), fun hs _ => congrArg _ (if_pos hs)⟩

end Sys2Proof.Machine
end
